-- ==== Sys2Proof/Word.lean ====
section
/-! DEFINITION. The words of the part: bytes, 16-bit checks, and the 16-station sets (R61, R85, R93). -/

namespace Sys2Proof

/-- A byte of a site frame, a slot, a lane frame or the configuration image (R203). -/
abbrev Byte := BitVec 8

/-- A 16-bit check or sum (R201, R203). -/
abbrev Half := BitVec 16

/-- A set of stations 0 to 15, laid out as the assessed set of Table 11-6: bit n for station n. -/
abbrev StationSet := BitVec 16

/-- A set of the eight record flags, laid out as the bill-flag mask of Table 11-7: bit 0 Faulted to bit 7 Saturated. -/
abbrev FlagSet := BitVec 8

end Sys2Proof
end

