-- ==== Sys2Proof/Syntax.lean ====
section
/-! DEFINITION. What the part is told: bookings, control messages, slots, lane frames, and the commands, one constructor of
`Instr` per row of spec/opcode_table.json. -/

namespace Sys2Proof

/-- A booking key: origin station and sequence (R7, R35). -/
structure Key where
  origin : Nat
  seq    : Nat
  deriving DecidableEq, Repr

/-- The two directions; also the two sides and ring ports of a station (R1, R2). -/
inductive Dir where
  | east
  | west
  deriving DecidableEq, Repr

/-- Booking class (R35). -/
inductive BookingClass where
  | premium
  | standard
  | extra
  deriving DecidableEq, Repr

/-- Mode of a claim (R53, R61). -/
inductive Mode where
  | new
  | extend
  deriving DecidableEq, Repr

/-- Refusal reasons, in the order of their codes 1 to 8 (Table 11-1). -/
inductive Reason where
  | laneBusy
  | portBusy
  | contested
  | tableFull
  | notSynced
  | recovering
  | unreachable
  | badWindow
  deriving DecidableEq, Repr

/-- A drop: station and output port (R35). -/
structure Drop where
  station : Nat
  port    : Nat
  deriving DecidableEq, Repr

/-- The booking description (R35, R57, R61). -/
structure Booking where
  matchId     : Nat
  rateClass   : Nat
  cls         : BookingClass
  isProtected : Bool
  dir         : Dir
  first       : Nat
  count       : Nat
  winStart    : Nat
  winEnd      : Nat
  input       : Nat
  drops       : List Drop
  deriving DecidableEq, Repr

/-- The verdict of a CLAIM (R61). -/
inductive Verdict where
  | clear
  | refused (reason : Reason) (station : Nat)
  deriving DecidableEq, Repr

/-- The common message header, less its kind (R6). -/
structure Header where
  origin    : Nat
  seq       : Nat
  sentDir   : Dir
  stamp     : Nat
  unsynced  : Bool
  hops      : Nat
  wraps     : Nat
  firstWrap : Option Nat
  deriving DecidableEq, Repr

/-- The CLAIM body (R61, Table 4-2). The booking's window end is the new end in mode Extend. -/
structure ClaimBody where
  mode     : Mode
  bk       : Booking
  verdict  : Verdict
  assessed : StationSet
  deriving DecidableEq, Repr

/-- State of a match record (R178). -/
inductive RecordState where
  | opened
  | closing
  | closed
  deriving DecidableEq, Repr

/-- A line of a match record, and the charged line of a meter part (R168, R177). -/
structure Line where
  key      : Key
  port     : Nat
  billable : Nat
  charge   : Nat
  flags    : FlagSet
  deriving DecidableEq, Repr

/-- A match record in use (R177, Table 10-1). -/
structure MatchRecord where
  matchId         : Nat
  state           : RecordState
  total           : Nat
  contributions   : Nat
  pending         : Nat
  flags           : FlagSet
  lines           : List Line
  folded          : Nat
  foldedCharge    : Nat
  firstActivation : Nat
  lastCharge      : Option Nat
  deriving DecidableEq, Repr

/-- A statement or a copy of a record: the record's number and every field (R186, R187, R190). -/
structure Statement where
  number : Nat
  record : MatchRecord
  deriving DecidableEq, Repr

/-- The REANNOUNCE body (R93). The booking's window end is the responder's current end. -/
structure Reannounce where
  key     : Key
  bk      : Booking
  active  : Bool
  targets : StationSet
  deriving DecidableEq, Repr

/-- Message bodies, one constructor per kind of Table 1-1, and the unknown kinds of R203. -/
inductive Body where
  | mark
  | claim (b : ClaimBody)
  | confirm (mode : Mode)
  | abandon (mode : Mode)
  | withdraw (winEnd : Nat)
  | holdlost (key : Key) (mode : Mode) (station : Nat)
  | switchreq (key : Key) (station : Nat) (on : Bool)
  | bridge (key : Key) (on : Bool) (drops : StationSet)
  | spanstate (side : Dir) (up : Bool)
  | query (target : Nat) (matchId : Nat)
  | answer (querier : Nat) (seq : Nat) (matchId : Nat) (copy : Option Statement)
  | recallReq
  | reannounce (r : Reannounce)
  | unknown (kind : Byte) (bytes : List Byte)
  deriving DecidableEq, Repr

/-- A control message (R6). -/
structure Msg where
  hdr  : Header
  body : Body
  deriving DecidableEq, Repr

/-- A control lane slot: the far-end Down indication, and the message when the slot is full (section 1.2). -/
structure Slot where
  farDown : Bool
  msg     : Option Msg
  deriving DecidableEq, Repr

/-- The three bytes of a lane tag as they stand on the lane: the origin byte, and the two sequence bytes as one number (R203, Table 11-7). -/
structure LaneTag where
  origin : Byte
  seq    : Half
  deriving DecidableEq, Repr

/-- A correctly framed lane frame: lane tag, content byte, payload, frame check (R118, Table 11-7). -/
structure LaneFrame where
  tag     : LaneTag
  content : Byte
  payload : List Byte
  check   : Half
  deriving DecidableEq, Repr

/-- Why a span monitor loses its span (R131, R132). -/
inductive LossCause where
  | light
  | framing
  deriving DecidableEq, Repr

/-- The commands: one constructor per row of spec/opcode_table.json.
A site request carries the host tag and the parameter bytes of its frame (Table 11-8).
A slot arrival carries the side it arrives on, the far-end Down indication and the message. -/
inductive Instr where
  | book (tag : Byte) (params : List Byte)
  | withdraw (tag : Byte) (params : List Byte)
  | extend (tag : Byte) (params : List Byte)
  | setClock (tag : Byte) (params : List Byte)
  | force (tag : Byte) (params : List Byte)
  | lockout (tag : Byte) (params : List Byte)
  | clearSwitch (tag : Byte) (params : List Byte)
  | readEntry (tag : Byte) (params : List Byte)
  | readMonitor (tag : Byte) (params : List Byte)
  | readMatch (tag : Byte) (params : List Byte)
  | closeMatch (tag : Byte) (params : List Byte)
  | takeStatement (tag : Byte) (params : List Byte)
  | remoteRead (tag : Byte) (params : List Byte)
  | restart (tag : Byte) (params : List Byte)
  | unknownRequest (bodyType : Byte) (tag : Byte) (code : Byte)
  | badFrame (bytes : List Byte)
  | interByteTimeout (bytes : List Byte)
  | frameSent
  | warmReset
  | coldReset
  | configurationLoad (image : List Byte)
  | bypassSlotForward (port : Dir) (slot : Slot)
  | slotDroppedOnWrap (port : Dir) (farDown : Bool) (m : Msg)
  | emptySlotArrival (port : Dir) (farDown : Bool)
  | markReceived (port : Dir) (farDown : Bool) (h : Header)
  | unknownKindMessage (port : Dir) (farDown : Bool) (h : Header) (kind : Byte) (bytes : List Byte)
  | claimReceived (port : Dir) (farDown : Bool) (h : Header) (b : ClaimBody)
  | claimReturned (port : Dir) (farDown : Bool) (h : Header) (b : ClaimBody)
  | outboundJoin (dir : Dir)
  | confirmReceived (port : Dir) (farDown : Bool) (h : Header) (mode : Mode)
  | holdlostHeldOverJoin
  | abandonReceived (port : Dir) (farDown : Bool) (h : Header) (mode : Mode)
  | withdrawReceived (port : Dir) (farDown : Bool) (h : Header) (winEnd : Nat)
  | holdlostReceived (port : Dir) (farDown : Bool) (h : Header) (key : Key) (mode : Mode) (station : Nat)
  | switchreqReceived (port : Dir) (farDown : Bool) (h : Header) (key : Key) (station : Nat) (on : Bool)
  | bridgeOnReceived (port : Dir) (farDown : Bool) (h : Header) (key : Key) (drops : StationSet)
  | bridgeOffReceived (port : Dir) (farDown : Bool) (h : Header) (key : Key)
  | spanstateReceived (port : Dir) (farDown : Bool) (h : Header) (side : Dir) (up : Bool)
  | queryReceived (port : Dir) (farDown : Bool) (h : Header) (target : Nat) (matchId : Nat)
  | answerReceived (port : Dir) (farDown : Bool) (h : Header) (querier : Nat) (seq : Nat) (matchId : Nat) (copy : Option Statement)
  | recallReceived (port : Dir) (farDown : Bool) (h : Header)
  | recallReturned (port : Dir) (farDown : Bool) (h : Header)
  | reannounceReceived (port : Dir) (farDown : Bool) (h : Header) (r : Reannounce)
  | walkResume
  | markTimerExpiry
  | secondBoundary
  | chargeTake
  | chargeCompletion
  | circuitTimeout (slot : Nat)
  | tentativeLifetimeExpiry (index : Nat)
  | extensionLifetimeExpiry (index : Nat)
  | retryDeadline (slot : Nat)
  | ageDeadline (key : Key) (mode : Mode)
  | holdOffExpiry (index : Nat)
  | restoreWaitExpiry (index : Nat)
  | resendDeadline
  | quietDeadline
  | recoveryLimit
  | queryDeadline
  | spanLoss (side : Dir) (cause : LossCause)
  | spanSignalReturn (side : Dir)
  | spanConfirmed (side : Dir)
  | inputStateChange (port : Nat) (isPresent : Bool)
  | laneFramePeriod (westIn eastIn : List (Option LaneFrame)) (inputs : List (List (List Byte)))
  | resetPinRelease
  deriving DecidableEq, Repr

end Sys2Proof
end

