-- ==== Sys2Proof/Decode.lean ====
section
/-! DEFINITION. The commands that words spell: the table gives no row any bits, so no word spells a command. -/

namespace Sys2Proof

/-- The command that the low `nbits` bits of a word spell by the table's bits. No row of spec/opcode_table.json has bits: the commands are
requests, slots, frames, pins and timers, and each carries its operands itself. -/
def decodeTableWord (_nbits _w : Nat) : Option Instr := none

end Sys2Proof
end

