-- ==== Sys2Proof/Config.lean ====
section
/-! DEFINITION. The fixed numbers of Table 1 and the free values: values the manual leaves open, as constants without a body. -/

namespace Sys2Proof.Config

/-- The largest ring second (R24). -/
def maxSeconds : Nat := 4294967295

/-- Calendar entries of a station (R34). -/
def entryCount : Nat := 64

/-- Claim slots of a station (R53). -/
def slotCount : Nat := 8

/-- Match records of a station (R177). -/
def recordCount : Nat := 16

/-- Lanes of one direction of a span (R3). -/
def laneCount : Nat := 24

/-- Circuit timeout in ms: claim return, query answer, RECALL return (R59, R87, R189). -/
def circuitMs : Nat := 500

/-- Lifetime in ms of a tentative from its assessment (R35, R38). -/
def tentativeMs : Nat := 2000

/-- Age in ms of a recently-assessed record (R55). -/
def ageMs : Nat := 5000

/-- MARK interval in ms (R30). -/
def markMs : Nat := 10000

/-- Span Up confirmation in ms (R131). -/
def confirmMs : Nat := 2000

/-- Quiet deadline in ms (R87, R89). -/
def quietMs : Nat := 1000

/-- Recovery limit in ms (R86). -/
def recoveryMs : Nat := 10000

/-- Places of a transmit queue (R10). -/
def queuePlaces : Nat := 16

/-- Places of a transmit queue open to every kind (R10). -/
def openPlaces : Nat := 12

/-- A FREE VALUE (DESIGN CHOICE, log 5): the request code byte of the n-th BadFrame reply. R193 says that every reply carries the
request code, and a frame that was not delimited has none; the manual does not say which byte stands there. -/
opaque badFrameCode : Nat → Byte

end Sys2Proof.Config
end

