-- ==== Sys2Proof/Machine/State.lean ====
section
/-! DEFINITION. The state of one station as plain data, the reasons a step can stop, and the state right after a cold reset. -/

namespace Sys2Proof.Machine

/-- The faults of a step. The manual names none: a malformed request is answered by a status, an event that finds no state it
applies to does nothing (R48). So the type has no constructor, and no meaning raises a fault. Safe. -/
inductive Fault where
  deriving DecidableEq, Repr

/-- The refusals of a step. -/
inductive Refusal where
  /-- Raised by `exec` alone, for a row that has no meaning yet. Safe: nothing is claimed of the row. -/
  | notModelled (mnemonic : String)
  deriving DecidableEq, Repr

/-! ### Start-up and configuration -/

/-- Why a station is in bypass (R201). -/
inductive BypassCause where
  | sumMismatch
  | ringSize
  | stationNumber
  deriving DecidableEq, Repr

/-- Where the station stands in start-up (R199, R201). -/
inductive Phase where
  | inReset
  | loading
  | normal
  | bypass (cause : BypassCause)
  deriving DecidableEq, Repr

/-- Rounding mode of a rate class (R174, R200). -/
inductive Rounding where
  | down
  | up
  | nearest
  deriving DecidableEq, Repr

/-- The tariff of a rate class: r, s, d, m and the rounding mode (R167, R171). -/
structure Tariff where
  rate      : Nat
  surcharge : Nat
  fee       : Nat
  minimum   : Nat
  rounding  : Rounding
  deriving DecidableEq, Repr

/-- The fields that clamping can change (Table 11-4). -/
inductive ClampField where
  | minimum (rateClass : Nat)
  | holdOff
  | restoreWait
  | threshold
  | rounding (rateClass : Nat)
  | linkRate
  deriving DecidableEq, Repr

/-- The configuration as used (R1, R200). -/
structure Cfg where
  station     : Nat
  ringSize    : Nat
  holdOff     : Nat
  restoreWait : Nat
  threshold   : Nat
  billMask    : FlagSet
  linkRate    : Nat
  tariffs     : List Tariff
  clamped     : List ClampField
  deriving DecidableEq, Repr

/-- The inputs that the monitors follow: light and control-lane framing of each ring port (R131), and signal with framing of each
tributary input (R129). -/
structure Pins where
  lightEast   : Bool
  lightWest   : Bool
  framingEast : Bool
  framingWest : Bool
  inputs      : List Bool
  deriving DecidableEq, Repr

/-! ### Ring clock and control lanes -/

/-- The ring clock (section 2.1). The MARK timer is stopped when its deadline is absent. `late` is the model's own (log 2): the local
milliseconds run beyond the 999th of the running second while its boundary waits for SECOND_BOUNDARY. -/
structure Clock where
  synced       : Bool
  seconds      : Nat
  fraction     : Nat
  late         : Nat
  markDeadline : Option Nat
  deriving DecidableEq, Repr

/-- The control lane controllers: transmit queues (R10), held-over list (R12), message counter (R7), last-served queue (R20), the
far-end Down indications last received (R18), and the slots last put on the outputs (R5). -/
structure Lanes where
  qEast      : List Msg
  qWest      : List Msg
  heldOver   : List Msg
  counter    : Nat
  lastServed : Dir
  farEast    : Bool
  farWest    : Bool
  outEast    : Slot
  outWest    : Slot
  deriving DecidableEq, Repr

/-! ### Monitors' judgments -/

/-- Conditions of a lane (R121), from best to worst; a Mismatch carries the key met. -/
inductive Cond where
  | clean
  | noFeed
  | noTag
  | bridged (key : Key)
  | foreign (key : Key)
  | fail
  deriving DecidableEq, Repr

/-- Content indicator as read (R118, R203). -/
inductive Content where
  | feed
  | noFeed
  | fail
  deriving DecidableEq, Repr

/-- A closed record of one second: of a watch place (R122), or of a path of a drop (R125). -/
structure SecondRec where
  cond    : Cond
  overlay : Bool
  settle  : Bool
  deriving DecidableEq, Repr

/-- A watch place of a lane monitor (R119). `opened` is the worst condition of the open record, absent before its first period.
`settleEnd` is present while a settle period is in force and gives the boundary that ends it at the latest (R126, R127).
`settleMark` says that the open record's second began in settle or is the second of the place's writing. -/
structure Place where
  owner      : Key
  index      : Nat
  opened     : Option Cond
  closed     : Option SecondRec
  reported   : Cond
  settleEnd  : Option Nat
  settleMark : Bool
  deriving DecidableEq, Repr

/-- An incoming lane monitor (Table 7-1). `periods` counts the frame periods of the current second while watched (R123, R124);
`framed` says whether the last period brought a correctly framed frame (R103). -/
structure LaneMon where
  working     : Option Place
  protection  : Option Place
  displaced   : Option (Key × Nat)
  checkFailed : Nat
  periods     : Nat
  overlay     : Bool
  degradeRun  : Nat
  clearRun    : Nat
  last        : Option (Option Key × Content)
  framed      : Bool
  deriving DecidableEq, Repr

/-- A tributary input monitor (R129, R130). -/
structure InputMon where
  isPresent  : Bool
  changes    : Nat
  atBoundary : Bool
  changed    : Bool
  deriving DecidableEq, Repr

/-- A span monitor: state, and the deadline of a running confirmation timer (R131). -/
structure SpanMon where
  up      : Bool
  confirm : Option Nat
  deriving DecidableEq, Repr

/-- The monitors: 48 lanes (west port 0 to 23, then east port 0 to 23, as Table 11-3 numbers them), 8 inputs, 2 spans. -/
structure Monitors where
  lanes    : List LaneMon
  inputs   : List InputMon
  spanEast : SpanMon
  spanWest : SpanMon
  deriving DecidableEq, Repr

/-! ### The span calendar -/

/-- Entry states (R40). -/
inductive EntryState where
  | tentative
  | held
  | active
  | closing
  | charged
  deriving DecidableEq, Repr

/-- Roles (R41, R42). -/
inductive Role where
  | origin
  | transit
  | tap
  | endDrop
  | protOrigin
  | protTransit
  | protTap
  | protEnd
  deriving DecidableEq, Repr

/-- Why an entry is unbound (R179). -/
inductive UnboundCause where
  | tableFull
  | matchClosed
  deriving DecidableEq, Repr

/-- The match binding (R36, R158). -/
inductive Binding where
  | none
  | bound (record : Nat)
  | unbound (cause : UnboundCause)
  deriving DecidableEq, Repr

/-- The meter part (Table 9-1). -/
structure Meter where
  a           : Nat
  f           : Nat
  x           : Nat
  z           : Nat
  b           : Nat
  p           : Nat
  g           : Nat
  firstActive : Option Nat
  lastCounted : Option Nat
  protLatch   : Bool
  preLatch    : Option Bool
  isPartial   : Bool
  binding     : Binding
  charged     : Option Line
  deriving DecidableEq, Repr

/-- Drop protection states (Table 8-2). -/
inductive ProtState where
  | working
  | holdOff
  | bridging
  | protecting
  | restoreWait
  | forced
  | lockout
  deriving DecidableEq, Repr

/-- The protection part (R37). -/
structure ProtPart where
  state       : ProtState
  holdOff     : Option Nat
  restoreWait : Option Nat
  resends     : Nat
  deriving DecidableEq, Repr

/-- The request record of a protected drop (Table 8-1); On is `true`. -/
structure Request where
  announced : Bool
  toSend    : Bool
  deriving DecidableEq, Repr

/-- The origin's bridge set (Table 8-1). -/
structure BridgeSet where
  drops     : StationSet
  announced : Bool
  toSend    : Bool
  deriving DecidableEq, Repr

/-- The pending extension part (R38): new end, lifetime deadline, and the old end, where its reservation begins (R51). -/
structure ExtPart where
  oldEnd   : Nat
  newEnd   : Nat
  lifetime : Option Nat
  deriving DecidableEq, Repr

/-- The end that a withdraw-pending marker records (R56). -/
inductive MarkerEnd where
  | nowAtJoining
  | fixed (second : Nat)
  deriving DecidableEq, Repr

/-- What the monitors keep for a drop entry: the open selected-path record and the three closed path records (R125). -/
structure Paths where
  selOpen    : Option Cond
  working    : Option SecondRec
  protection : Option SecondRec
  selected   : Option SecondRec
  deriving DecidableEq, Repr

/-- A calendar entry: the base (R35), the optional parts (R36 to R39), and the records kept beside it (R56, R125, R136). -/
structure Entry where
  key        : Key
  bk         : Booking
  roles      : List Role
  state      : EntryState
  lifetime   : Option Nat
  installed  : Bool
  meter      : Option Meter
  prot       : Option ProtPart
  request    : Option Request
  bridgeFlag : Option Bool
  bridge     : Option BridgeSet
  ext        : Option ExtPart
  preempted  : Option Bool
  preExtEnd  : Option Nat
  marker     : Option MarkerEnd
  paths      : Option Paths
  deriving DecidableEq, Repr

/-! ### The claim controller -/

/-- The result a claim concludes with (R67). -/
inductive ClaimResult where
  | clear
  | refused (reason : Reason) (station : Nat)
  | unreachable (missing : Option StationSet)
  deriving DecidableEq, Repr

/-- State and phase of a claim slot in use (Table 4-1), with the deadline or the outbound message of each. -/
inductive SlotState where
  | awaiting (circuit : Nat)
  | outConfirm
  | outAbandon (result : ClaimResult)
  | retryWait (deadline : Nat)
  deriving DecidableEq, Repr

/-- A claim slot in use (Table 4-1). The request copy is the booking described, with the new end as its window end in mode Extend,
and the old end. -/
structure ClaimSlot where
  state    : SlotState
  mode     : Mode
  key      : Key
  firstKey : Key
  req      : Booking
  oldEnd   : Nat
  attempt  : Nat
  deriving DecidableEq, Repr

/-- The mark of a recently-assessed record (R55). -/
inductive RecentMark where
  | opened
  | confirmed
  | lost
  deriving DecidableEq, Repr

/-- A recently-assessed record (R55). -/
structure Recent where
  key   : Key
  mode  : Mode
  limit : Option Nat
  mark  : RecentMark
  age   : Nat
  deriving DecidableEq, Repr

/-- The claim controller: slots (R53), sequence counter (R54), recently-assessed list (R55). -/
structure Claims where
  slots      : List (Option ClaimSlot)
  seqCounter : Nat
  recent     : List Recent
  deriving DecidableEq, Repr

/-! ### The recall controller -/

/-- Recovery state (R85). -/
inductive RecoveryState where
  | normal
  | awaitingSync
  | recovering
  deriving DecidableEq, Repr

/-- Restart kind (R85). -/
inductive RestartKind where
  | cold
  | warm
  deriving DecidableEq, Repr

/-- The recall controller (Table 5-1); `walk` is the cursor of a walk in progress. `highestOwn` is the highest sequence among the
own-origin keys installed in this recovery, which R97 step 2 asks for. -/
structure Recall where
  state      : RecoveryState
  kind       : RestartKind
  sends      : Nat
  lastSeq    : Option Nat
  returned   : Bool
  resend     : Option Nat
  quiet      : Option Nat
  limit      : Option Nat
  pendingSet : StationSet
  walk       : Option Nat
  installed  : Nat
  duplicates : Nat
  conflicts  : Nat
  highestOwn : Option Nat
  deriving DecidableEq, Repr

/-! ### The lane switch -/

/-- The source of a layer (R98). -/
inductive Source where
  | through
  | add (port : Nat) (position : Nat)
  deriving DecidableEq, Repr

/-- A layer of a cell: source, owner key and calendar index (R98). -/
structure Layer where
  src   : Source
  owner : Key
  index : Nat
  deriving DecidableEq, Repr

/-- The standing source of a cell (R98). -/
inductive Standing where
  | through
  | idle
  deriving DecidableEq, Repr

/-- An outgoing lane cell (Table 6-1). -/
structure Cell where
  standing   : Standing
  working    : Option Layer
  protection : Option Layer
  deriving DecidableEq, Repr

/-- A source of a tributary output (Table 6-2). -/
structure OutSource where
  owner : Key
  index : Nat
  dir   : Dir
  first : Nat
  count : Nat
  deriving DecidableEq, Repr

/-- The selector of an output (R105). -/
inductive Selector where
  | working
  | protection
  deriving DecidableEq, Repr

/-- A tributary output (Table 6-2); `delivered` and `payload` are what it carried in the last lane frame period (R107, R117). -/
structure Output where
  working    : Option OutSource
  protection : Option OutSource
  selector   : Selector
  delivered  : Bool
  payload    : List (List Byte)
  deriving DecidableEq, Repr

/-- The source a cell transmits after substitution (R99, R103). -/
inductive TxSource where
  | through
  | add (port : Nat) (position : Nat) (owner : Key)
  | idle
  | failFill
  deriving DecidableEq, Repr

/-- The lane switch: 48 cells (east span 0 to 23, then west span 0 to 23), 8 outputs, and the frames the 48 span-lanes
transmitted in the last lane frame period. -/
structure Switch where
  cells   : List Cell
  outputs : List Output
  tx      : List LaneFrame
  deriving DecidableEq, Repr

/-- The bridged-key set and its overflow count (R150). -/
structure Bridged where
  keys     : List Key
  overflow : Nat
  deriving DecidableEq, Repr

/-- The pending remote query (R189). -/
structure Query where
  target   : Nat
  matchId  : Nat
  seq      : Nat
  deadline : Nat
  deriving DecidableEq, Repr

/-- Close queue (R165), charge unit (R167: Computing with an index, or Idle), match records (R177), pending query (R189). -/
structure Billing where
  closeQueue : List Nat
  charge     : Option Nat
  records    : List (Option MatchRecord)
  query      : Option Query
  deriving DecidableEq, Repr

/-! ### Notices -/

/-- Cause of ClockSynced (R32). -/
inductive SyncCause where
  | stamp (station : Nat) (kind : Nat)
  | setClock
  deriving DecidableEq, Repr

/-- Outcome of a booking (R83). -/
inductive Outcome where
  | committed
  | contested (station : Nat)
  | refused (reason : Reason) (station : Nat)
  | unreachable (missing : Option StationSet)
  deriving DecidableEq, Repr

/-- What a WITHDRAW did (R83). -/
inductive WithdrawEffect where
  | freed
  | ended
  | trimmed
  deriving DecidableEq, Repr

/-- Cause of the end of recovery (R89). -/
inductive EndCause where
  | quiet
  | timeLimit
  | incomplete
  deriving DecidableEq, Repr

/-- Cause of a span monitor change (R132). -/
inductive SpanCause where
  | lossOfLight
  | lossOfFraming
  | confirmed
  deriving DecidableEq, Repr

/-- Cause of a protection state change (R157). -/
inductive ProtCause where
  | workingFail
  | workingClean
  | holdOffExpiry
  | bridgeSeen
  | restoreExpiry
  | protectionFail
  | force
  | lockout
  | clearSwitch
  deriving DecidableEq, Repr

/-- Outcome of a charge: placed, or kept with the unbound cause (R168). -/
inductive ChargeOutcome where
  | placed
  | charged (cause : UnboundCause)
  deriving DecidableEq, Repr

/-- Outcome of a remote query (R191). -/
inductive QueryOutcome where
  | found (copy : Statement)
  | notFound
  | noAnswer
  deriving DecidableEq, Repr

/-- Which place of a lane monitor (R128). -/
inductive PlaceKind where
  | working
  | protection
  deriving DecidableEq, Repr

/-- The kinds of notice with their contents, in the order of Table 11-9. -/
inductive NoticeBody where
  | clockSynced (seconds : Nat) (cause : SyncCause)
  | clockSkew (stamp : Nat) (seconds : Nat) (station : Nat) (kind : Nat)
  | bookingOutcome (mode : Mode) (firstKey : Key) (key : Key) (attempt : Nat) (outcome : Outcome)
  | entryCommitted (key : Key) (mode : Mode) (winStart : Nat) (winEnd : Nat)
  | tentativeLapsed (key : Key) (mode : Mode)
  | holdLost (key : Key) (mode : Mode) (station : Nat) (toGive : MarkerEnd)
  | entryWithdrawn (key : Key) (newEnd : Nat) (effect : WithdrawEffect)
  | recallConflict (key : Key) (result : Reason) (index : Option Nat)
  | recoveryEnded (cause : EndCause) (kind : RestartKind) (installed : Nat) (duplicates : Nat) (conflicts : Nat)
  | laneState (port : Dir) (lane : Nat) (place : PlaceKind) (owner : Key) (cond : Cond) (previous : Cond) (degraded : Bool) (second : Nat)
  | inputState (port : Nat) (isPresent : Bool) (changes : Nat) (key : Option Key)
  | spanState (side : Dir) (up : Bool) (cause : SpanCause) (seconds : Nat)
  | spanReport (station : Nat) (side : Dir) (up : Bool) (stamp : Nat)
  | protectionState (key : Key) (previous : ProtState) (state : ProtState) (cause : ProtCause) (selector : Selector) (seconds : Nat)
  | bridgeState (key : Key) (on : Bool) (drops : StationSet)
  | preemptState (key : Key) (set : Bool) (layer : Key)
  | lineCharged (key : Key) (port : Nat) (a : Nat) (billable : Nat) (charge : Nat) (flags : FlagSet) (outcome : ChargeOutcome)
  | matchUnplaced (key : Key) (matchId : Nat) (cause : UnboundCause) (state : EntryState)
  | matchFlag (matchId : Nat) (newFlags : FlagSet) (flags : FlagSet) (total : Nat) (key : Key)
  | matchReady (matchId : Nat) (total : Nat) (contributions : Nat) (folded : Nat) (flags : FlagSet)
  | queryResult (target : Nat) (matchId : Nat) (outcome : QueryOutcome)
  deriving DecidableEq, Repr

/-- A pending notice (R196). -/
structure Notice where
  source     : Nat
  content    : NoticeBody
  seconds    : Nat
  superseded : Nat
  deriving DecidableEq, Repr

/-! ### The site port -/

/-- Status codes (Table 11-1). -/
inductive Status where
  | done
  | accepted
  | busy
  | badFrame
  | badRequest
  | notConfigured
  | notSynced
  | recovering
  | notFound
  | wrongState
  | lockedOut
  | queryPending
  | refused (reason : Reason)
  deriving DecidableEq, Repr

/-- The base fields of an entry as its view shows them (R52, Table 3-1): the input port is present at the origin alone. -/
structure BaseView where
  key         : Key
  matchId     : Nat
  rateClass   : Nat
  cls         : BookingClass
  isProtected : Bool
  dir         : Dir
  first       : Nat
  count       : Nat
  winStart    : Nat
  winEnd      : Nat
  input       : Option Nat
  drops       : List Drop
  roles       : List Role
  state       : EntryState
  lifetime    : Option Nat
  installed   : Bool
  deriving DecidableEq, Repr

/-- The optional parts of an entry and the records kept beside it (R36 to R39, R56, R125, R136); an absent part is shown as absent (R52). -/
structure PartsView where
  meter      : Option Meter
  prot       : Option ProtPart
  request    : Option Request
  bridgeFlag : Option Bool
  bridge     : Option BridgeSet
  ext        : Option ExtPart
  preempted  : Option Bool
  preExtEnd  : Option Nat
  marker     : Option MarkerEnd
  paths      : Option Paths
  deriving DecidableEq, Repr

/-- The view of an entry (R52): its index, base fields and parts, the cells whose layers it owns and the output it owns (R117), and the
records of the lanes its places watch (R135). -/
structure EntryView where
  index   : Nat
  base    : BaseView
  parts   : PartsView
  cells   : List (Dir × Nat × PlaceKind)
  output  : Option Nat
  watched : List (Dir × Nat × PlaceKind × Place)
  deriving DecidableEq, Repr

/-- A span monitor as ReadMonitor shows it: state, ms of confirmation run when running, wrap state of the side (R135). -/
structure SpanView where
  up      : Bool
  running : Option Nat
  wrapped : Bool
  deriving DecidableEq, Repr

/-- The recall controller as ReadMonitor shows it (R85). -/
structure RecallView where
  state      : RecoveryState
  kind       : RestartKind
  sends      : Nat
  returned   : Bool
  pendingSet : StationSet
  walk       : Option Nat
  deriving DecidableEq, Repr

/-- The station view (R195). -/
structure StationView where
  phase      : Phase
  cfg        : Cfg
  synced     : Bool
  seconds    : Nat
  fraction   : Nat
  recov      : RecallView
  cells      : List (Cell × TxSource)
  outputs    : List Output
  lanes      : List LaneMon
  inputs     : List InputMon
  spanEast   : SpanView
  spanWest   : SpanView
  bridged    : Bridged
  closeQueue : List Nat
  charge     : Option Nat
  qEast      : Nat
  qWest      : Nat
  heldOver   : Nat
  notices    : Nat
  discards   : Nat
  deriving DecidableEq, Repr

/-- The data of a reply (R194). -/
inductive ReplyData where
  | none
  | key (k : Key)
  | query (seq : Nat)
  | freeSlot
  | entry (v : EntryView)
  | station (v : StationView)
  | statement (v : Statement)
  | matchState (state : RecordState) (pending : Nat)
  deriving DecidableEq, Repr

/-- A reply: host tag, request code, status, data (section 11.2). -/
structure Reply where
  tag    : Byte
  code   : Byte
  status : Status
  data   : ReplyData
  deriving DecidableEq, Repr

/-- A frame the transmitter has sent (R198). -/
inductive TxFrame where
  | reply (r : Reply)
  | notice (n : Notice)
  deriving DecidableEq, Repr

/-- The receiver (R192); it is off until the configuration load ends (R199). -/
inductive Rx where
  | off
  | hunting
  | receiving
  deriving DecidableEq, Repr

/-- How far a Restart has gone (R193, R202): none taken, taken with its reply waiting, its reply sent. -/
inductive RestartStage where
  | none
  | taken
  | sent
  deriving DecidableEq, Repr

/-- The site port (R192, R193, R196, R198). -/
structure Site where
  rx        : Rx
  reply     : Option Reply
  shorts    : List Reply
  discards  : Nat
  restart   : RestartStage
  notices   : List Notice
  lastFrame : Option TxFrame
  deriving DecidableEq, Repr

/-! ### The station -/

/-- One station: everything the spec gives it, and the queue of waiting commands. -/
structure State where
  phase     : Phase
  cfg       : Cfg
  nowMs     : Nat
  pins      : Pins
  clock     : Clock
  lane      : Lanes
  entries   : List (Option Entry)
  claims    : Claims
  recov     : Recall
  switch    : Switch
  mons      : Monitors
  bridged   : Bridged
  bill      : Billing
  site      : Site
  freeCount : Nat
  pending   : List Instr
  deriving DecidableEq, Repr

/-! ### Reset values -/

/-- A tariff before the configuration is loaded (DESIGN CHOICE, log 1). -/
def Tariff.reset : Tariff := { rate := 0, surcharge := 0, fee := 0, minimum := 0, rounding := .down }

/-- The configuration before it is loaded (DESIGN CHOICE, log 1); 115,200 bit/s is the rate in bypass (R201). -/
def Cfg.reset : Cfg :=
  { station := 0, ringSize := 0, holdOff := 0, restoreWait := 1, threshold := 1, billMask := 0, linkRate := 115200,
    tariffs := List.replicate 8 Tariff.reset, clamped := [] }

/-- The inputs at power-up (DESIGN CHOICE, log 3). -/
def Pins.reset : Pins :=
  { lightEast := false, lightWest := false, framingEast := false, framingWest := false, inputs := List.replicate 8 false }

/-- The ring clock after a cold reset (R23). -/
def Clock.reset : Clock := { synced := false, seconds := 0, fraction := 0, late := 0, markDeadline := none }

/-- The control lane controllers after a cold reset (R7, R10, R12, R20; the outputs by R22; the indications DESIGN CHOICE, log 4). -/
def Lanes.reset : Lanes :=
  { qEast := [], qWest := [], heldOver := [], counter := 0, lastServed := .west, farEast := false, farWest := false,
    outEast := { farDown := true, msg := none }, outWest := { farDown := true, msg := none } }

/-- The claim controller after a cold reset (R53, R54, R55). -/
def Claims.reset : Claims := { slots := List.replicate 8 none, seqCounter := 0, recent := [] }

/-- The recall controller after a cold reset (R85). -/
def Recall.reset : Recall :=
  { state := .awaitingSync, kind := .cold, sends := 0, lastSeq := none, returned := false, resend := none, quiet := none,
    limit := none, pendingSet := 0, walk := none, installed := 0, duplicates := 0, conflicts := 0, highestOwn := none }

/-- A cell after a cold reset (R98). -/
def Cell.reset : Cell := { standing := .through, working := none, protection := none }

/-- An output after a cold reset (R105). -/
def Output.reset : Output :=
  { working := none, protection := none, selector := .working, delivered := false, payload := [] }

/-- The fail-fill frame with its check (R102, R203: CRC-16 over the tag bytes of none, content 2 and no payload; the value is
shown equal to the computed check by `test_failFill_check`). -/
def LaneFrame.failReset : LaneFrame := { tag := { origin := 0xFF, seq := 0xFFFF }, content := 2, payload := [], check := 0x23BD }

/-- The lane switch after a cold reset: every cell stands at Through and transmits fail fill (R98, R103, R105). -/
def Switch.reset : Switch :=
  { cells := List.replicate 48 Cell.reset, outputs := List.replicate 8 Output.reset,
    tx := List.replicate 48 LaneFrame.failReset }

/-- A lane monitor after a cold reset (R119). -/
def LaneMon.reset : LaneMon :=
  { working := none, protection := none, displaced := none, checkFailed := 0, periods := 0, overlay := false, degradeRun := 0,
    clearRun := 0, last := none, framed := false }

/-- An input monitor after a cold reset (R129). -/
def InputMon.reset : InputMon := { isPresent := false, changes := 0, atBoundary := false, changed := false }

/-- A span monitor after a cold reset (R134). -/
def SpanMon.reset : SpanMon := { up := false, confirm := none }

/-- The monitors after a cold reset. -/
def Monitors.reset : Monitors :=
  { lanes := List.replicate 48 LaneMon.reset, inputs := List.replicate 8 InputMon.reset, spanEast := SpanMon.reset,
    spanWest := SpanMon.reset }

/-- The bridged-key set after a cold reset (R150). -/
def Bridged.reset : Bridged := { keys := [], overflow := 0 }

/-- Close queue, charge unit, match records and pending query after a cold reset (R165, R167, R177, R189). -/
def Billing.reset : Billing := { closeQueue := [], charge := none, records := List.replicate 16 none, query := none }

/-- The site port after a cold reset (R193, R196, R198, R199). -/
def Site.reset : Site :=
  { rx := .off, reply := none, shorts := [], discards := 0, restart := .none, notices := [], lastFrame := none }

/-- The station right after a cold reset, the reset pin still held (R199). -/
def State.reset : State :=
  { phase := .inReset, cfg := Cfg.reset, nowMs := 0, pins := Pins.reset, clock := Clock.reset, lane := Lanes.reset,
    entries := List.replicate 64 none, claims := Claims.reset, recov := Recall.reset, switch := Switch.reset,
    mons := Monitors.reset, bridged := Bridged.reset, bill := Billing.reset, site := Site.reset, freeCount := 0, pending := [] }

end Sys2Proof.Machine
end

