-- ==== Sys2Proof/Machine/Ring.lean ====
section
/-! DEFINITION. Stations, distances, arcs (R1, R2, R4), station sets, lane groups (R3) and roles (R41, R42). -/

namespace Sys2Proof.Machine

/-! ### Station sets -/

/-- The set that holds one station alone. -/
def stationBit (n : Nat) : StationSet := BitVec.ofNat 16 (2 ^ n)

/-- Membership of a station in a set. -/
def stationIn (s : StationSet) (n : Nat) : Bool := s.getLsbD n

/-- A set with one station added. -/
def stationAdd (s : StationSet) (n : Nat) : StationSet := s ||| stationBit n

/-- A set with one station removed. -/
def stationRemove (s : StationSet) (n : Nat) : StationSet := s &&& ~~~ stationBit n

/-- The set of the stations of a list. -/
def stationSetOf (l : List Nat) : StationSet := l.foldl stationAdd 0

/-! ### Distances and arcs -/

/-- The other direction, the other side. -/
def opp : Dir → Dir
  | .east => .west
  | .west => .east

/-- The distance from a to b in a direction on a ring of n stations (R1): (b − a) mod n east, (a − b) mod n west. -/
def dist (n : Nat) : Dir → Nat → Nat → Nat
  | .east, a, b => (b % n + (n - a % n)) % n
  | .west, a, b => (a % n + (n - b % n)) % n

/-- Station x lies on the arc from a to b in direction d (R4). -/
def onArc (n : Nat) (d : Dir) (a b x : Nat) : Bool := decide (dist n d a x ≤ dist n d a b)

/-- The port at which lanes and slots travelling in a direction arrive (R2). -/
def inPort (d : Dir) : Dir := opp d

/-! ### Lane groups -/

/-- A lane group is valid: k is 1, 2 or 4, f a multiple of k, and f + k − 1 at most 23 (R3). -/
def laneGroupOk (f k : Nat) : Bool := (k == 1 || k == 2 || k == 4) && f % k == 0 && decide (f + k ≤ Config.laneCount)

/-- The lanes of a group with their bonded positions (R3). -/
def lanesOf (f k : Nat) : List Nat := (List.range k).map (f + ·)

/-! ### Roles -/

/-- A station is one of the booking's drops. -/
def isDrop (bk : Booking) (x : Nat) : Bool := bk.drops.any (fun d => d.station == x)

/-- The output port that the drop list gives for a station (R44). -/
def outPort (bk : Booking) (x : Nat) : Option Nat := (bk.drops.find? (fun d => d.station == x)).map Drop.port

/-- The working role of station x (R41). -/
def workRole (n : Nat) (k : Key) (bk : Booking) (x : Nat) : Option Role :=
  match bk.drops.getLast? with
  | none => none
  | some last =>
    if onArc n bk.dir k.origin last.station x then
      some (if x = k.origin then .origin else if x = last.station then .endDrop else if isDrop bk x then .tap else .transit)
    else none

/-- The protection role of station x (R42). -/
def protRole (n : Nat) (k : Key) (bk : Booking) (x : Nat) : Option Role :=
  match bk.drops.head? with
  | none => none
  | some d1 =>
    if bk.isProtected && onArc n (opp bk.dir) k.origin d1.station x then
      some (if x = k.origin then .protOrigin else if x = d1.station then .protEnd else if isDrop bk x then .protTap
        else .protTransit)
    else none

/-- The roles of station x for a booking, the working role first (section 3.4). -/
def rolesOf (n : Nat) (k : Key) (bk : Booking) (x : Nat) : List Role :=
  (workRole n k bk x).toList ++ (protRole n k bk x).toList

/-- The stations that hold a role in a booking: the working arc, and for a protected booking the protection arc (R67). -/
def holders (n : Nat) (k : Key) (bk : Booking) : StationSet :=
  stationSetOf ((List.range n).filter (fun x => !(rolesOf n k bk x).isEmpty))

/-- A role list has a drop role, TAP or END (R36). -/
def hasDropRole (rs : List Role) : Bool := rs.contains .tap || rs.contains .endDrop

/-- A role list has a working role that reserves the outgoing span of the working direction (R43). -/
def hasWorkSpan (rs : List Role) : Bool := rs.contains .origin || rs.contains .transit || rs.contains .tap

/-- A role list has a protection role that reserves the outgoing span of the opposite direction (R43). -/
def hasProtSpan (rs : List Role) : Bool := rs.contains .protOrigin || rs.contains .protTransit || rs.contains .protTap

/-- A role list has a role that passes the protection path Through (R151). -/
def hasProtThrough (rs : List Role) : Bool := rs.contains .protTransit || rs.contains .protTap

/-- A role list has a role that keeps a bridge flag and watches the protection path (R120, R136). -/
def hasProtWatch (rs : List Role) : Bool := hasProtThrough rs || rs.contains .protEnd

/-- A role list has a role that watches the working lanes (R120). -/
def hasWorkWatch (rs : List Role) : Bool := rs.contains .transit || hasDropRole rs

/-- A role list has a drop's protection role (R109). -/
def hasProtDrop (rs : List Role) : Bool := rs.contains .protTap || rs.contains .protEnd

end Sys2Proof.Machine
end

