-- ==== Sys2Proof/Machine/Ops.lean ====
section
/-! DEFINITION. The named updates of the state, the places of its tables, notices (R196, R197), timers (R29) and the transmit
queues (R7, R9 to R12). -/

namespace Sys2Proof.Machine

/-! ### Updates, one per field -/

def State.withPhase (s : State) (v : Phase) : State := { s with phase := v }
def State.withCfg (s : State) (v : Cfg) : State := { s with cfg := v }
def State.withNowMs (s : State) (v : Nat) : State := { s with nowMs := v }
def State.withPins (s : State) (v : Pins) : State := { s with pins := v }
def State.withClock (s : State) (v : Clock) : State := { s with clock := v }
def State.withLane (s : State) (v : Lanes) : State := { s with lane := v }
def State.withEntries (s : State) (v : List (Option Entry)) : State := { s with entries := v }
def State.withClaims (s : State) (v : Claims) : State := { s with claims := v }
def State.withRecov (s : State) (v : Recall) : State := { s with recov := v }
def State.withSwitch (s : State) (v : Switch) : State := { s with switch := v }
def State.withMons (s : State) (v : Monitors) : State := { s with mons := v }
def State.withBridged (s : State) (v : Bridged) : State := { s with bridged := v }
def State.withBill (s : State) (v : Billing) : State := { s with bill := v }
def State.withSite (s : State) (v : Site) : State := { s with site := v }
def State.withFreeCount (s : State) (v : Nat) : State := { s with freeCount := v }
def State.withPending (s : State) (v : List Instr) : State := { s with pending := v }

/-- This station's number (R1). -/
def State.self (s : State) : Nat := s.cfg.station

/-- "Now": this station's ring seconds (R23, R27). -/
def State.now (s : State) : Nat := s.clock.seconds

/-- The ring size (R1). -/
def State.ring (s : State) : Nat := s.cfg.ringSize

/-- The station is in normal running (R201). -/
def State.running (s : State) : Bool := s.phase == .normal

/-! ### Places of tables -/

/-- The content of place i of a table whose places are free or in use. -/
def placeAt {α : Type} (l : List (Option α)) (i : Nat) : Option α := (l[i]?).getD none

/-- Place i of a list changed by f; a place outside the list is no place. -/
def modifyAt {α : Type} (l : List α) (i : Nat) (f : α → α) : List α :=
  match l[i]? with
  | some a => l.set i (f a)
  | none => l

/-- The lowest-numbered free place of a table. -/
def firstFree {α : Type} (l : List (Option α)) : Option Nat := l.findIdx? Option.isNone

/-- The calendar entry of an index (R34). -/
def State.entry (s : State) (i : Nat) : Option Entry := placeAt s.entries i

/-- The calendar indexes in the order of every scan (R34). -/
def indexes : List Nat := List.range Config.entryCount

/-- Writes an entry into its slot. -/
def setEntry (s : State) (i : Nat) (e : Entry) : State := s.withEntries (s.entries.set i (some e))

/-- Changes the entry of an index, if the slot holds one. -/
def updEntry (s : State) (i : Nat) (f : Entry → Entry) : State :=
  match s.entry i with
  | some e => setEntry s i (f e)
  | none => s

/-- The claim slot of a number (R53). -/
def State.slot (s : State) (n : Nat) : Option ClaimSlot := placeAt s.claims.slots n

/-- Writes or frees a claim slot. -/
def setSlot (s : State) (n : Nat) (v : Option ClaimSlot) : State :=
  s.withClaims { s.claims with slots := s.claims.slots.set n v }

/-- The match record of a number (R177). -/
def State.record (s : State) (r : Nat) : Option MatchRecord := placeAt s.bill.records r

/-- Writes or frees a match record. -/
def setRecord (s : State) (r : Nat) (v : Option MatchRecord) : State :=
  s.withBill { s.bill with records := s.bill.records.set r v }

/-- A count raised by one, saturating. -/
def raiseSat (limit n : Nat) : Nat := min limit (n + 1)

/-! ### Local timers -/

/-- The clock runs: Synced and below the limit (R24). -/
def clockRuns (s : State) : Bool := s.clock.synced && decide (s.clock.seconds < Config.maxSeconds)

/-- The local milliseconds that the running second has had; 1,000 and more of them while its boundary waits to be taken (log 2). -/
def Clock.ran (c : Clock) : Nat := c.fraction + c.late

/-- A clock whose running second has had n local milliseconds: the fraction goes up to 999, and the rest is counted apart (R24, log 2). -/
def Clock.withRan (c : Clock) (n : Nat) : Clock := { c with fraction := min 999 n, late := n - 999 }

/-- Local milliseconds pass: the local instant advances, and with it the fraction of a clock that runs (R24). -/
def passTime (s : State) (ms : Nat) : State :=
  let t := s.withNowMs (s.nowMs + ms)
  if clockRuns s then t.withClock (s.clock.withRan (s.clock.ran + ms)) else t

/-- The local time reaches a deadline: a timer's expiry is taken at or after its deadline (R29). -/
def reach (s : State) (deadline : Nat) : State := passTime s (deadline - s.nowMs)

/-- The deadline a number of milliseconds from now. -/
def after (s : State) (ms : Nat) : Nat := s.nowMs + ms

/-! ### Notices -/

/-- Notice source of a lane monitor (Table 11-3). -/
def sourceLane : Dir → Nat → Nat
  | .west, lane => lane
  | .east, lane => 24 + lane

/-- Notice source of a span monitor (Table 11-3). -/
def sourceSpan : Dir → Nat
  | .west => 48
  | .east => 49

/-- Notice source of a tributary input monitor (Table 11-3). -/
def sourceInput (port : Nat) : Nat := 50 + port

/-- Notice source of a calendar entry (R34, Table 11-3). -/
def sourceEntry (i : Nat) : Nat := 58 + i

/-- Notice source of a claim slot (Table 11-3). -/
def sourceSlot (n : Nat) : Nat := 122 + n

/-- Notice source of a match record (Table 11-3). -/
def sourceRecord (r : Nat) : Nat := 130 + r

/-- Notice sources of the query controller, the ring clock and the recall controller (Table 11-3). -/
def sourceQuery : Nat := 146
def sourceClock : Nat := 147
def sourceRecall : Nat := 148

/-- A notice of a source that has one pending replaces it where it stands; otherwise it joins the tail (R197). -/
def placeNotice (q : List Notice) (source : Nat) (content : NoticeBody) (seconds : Nat) : List Notice :=
  if q.any (fun n => n.source == source) then
    q.map (fun n => if n.source == source then
      { n with content := content, seconds := seconds, superseded := raiseSat 255 n.superseded } else n)
  else q ++ [{ source := source, content := content, seconds := seconds, superseded := 0 }]

/-- A block raises a notice (R197). Outside normal running no block raises one (R134, R196). -/
def raiseNotice (s : State) (source : Nat) (content : NoticeBody) : State :=
  if s.running then s.withSite { s.site with notices := placeNotice s.site.notices source content s.now } else s

/-! ### Transmit queues -/

/-- The transmit queue of a direction (R10). -/
def State.queue (s : State) : Dir → List Msg
  | .east => s.lane.qEast
  | .west => s.lane.qWest

/-- Replaces the transmit queue of a direction. -/
def setQueue (s : State) (d : Dir) (q : List Msg) : State :=
  match d with
  | .east => s.withLane { s.lane with qEast := q }
  | .west => s.withLane { s.lane with qWest := q }

/-- A HOLDLOST is held over for the queue of a direction: it takes the next place there before any other message (R12). -/
def heldFor (s : State) (d : Dir) : Bool :=
  match d with
  | .east => !s.lane.heldOver.isEmpty
  | .west => false

/-- The queue of a direction holds fewer than a number of messages, and none is held over for it (R10, R12). -/
def hasPlace (s : State) (d : Dir) (places : Nat) : Bool := decide ((s.queue d).length < places) && !heldFor s d

/-- A slot's CONFIRM or ABANDON waits to join (R11). -/
def SlotState.isOutbound : SlotState → Bool
  | .outConfirm => true
  | .outAbandon _ => true
  | .awaiting _ => false
  | .retryWait _ => false

/-- A CONFIRM or ABANDON waits for the queue of a direction (R10, R11). -/
def outboundWaits (s : State) (d : Dir) : Bool :=
  s.claims.slots.any (fun o => match o with
    | some c => c.state.isOutbound && c.req.dir == d
    | none => false)

/-- A protection kind may join: fewer than 16 queued (R10). -/
def canJoinProt (s : State) (d : Dir) : Bool := hasPlace s d Config.queuePlaces

/-- A message of another kind may join: fewer than 12 queued (R10). -/
def canJoin (s : State) (d : Dir) : Bool := hasPlace s d Config.openPlaces

/-- A site-originated message, or a REANNOUNCE, may join: fewer than 12 queued and no CONFIRM or ABANDON waiting (R10, R11). -/
def canJoinSite (s : State) (d : Dir) : Bool := canJoin s d && !outboundWaits s d

/-- A message of this station as it joins a queue: the header is written but for stamp, flag and counts (R6, R9). -/
def newMsg (s : State) (d : Dir) (seq : Nat) (body : Body) : Msg :=
  { hdr := { origin := s.self, seq := seq, sentDir := d, stamp := 0, unsynced := false, hops := 0, wraps := 0, firstWrap := none },
    body := body }

/-- A message joins the transmit queue of a direction at its tail (R10). -/
def join (s : State) (d : Dir) (seq : Nat) (body : Body) : State := setQueue s d (s.queue d ++ [newMsg s d seq body])

/-- The message counter after one message (R7). -/
def nextSeq (n : Nat) : Nat := (n + 1) % 65536

/-- A message of MARK, SPANSTATE, QUERY, ANSWER or RECALL joins the east queue with the message counter's value (R7, R9). -/
def joinCounted (s : State) (body : Body) : State :=
  let t := join s .east s.lane.counter body
  t.withLane { t.lane with counter := nextSeq t.lane.counter }

/-- A HOLDLOST joins the east queue, or the held-over list when the queue is full, or is dropped when that is full too (R12).
A HOLDLOST behind held-over ones keeps their order of arrival. -/
def joinHoldlost (s : State) (k : Key) (mode : Mode) : State :=
  let body := Body.holdlost k mode s.self
  if canJoinProt s .east then join s .east k.seq body
  else if s.lane.heldOver.length < 16 then
    s.withLane { s.lane with heldOver := s.lane.heldOver ++ [newMsg s .east k.seq body] }
  else s

/-- The oldest held-over HOLDLOST joins the east queue at the tail when a place is free there (R12). -/
def joinHeldOver (s : State) : State :=
  match s.lane.heldOver with
  | m :: rest =>
    if s.lane.qEast.length < Config.queuePlaces then
      s.withLane { s.lane with qEast := s.lane.qEast ++ [m], heldOver := rest }
    else s
  | [] => s

/-- The head of a direction's queue has left it: the rest stays, and the place that frees in the east queue goes at once to the oldest
held-over HOLDLOST, before any other message can take it (R12, R13). -/
def freePlace (s : State) (d : Dir) (rest : List Msg) : State :=
  match d with
  | .east => joinHeldOver (setQueue s .east rest)
  | .west => setQueue s .west rest

/-- Table 11-6's kind byte, for the notices that carry a kind (R32). -/
def kindCode : Body → Nat
  | .mark => 1
  | .claim _ => 2
  | .confirm _ => 3
  | .abandon _ => 4
  | .withdraw _ => 5
  | .holdlost _ _ _ => 6
  | .switchreq _ _ _ => 7
  | .bridge _ _ _ => 8
  | .spanstate _ _ => 9
  | .query _ _ => 10
  | .answer _ _ _ _ => 11
  | .recallReq => 12
  | .reannounce _ => 13
  | .unknown kind _ => kind.toNat

/-- Applies an operation at each of a list of indexes, in order. -/
def forEach (l : List Nat) (s : State) (f : State → Nat → State) : State := l.foldl f s

/-- The MARK timer starts (again), while the clock is Synced (R30). -/
def startMark (s : State) : State :=
  if s.clock.synced then s.withClock { s.clock with markDeadline := some (after s Config.markMs) } else s

end Sys2Proof.Machine
end

