-- ==== Sys2Proof/Machine/Calendar.lean ====
section
/-! DEFINITION. The span calendar: the parts of a new entry (R35 to R39), reservations (R43, R44), the occupancy test (R45, R46),
allocation, lookup and freeing (R47 to R49). -/

namespace Sys2Proof.Machine

/-! ### Reservations -/

/-- The kind of a span reservation (R43). -/
inductive ResKind where
  | working (cls : BookingClass)
  | protection
  deriving DecidableEq, Repr

/-- What a booking reserves at this station over the seconds start to stop − 1 (R43, R44). -/
structure Reserve where
  spans   : List (Dir × ResKind)
  first   : Nat
  count   : Nat
  inPort  : Option Nat
  outPort : Option Nat
  start   : Nat
  stop    : Nat
  deriving DecidableEq, Repr

/-- The reservations that a set of roles gives station x over a span of seconds (R43, R44). -/
def reserveOf (rs : List Role) (bk : Booking) (x start stop : Nat) : Reserve :=
  { spans := (if hasWorkSpan rs then [(bk.dir, ResKind.working bk.cls)] else [])
      ++ (if hasProtSpan rs then [(opp bk.dir, ResKind.protection)] else []),
    first := bk.first, count := bk.count,
    inPort := if rs.contains .origin then some bk.input else none,
    outPort := if hasDropRole rs || hasProtDrop rs then outPort bk x else none,
    start := start, stop := stop }

/-- Two kinds on one span-lane conflict: all pairs but working Extra with protection (Table 3-5). -/
def kindsConflict : ResKind → ResKind → Bool
  | .working .extra, .protection => false
  | .protection, .working .extra => false
  | _, _ => true

/-- Two reservations have a second in common (R45); one that covers no second meets nothing (R43). -/
def secondsMeet (a b : Reserve) : Bool :=
  decide (a.start < a.stop) && decide (b.start < b.stop) && decide (a.start < b.stop) && decide (b.start < a.stop)

/-- Two lane groups have a lane in common. -/
def lanesMeet (a b : Reserve) : Bool := decide (a.first < b.first + b.count) && decide (b.first < a.first + a.count)

/-- A span-lane conflict (R45). -/
def spanConflict (a b : Reserve) : Bool :=
  secondsMeet a b && lanesMeet a b && a.spans.any (fun p => b.spans.any (fun q => p.1 == q.1 && kindsConflict p.2 q.2))

/-- Two optional ports are the same port. -/
def samePort : Option Nat → Option Nat → Bool
  | some p, some q => p == q
  | _, _ => false

/-- A port conflict (R44, R45). -/
def portConflict (a b : Reserve) : Bool :=
  secondsMeet a b && (samePort a.inPort b.inPort || samePort a.outPort b.outPort)

/-- The entry's own reservations over its window. -/
def entryReserve (x : Nat) (e : Entry) : Reserve := reserveOf e.roles e.bk x e.bk.winStart e.bk.winEnd

/-- The reservations of the entry's pending extension part, from the old end to the new end (R38, R51). -/
def extReserve (x : Nat) (e : Entry) : Option Reserve := e.ext.map (fun p => reserveOf e.roles e.bk x p.oldEnd p.newEnd)

/-! ### The occupancy test -/

/-- The result of the occupancy test: Pass, or the reason with the first conflicting entry in index order (R46). -/
inductive TestResult where
  | pass
  | fails (reason : Reason) (first : Option Nat)
  deriving DecidableEq, Repr

/-- A committed entry: Held or Active. -/
def isCommitted (e : Entry) : Bool := e.state == .held || e.state == .active

/-- The first index in order whose entry satisfies a test. -/
def firstEntry (s : State) (p : Entry → Bool) : Option Nat :=
  indexes.find? (fun i => match s.entry i with
    | some e => p e
    | none => false)

/-- The entry has a span-lane conflict through its committed window. -/
def laneBusy (x : Nat) (cand : Reserve) (e : Entry) : Bool := isCommitted e && spanConflict (entryReserve x e) cand

/-- The entry has a port conflict through its committed window. -/
def portBusy (x : Nat) (cand : Reserve) (e : Entry) : Bool := isCommitted e && portConflict (entryReserve x e) cand

/-- The entry has any conflict as a Tentative entry or through its pending extension part. -/
def contests (x : Nat) (cand : Reserve) (e : Entry) : Bool :=
  (e.state == .tentative && (spanConflict (entryReserve x e) cand || portConflict (entryReserve x e) cand))
    || (isCommitted e && (match extReserve x e with
      | some r => spanConflict r cand || portConflict r cand
      | none => false))

/-- The occupancy test of a new entry (R45, R46). The key is absent while a Book request has taken none yet. The first conflicting entry that a
result names is the first whose conflict gives that result, not one of a lower index whose conflict ranks lower (DESIGN CHOICE, log 32). A
TableFull names no entry, for none conflicts (DESIGN CHOICE, log 54). -/
def testNew (s : State) (key : Option Key) (cand : Reserve) : TestResult :=
  match firstEntry s (laneBusy s.self cand) with
  | some i => .fails .laneBusy (some i)
  | none =>
    match firstEntry s (portBusy s.self cand) with
    | some i => .fails .portBusy (some i)
    | none =>
      match firstEntry s (fun e => contests s.self cand e || key == some e.key) with
      | some i => .fails .contested (some i)
      | none => if (firstFree s.entries).isSome then .pass else .fails .tableFull none

/-- The occupancy test of an extension, which skips the entry with the candidate's key (R45, R46); it names the first conflicting entry as
`testNew` does (log 32). -/
def testExtend (s : State) (key : Key) (cand : Reserve) : TestResult :=
  match firstEntry s (fun e => e.key != key && laneBusy s.self cand e) with
  | some i => .fails .laneBusy (some i)
  | none =>
    match firstEntry s (fun e => e.key != key && portBusy s.self cand e) with
    | some i => .fails .portBusy (some i)
    | none =>
      match firstEntry s (fun e => e.key != key && contests s.self cand e) with
      | some i => .fails .contested (some i)
      | none => .pass

/-- The candidate of a new booking at this station, over its window (R59, R63, R94). -/
def newCandidate (s : State) (k : Key) (bk : Booking) : Reserve :=
  reserveOf (rolesOf s.ring k bk s.self) bk s.self bk.winStart bk.winEnd

/-- The candidate of an extension at this station, from the entry's end to the new end (R64, R77). -/
def extendCandidate (s : State) (e : Entry) (newEnd : Nat) : Reserve := reserveOf e.roles e.bk s.self e.bk.winEnd newEnd

/-! ### Allocation, lookup, freeing -/

/-- A meter part as it is created (R36, Table 9-1). -/
def Meter.fresh (isExtra isPartial : Bool) : Meter :=
  { a := 0, f := 0, x := 0, z := 0, b := 0, p := 0, g := 0, firstActive := none, lastCounted := none, protLatch := false,
    preLatch := if isExtra then some false else none, isPartial := isPartial, binding := .none, charged := none }

/-- A new entry with the parts its roles and class call for (R35 to R39, R56, R125, R136). -/
def freshEntry (k : Key) (bk : Booking) (rs : List Role) (st : EntryState) (lifetime : Option Nat) (installed : Bool) : Entry :=
  let isExtra := bk.cls == .extra
  let isProtDrop := bk.isProtected && hasDropRole rs
  { key := k, bk := bk, roles := rs, state := st, lifetime := lifetime, installed := installed,
    meter := if hasDropRole rs then some (Meter.fresh isExtra (installed && st == .active)) else none,
    prot := if isProtDrop then some { state := .working, holdOff := none, restoreWait := none, resends := 0 } else none,
    request := if isProtDrop then some { announced := false, toSend := false } else none,
    bridgeFlag := if hasProtWatch rs then some false else none,
    bridge := if rs.contains .protOrigin then some { drops := 0, announced := false, toSend := false } else none,
    ext := none,
    preempted := if isExtra then some false else none,
    preExtEnd := none, marker := none,
    paths := if hasDropRole rs then some { selOpen := none, working := none, protection := none, selected := none } else none }

/-- Allocates an entry in the lowest-numbered free slot with this station's roles (R47). -/
def allocate (s : State) (k : Key) (bk : Booking) (st : EntryState) (lifetime : Option Nat) (installed : Bool) : State :=
  match firstFree s.entries with
  | some i => setEntry s i (freshEntry k bk (rolesOf s.ring k bk s.self) st lifetime installed)
  | none => s

/-- The index of the entry with a key, or absent (R48). -/
def lookup (s : State) (k : Key) : Option Nat := firstEntry s (fun e => e.key == k)

/-- The entry with a key, with its index (R48). -/
def findEntry (s : State) (k : Key) : Option (Nat × Entry) :=
  match lookup s k with
  | some i => (s.entry i).map (fun e => (i, e))
  | none => none

/-- Removes a key from the bridged-key set; the keys after it keep their order (R150). -/
def dropBridged (s : State) (k : Key) : State := s.withBridged { s.bridged with keys := s.bridged.keys.filter (fun x => x != k) }

/-- Frees an entry with all its parts and the records kept under its index, and removes its key from the bridged-key set (R49). -/
def freeEntry (s : State) (i : Nat) : State :=
  match s.entry i with
  | some e => (dropBridged s e.key).withEntries (s.entries.set i none)
  | none => s

/-- The input port of an entry: present at the origin alone (R35). -/
def entryInput (e : Entry) : Option Nat := if e.roles.contains .origin then some e.bk.input else none

/-- The entry has a meter part's role, TAP or END. -/
def isDropEntry (e : Entry) : Bool := hasDropRole e.roles

/-- A claim slot holds a key (R77, R79, R81). -/
def slotHolds (s : State) (k : Key) : Bool :=
  s.claims.slots.any (fun o => match o with
    | some c => c.key == k
    | none => false)

end Sys2Proof.Machine
end

