-- ==== Sys2Proof/Machine/LaneSwitch.lean ====
section
/-! DEFINITION. The lane switch: cells and their layers (R98, R99, R104), tributary outputs (R105, R106, R108), and the Preempted flag
that layers decide (R154). -/

namespace Sys2Proof.Machine

/-! ### Cells -/

/-- The place of a cell in the map: east span 0 to 23, then west span 0 to 23. -/
def cellAt : Dir → Nat → Nat
  | .east, lane => lane
  | .west, lane => Config.laneCount + lane

/-- Changes one cell. -/
def updCell (s : State) (d : Dir) (lane : Nat) (f : Cell → Cell) : State :=
  s.withSwitch { s.switch with cells := modifyAt s.switch.cells (cellAt d lane) f }

/-- A cell of the map. -/
def State.cell (s : State) (d : Dir) (lane : Nat) : Cell := (s.switch.cells[cellAt d lane]?).getD Cell.reset

/-- The source that an origin's Add layer or a Through layer has at a bonded position (R101, R109). -/
def layerSource (isOrigin : Bool) (input position : Nat) : Source := if isOrigin then .add input position else .through

/-- Write working layer: replaces whatever layer was there (R104). -/
def writeWorkLayer (src : Source) (k : Key) (i : Nat) (c : Cell) : Cell := { c with working := some { src := src, owner := k, index := i } }

/-- Write protection layer (R104). -/
def writeProtLayer (src : Source) (k : Key) (i : Nat) (c : Cell) : Cell := { c with protection := some { src := src, owner := k, index := i } }

/-- A layer's owner key is the given key. -/
def ownedBy (l : Option Layer) (k : Key) : Bool :=
  match l with
  | some x => x.owner == k
  | none => false

/-- Clear working layer, under the owner test; the standing source becomes Idle with it (R104). -/
def clearWorkLayer (k : Key) (c : Cell) : Cell := if ownedBy c.working k then { c with working := none, standing := .idle } else c

/-- Clear protection layer, under the owner test (R104). -/
def clearProtLayer (k : Key) (c : Cell) : Cell :=
  if ownedBy c.protection k then { c with protection := none, standing := .idle } else c

/-- The working layers an entry's roles write at activation (R109). -/
def writeWorkCells (s : State) (i : Nat) (e : Entry) : State :=
  if hasWorkSpan e.roles then
    forEach (List.range e.bk.count) s (fun t j =>
      updCell t e.bk.dir (e.bk.first + j) (writeWorkLayer (layerSource (e.roles.contains .origin) e.bk.input j) e.key i))
  else s

/-- The protection layers of an entry: Add at the origin (R144), Through at PROT-TRANSIT and PROT-TAP (R151). -/
def writeProtCells (s : State) (i : Nat) (e : Entry) : State :=
  if hasProtSpan e.roles then
    forEach (List.range e.bk.count) s (fun t j =>
      updCell t (opp e.bk.dir) (e.bk.first + j) (writeProtLayer (layerSource (e.roles.contains .protOrigin) e.bk.input j) e.key i))
  else s

/-- Clears the entry's working layers under the owner test (R112 step 1). -/
def clearWorkCells (s : State) (e : Entry) : State :=
  if hasWorkSpan e.roles then
    forEach (List.range e.bk.count) s (fun t j => updCell t e.bk.dir (e.bk.first + j) (clearWorkLayer e.key))
  else s

/-- Clears the entry's protection layers under the owner test (R112 step 1, R144, R152). -/
def clearProtCells (s : State) (e : Entry) : State :=
  if hasProtSpan e.roles then
    forEach (List.range e.bk.count) s (fun t j => updCell t (opp e.bk.dir) (e.bk.first + j) (clearProtLayer e.key))
  else s

/-- Sets the standing source of every cell that holds neither layer to Idle (R116). -/
def idleUnownedCells (s : State) : State :=
  s.withSwitch { s.switch with cells := s.switch.cells.map (fun c =>
    if c.working.isNone && c.protection.isNone then { c with standing := .idle } else c) }

/-! ### The source a cell transmits -/

/-- The lane monitor's place of a port and lane: west port 0 to 23, then east port 0 to 23. -/
def monAt : Dir → Nat → Nat
  | .west, lane => lane
  | .east, lane => Config.laneCount + lane

/-- A lane monitor. -/
def State.mon (s : State) (port : Dir) (lane : Nat) : LaneMon := (s.mons.lanes[monAt port lane]?).getD LaneMon.reset

/-- The span monitor of a side. -/
def State.span (s : State) : Dir → SpanMon
  | .east => s.mons.spanEast
  | .west => s.mons.spanWest

/-- A Through source fails when the input's span is Down or the lane brings no correctly framed frame (R103). -/
def throughFails (s : State) (port : Dir) (lane : Nat) : Bool := !(s.span port).up || !(s.mon port lane).framed

/-- The source a layer or the standing source asks for, after the substitution of R103. -/
def substituted (s : State) (d : Dir) (lane : Nat) (src : Source) (owner : Key) : TxSource :=
  match src with
  | .add p i => .add p i owner
  | .through => if throughFails s (inPort d) lane then .failFill else .through

/-- The source a cell transmits: protection layer, else working layer, else standing source (R99), after substitution (R103). -/
def txSource (s : State) (d : Dir) (lane : Nat) : TxSource :=
  let c := s.cell d lane
  match c.protection with
  | some l => substituted s d lane l.src l.owner
  | none =>
    match c.working with
    | some l => substituted s d lane l.src l.owner
    | none =>
      match c.standing with
      | .idle => .idle
      | .through => if throughFails s (inPort d) lane then .failFill else .through

/-! ### Tributary outputs -/

/-- An output of the switch. -/
def State.output (s : State) (port : Nat) : Output := (s.switch.outputs[port]?).getD Output.reset

/-- Changes one output. -/
def updOutput (s : State) (port : Nat) (f : Output → Output) : State :=
  s.withSwitch { s.switch with outputs := modifyAt s.switch.outputs port f }

/-- The owner key of an output: both its sources have the same owner (R105). -/
def outputOwner (o : Output) : Option Key :=
  match o.working with
  | some x => some x.owner
  | none => o.protection.map OutSource.owner

/-- The output port of a drop entry at this station. -/
def entryOut (s : State) (e : Entry) : Option Nat := if isDropEntry e || hasProtDrop e.roles then outPort e.bk s.self else none

/-- The source that an entry writes for a direction (R109). -/
def outSourceOf (i : Nat) (e : Entry) (d : Dir) : OutSource :=
  { owner := e.key, index := i, dir := d, first := e.bk.first, count := e.bk.count }

/-- A drop's activation writes its output's sources and the selector Working (R105, R109). -/
def writeOutput (s : State) (i : Nat) (e : Entry) : State :=
  match entryOut s e with
  | none => s
  | some p =>
    updOutput s p (fun o =>
      { o with
        working := if isDropEntry e then some (outSourceOf i e e.bk.dir) else o.working,
        protection := if hasProtDrop e.roles then some (outSourceOf i e (opp e.bk.dir)) else if isDropEntry e then none else o.protection,
        selector := .working })

/-- Release sets the output's sources to none and its selector to Working, where its owner is the entry (R112 step 2). -/
def releaseOutput (s : State) (e : Entry) : State :=
  match entryOut s e with
  | none => s
  | some p =>
    updOutput s p (fun o =>
      if outputOwner o == some e.key then { o with working := none, protection := none, selector := .working } else o)

/-- The selector of a drop entry's output. -/
def selectorOf (s : State) (e : Entry) : Selector :=
  match entryOut s e with
  | none => .working
  | some p => (s.output p).selector

/-- The protection controller's selector write addressed to an output by the entry's key is made: the output's owner is that key, or its
sources are none and it records the value (R108). -/
def selectorWritable (s : State) (e : Entry) (port : Nat) : Bool :=
  outputOwner (s.output port) == some e.key || (outputOwner (s.output port)).isNone

/-- The protection controller writes a drop's selector by the owner's key; an output without sources records the value (R108). A write of
Protection that is made sets the meter's protection latch (R160). One addressed to an output of another owner does nothing, and so does not
set the latch either (DESIGN CHOICE, log 57). -/
def writeSelector (s : State) (i : Nat) (sel : Selector) : State :=
  match s.entry i with
  | none => s
  | some e =>
    match entryOut s e with
    | none => s
    | some p =>
      if selectorWritable s e p then
        let t := updOutput s p (fun o => { o with selector := sel })
        if sel == .protection then
          updEntry t i (fun e => { e with meter := e.meter.map (fun m => { m with protLatch := true }) })
        else t
      else s

/-! ### Pre-emption of Extra bookings -/

/-- The key of a protection layer of another booking that stands on a cell whose working layer the entry owns (R154). Where the layers of two
bookings stand over the entry's lanes, it is that of the lowest of them, and the notice carries that key (DESIGN CHOICE, log 56). -/
def coveringKey (s : State) (e : Entry) : Option Key :=
  (lanesOf e.bk.first e.bk.count).findSome? (fun lane =>
    let c := s.cell e.bk.dir lane
    if ownedBy c.working e.key then
      match c.protection with
      | some l => if l.owner == e.key then none else some l.owner
      | none => none
    else none)

/-- Writes the Preempted flag of an entry; setting it sets the meter's preempted latch (R160). -/
def writePreempted (s : State) (i : Nat) (on : Bool) : State :=
  updEntry s i (fun e =>
    { e with
      preempted := e.preempted.map (fun _ => on),
      meter := e.meter.map (fun m => { m with preLatch := m.preLatch.map (fun b => b || on) }) })

/-- Brings the Preempted flag of one Active Extra entry in line with the layers, raising PreemptState when it changes (R154, R157).
`layer` is the protection layer that the event cleared. -/
def judgePreempted (layer : Key) (s : State) (i : Nat) : State :=
  match s.entry i with
  | none => s
  | some e =>
    match e.state, e.preempted with
    | .active, some flag =>
      match coveringKey s e with
      | some k => if flag then s else raiseNotice (writePreempted s i true) (sourceEntry i) (.preemptState e.key true k)
      | none => if flag then raiseNotice (writePreempted s i false) (sourceEntry i) (.preemptState e.key false layer) else s
    | _, _ => s

/-- Re-judges every Active Extra entry after protection layers of a booking were written or cleared (R144, R151, R152, R155). -/
def judgeAllPreempted (s : State) (layer : Key) : State := forEach indexes s (judgePreempted layer)

end Sys2Proof.Machine
end

