-- ==== Sys2Proof/Machine/Flags.lean ====
section
/-! DEFINITION. The judgments of the part: lane conditions and their rank (R121), meter classes (R161), line flags (R175) and the
classes of path records (R138). -/

namespace Sys2Proof.Machine

/-! ### Lane conditions -/

/-- The rank of a condition, from best to worst (R121). -/
def Cond.rank : Cond → Nat
  | .clean => 0
  | .noFeed => 1
  | .noTag => 2
  | .bridged _ => 3
  | .foreign _ => 4
  | .fail => 5

/-- The worse of two conditions; of two of one rank, the first met (R122). -/
def worse (a b : Cond) : Cond := if a.rank < b.rank then b else a

/-- An open record with one more period (R122). -/
def worseOpen (o : Option Cond) (c : Cond) : Option Cond :=
  match o with
  | none => some c
  | some a => some (worse a c)

/-- Classifies a frame against an owner key, taking the first case that applies (R121). -/
def judge (k : Key) (bridgedKeys : List Key) (spanUp : Bool) (frame : Option (Option Key × Content)) : Cond :=
  match frame with
  | none => .fail
  | some (tag, content) =>
    if !spanUp || content == .fail then .fail
    else match tag with
      | none => .noTag
      | some t =>
        if t = k then (if content == .noFeed then .noFeed else .clean)
        else if bridgedKeys.contains t then .bridged t else .foreign t

/-- The worst condition of a path's lanes; a path without lanes is Clean. Of two Mismatches of one rank with different keys, the lower lane's
key stands (DESIGN CHOICE, log 49). -/
def worstOf (l : List Cond) : Cond := l.foldl worse .clean

/-! ### Meter classes -/

/-- The heading a second is counted under (Table 9-2). -/
inductive MeterClass where
  | preempted
  | fault
  | noFeed
  | clean (onProtection degraded : Bool)
  deriving DecidableEq, Repr

/-- Classes a second from the selected-path record and the two latches, taking the first case that applies (R161). -/
def meterClass (isExtra preLatch protLatch : Bool) (r : SecondRec) : MeterClass :=
  if isExtra && preLatch then .preempted
  else match r.cond with
    | .fail => .fault
    | .noTag => .fault
    | .foreign _ => .fault
    | .bridged _ => if isExtra then .preempted else .fault
    | .noFeed => .noFeed
    | .clean => .clean protLatch r.overlay

/-! ### Record and line flags -/

/-- The eight record flags, in the order of the bill-flag mask (R188, Table 11-7). -/
def flagFaulted : FlagSet := 1
def flagPreempted : FlagSet := 2
def flagNoFeed : FlagSet := 4
def flagDegraded : FlagSet := 8
def flagPartial : FlagSet := 16
def flagFloored : FlagSet := 32
def flagInexact : FlagSet := 64
def flagSaturated : FlagSet := 128

/-- A flag set or left clear. -/
def flagIf (b : Bool) (f : FlagSet) : FlagSet := if b then f else 0

/-- The line flags from the frozen meter and the stages (R175). -/
def lineFlags (m : Meter) (floored inexact : Bool) : FlagSet :=
  flagIf (decide (0 < m.f)) flagFaulted ||| flagIf (decide (0 < m.x)) flagPreempted ||| flagIf (decide (0 < m.z)) flagNoFeed
    ||| flagIf (decide (0 < m.g)) flagDegraded ||| flagIf m.isPartial flagPartial ||| flagIf floored flagFloored
    ||| flagIf inexact flagInexact

/-! ### Classes of path records -/

/-- The class of a path record at a drop (R138). -/
inductive PathClass where
  | good
  | failed
  | settling
  deriving DecidableEq, Repr

/-- Classes a record: settling by its flag, good when Clean or NoFeed, failed otherwise (R138). -/
def classOf (r : SecondRec) : PathClass :=
  if r.settle then .settling
  else match r.cond with
    | .clean => .good
    | .noFeed => .good
    | _ => .failed

/-- The class of a protection record; an absent record is failed (R138). -/
def protClassOf : Option SecondRec → PathClass
  | none => .failed
  | some r => classOf r

end Sys2Proof.Machine
end

