-- ==== Sys2Proof/Machine/LaneMonitors.lean ====
section
/-! DEFINITION. The lane monitors: watch places (R120), the closing of records (R122, R123), the Degraded overlay (R124), settle
periods (R126, R127), LaneState notices (R128), a drop's path records (R125), and the input monitors' boundary (R130). -/

namespace Sys2Proof.Machine

/-- Changes one lane monitor. -/
def updMon (s : State) (port : Dir) (lane : Nat) (f : LaneMon → LaneMon) : State :=
  s.withMons { s.mons with lanes := modifyAt s.mons.lanes (monAt port lane) f }

/-- A monitor with a place present is watched (R119). -/
def LaneMon.watched (m : LaneMon) : Bool := m.working.isSome || m.protection.isSome

/-- A monitor that became Unwatched: overlay clear, runs 0, the count stopped (R124). The stopped count returns to 0, so a place written later
in the same second counts from 0 (DESIGN CHOICE, log 34). -/
def LaneMon.settleWatch (m : LaneMon) : LaneMon :=
  if m.watched then m else { m with overlay := false, degradeRun := 0, clearRun := 0, checkFailed := 0, periods := 0 }

/-- A new place: empty open record, reported condition Clean, and its settle period (R120, R126, R127). -/
def Place.fresh (k : Key) (i : Nat) (settleEnd : Nat) : Place :=
  { owner := k, index := i, opened := none, closed := none, reported := .clean, settleEnd := some settleEnd, settleMark := true }

/-- Writes the working place of one lane. A place of another entry already there becomes the displaced owner, with a LaneState notice
of condition Fail (R120). The notice carries the overlay of the moment as Degraded (DESIGN CHOICE, log 44). -/
def writeWorkPlace (s : State) (port : Dir) (lane : Nat) (k : Key) (i : Nat) (second : Nat) : State :=
  let m := s.mon port lane
  let write (m : LaneMon) : LaneMon := { m with working := some (Place.fresh k i (second + 5)) }
  match m.working with
  | none => updMon s port lane write
  | some old =>
    raiseNotice (updMon s port lane (fun m => { write m with displaced := some (old.owner, old.index) })) (sourceLane port lane)
      (.laneState port lane .working old.owner .fail old.reported m.overlay second)

/-- Writes the working places of a TRANSIT, TAP or END role, on the incoming span of the working direction (R120). -/
def writeWorkPlaces (s : State) (i : Nat) (e : Entry) (second : Nat) : State :=
  if hasWorkWatch e.roles then
    forEach (lanesOf e.bk.first e.bk.count) s (fun t lane => writeWorkPlace t (inPort e.bk.dir) lane e.key i second)
  else s

/-- The protection controller begins watching a bridged path: the protection places of the lanes on the incoming span of the opposite
direction are written, each starting a protection settle period (R120, R127). -/
def watchProtection (s : State) (i : Nat) (e : Entry) (second : Nat) : State :=
  forEach (lanesOf e.bk.first e.bk.count) s (fun t lane =>
    updMon t (inPort (opp e.bk.dir)) lane (fun m => { m with protection := some (Place.fresh e.key i (second + 5)) }))

/-- A place under the owner test: absent when its owner is the key. -/
def clearPlace (p : Option Place) (k : Key) : Option Place :=
  match p with
  | some x => if x.owner = k then none else some x
  | none => none

/-- The protection controller stops watching the path: its protection places are cleared under the owner test (R120). -/
def unwatchProtection (s : State) (e : Entry) : State :=
  forEach (lanesOf e.bk.first e.bk.count) s (fun t lane =>
    updMon t (inPort (opp e.bk.dir)) lane (fun m => { m with protection := clearPlace m.protection e.key }.settleWatch))

/-- Release clears every place and displaced owner of the entry, under the owner test (R120). -/
def clearPlaces (s : State) (k : Key) : State :=
  s.withMons { s.mons with lanes := s.mons.lanes.map (fun m =>
    { m with
      working := clearPlace m.working k, protection := clearPlace m.protection k,
      displaced := match m.displaced with
        | some d => if d.1 = k then none else some d
        | none => none }.settleWatch) }

/-! ### Closing a second -/

/-- The condition a record closes with: the worst of its periods, or without a period the last frame judged at the boundary (R122, R123). -/
def closeCond (opened : Option Cond) (lastJudged : Cond) : Cond := opened.getD lastJudged

/-- The overlay and its runs at a boundary (R124); a second without a period leaves them as they stand. -/
def LaneMon.boundaryOverlay (threshold : Nat) (m : LaneMon) : LaneMon :=
  if m.periods = 0 then m
  else if threshold ≤ m.checkFailed then
    let run := min 3 (m.degradeRun + 1)
    { m with degradeRun := run, clearRun := 0, overlay := m.overlay || run == 3 }
  else
    let run := min 10 (m.clearRun + 1)
    { m with degradeRun := 0, clearRun := run, overlay := m.overlay && !(run == 10) }

/-- A place at boundary t: the open record closes, the settle period ends if its boundary has come, a new open record begins
(R122, R126, R127). The reported condition follows a record without settle flag (R128). -/
def Place.close (t : Nat) (overlay : Bool) (lastJudged : Cond) (p : Place) : Place :=
  let c := closeCond p.opened lastJudged
  let settleEnd := p.settleEnd.filter (fun e => t < e)
  { p with
    opened := none, closed := some { cond := c, overlay := overlay, settle := p.settleMark },
    reported := if p.settleMark then p.reported else c,
    settleEnd := settleEnd, settleMark := settleEnd.isSome }

/-- A place's LaneState notice at a boundary: its condition changed, or the overlay did, outside settle (R128). -/
def laneNotice (s : State) (port : Dir) (lane : Nat) (kind : PlaceKind) (old : Option Place) (lastJudged : Option Cond)
    (overlayBefore overlayAfter : Bool) (second : Nat) : State :=
  match old, lastJudged with
  | some p, some j =>
    let c := closeCond p.opened j
    if !p.settleMark && (c != p.reported || overlayBefore != overlayAfter) then
      raiseNotice s (sourceLane port lane) (.laneState port lane kind p.owner c p.reported overlayAfter second)
    else s
  | _, _ => s

/-- One lane monitor at boundary t (R122, R124, R128). -/
def closeLane (t : Nat) (s : State) (port : Dir) (lane : Nat) : State :=
  let m := s.mon port lane
  if !m.watched then s
  else
    let judged (p : Option Place) : Option Cond := p.map (fun x => judge x.owner s.bridged.keys (s.span port).up m.last)
    let m' := m.boundaryOverlay s.cfg.threshold
    let close (p : Option Place) : Option Place :=
      p.map (fun x => x.close t m'.overlay (judge x.owner s.bridged.keys (s.span port).up m.last))
    let s1 := updMon s port lane (fun _ =>
      { m' with working := close m.working, protection := close m.protection, checkFailed := 0, periods := 0 })
    let s2 := laneNotice s1 port lane .working m.working (judged m.working) m.overlay m'.overlay (t - 1)
    laneNotice s2 port lane .protection m.protection (judged m.protection) m.overlay m'.overlay (t - 1)

/-- Every lane monitor at boundary t: the west port's lanes, then the east port's. -/
def closeLanes (t : Nat) (s : State) : State :=
  let lanes := List.range Config.laneCount
  forEach lanes (forEach lanes s (fun u lane => closeLane t u .west lane)) (fun u lane => closeLane t u .east lane)

/-! ### A drop's path records -/

/-- The place of a lane, if the entry owns it. -/
def ownPlace (p : Option Place) (k : Key) : Option Place := p.filter (fun x => x.owner == k)

/-- The entry is the displaced owner of one of its working lanes (R120). An entry whose displaced-owner record a later displacement replaced
is none any more (DESIGN CHOICE, log 43). -/
def isDisplaced (s : State) (e : Entry) : Bool :=
  (lanesOf e.bk.first e.bk.count).any (fun lane => match (s.mon (inPort e.bk.dir) lane).displaced with
    | some d => d.1 == e.key
    | none => false)

/-- The path record over the closed records of k places (R125). A lane without a closed record of the entry counts Fail, and gives no settle
flag: the flag comes from the lanes that have one, and with none of them the record is unflagged (DEDUCED, log 25). -/
def pathOfPlaces (s : State) (port : Dir) (e : Entry) (place : LaneMon → Option Place) : SecondRec :=
  let lanes := lanesOf e.bk.first e.bk.count
  let recs := lanes.map (fun lane => (ownPlace (place (s.mon port lane)) e.key).bind Place.closed)
  { cond := worstOf (recs.map (fun r => match r with
      | some x => x.cond
      | none => .fail)),
    overlay := lanes.any (fun lane => (s.mon port lane).overlay),
    settle := recs.any (fun r => match r with
      | some x => x.settle
      | none => false) }

/-- The working-path record (R125). -/
def workingRecord (s : State) (e : Entry) : SecondRec :=
  let r := pathOfPlaces s (inPort e.bk.dir) e LaneMon.working
  if isDisplaced s e then { r with cond := .fail } else r

/-- The protection-path record, absent when the path is not watched (R125). A path is watched here while a lane of it holds a protection
place of the entry; where another booking's watch has replaced all of them, the entry's own watch not stopped, the record is absent and
not a Fail (DESIGN CHOICE, log 58). -/
def protectionRecord (s : State) (e : Entry) : Option SecondRec :=
  let port := inPort (opp e.bk.dir)
  if e.prot.isSome && (lanesOf e.bk.first e.bk.count).any (fun lane => (ownPlace (s.mon port lane).protection e.key).isSome) then
    some (pathOfPlaces s port e LaneMon.protection)
  else none

/-- The direction of the output's selected source (R105, R106). -/
def selectedDir (s : State) (e : Entry) : Dir := if selectorOf s e = .protection then opp e.bk.dir else e.bk.dir

/-- The selected path judged on frames given lane by lane (R125); a displaced working lane is Fail while Working is selected (R120). -/
def judgeSelected (s : State) (e : Entry) (frame : Dir → Nat → Option (Option Key × Content)) : Cond :=
  let port := inPort (selectedDir s e)
  if selectorOf s e = .working && isDisplaced s e then .fail
  else worstOf ((lanesOf e.bk.first e.bk.count).map (fun lane => judge e.key s.bridged.keys (s.span port).up (frame port lane)))

/-- The overlay of the lanes selected now (R125). -/
def selectedOverlay (s : State) (e : Entry) : Bool :=
  (lanesOf e.bk.first e.bk.count).any (fun lane => (s.mon (inPort (selectedDir s e)) lane).overlay)

/-- The path records of one Active drop entry at a boundary, after its lanes' records have closed (R125). A second without a period
takes the selected path as it stands (R123). The selected record carries the settle flag of the working record (DESIGN CHOICE, log 45). -/
def closePaths (s : State) (i : Nat) : State :=
  match s.entry i with
  | none => s
  | some e =>
    match e.state, e.paths with
    | .active, some p =>
      let sel := closeCond p.selOpen (judgeSelected s e (fun port lane => (s.mon port lane).last))
      let r : Paths :=
        { selOpen := none, working := some (workingRecord s e), protection := protectionRecord s e,
          selected := some { cond := sel, overlay := selectedOverlay s e, settle := (workingRecord s e).settle } }
      setEntry s i { e with paths := some r }
    | _, _ => s

/-- The monitors' work at boundary t: every record of second t − 1 is fixed (R28, R122). -/
def closeRecords (t : Nat) (s : State) : State := forEach indexes (closeLanes t s) closePaths

/-! ### Input monitors -/

/-- Changes one input monitor. -/
def updInput (s : State) (port : Nat) (f : InputMon → InputMon) : State :=
  s.withMons { s.mons with inputs := modifyAt s.mons.inputs port f }

/-- An input monitor. -/
def State.input (s : State) (port : Nat) : InputMon := (s.mons.inputs[port]?).getD InputMon.reset

/-- The key of the Active entry with an ORIGIN role on an input (R130). -/
def inputOwner (s : State) (port : Nat) : Option Key :=
  (indexes.filterMap s.entry).findSome? (fun e => if e.state == .active && entryInput e == some port then some e.key else none)

/-- One input monitor at a boundary: a change since the last boundary raises InputState, and the count of changes returns to 0 (R130). -/
def closeInput (s : State) (port : Nat) : State :=
  let m := s.input port
  if m.isPresent != m.atBoundary || m.changed then
    raiseNotice (updInput s port (fun m => { m with changes := 0, atBoundary := m.isPresent, changed := false })) (sourceInput port)
      (.inputState port m.isPresent m.changes (inputOwner s port))
  else s

/-- Every input monitor at a boundary. -/
def closeInputs (s : State) : State := forEach (List.range 8) s closeInput

end Sys2Proof.Machine
end

