-- ==== Sys2Proof/Machine/Protection.lean ====
section
/-! DEFINITION. The protection controller: the drop's states (R137 to R142), SWITCHREQ (R143), the origin's bridge set and BRIDGE (R144,
R149), the bridged-key set (R150), BRIDGE at the protection arc (R151 to R153) and the end of a protected booking (R155). -/

namespace Sys2Proof.Machine

/-! ### Requests of a drop -/

/-- The selector position that a protection state implies (Table 8-2). -/
def ProtState.selector : ProtState → Selector
  | .working => .working
  | .holdOff => .working
  | .bridging => .working
  | .protecting => .protection
  | .restoreWait => .protection
  | .forced => .protection
  | .lockout => .working

/-- The value that a protection state wants the drop's request to have; On is `true` (Table 8-2). -/
def ProtState.wants : ProtState → Bool
  | .working => false
  | .holdOff => false
  | .bridging => true
  | .protecting => true
  | .restoreWait => true
  | .forced => true
  | .lockout => false

/-- The request record after the wanted value became `wanted` from `before` (R143): marked when it differs from the announced value; a
marker that stood while they differed is cleared when they agree again, also one that a resend or a correction had set before they came
to differ (DESIGN CHOICE, log 51). -/
def Request.follow (before wanted : Bool) (r : Request) : Request :=
  if wanted != r.announced then { r with toSend := true }
  else if before != r.announced then { r with toSend := false }
  else r

/-- The wanted value of an entry's drop. -/
def wantedOf (e : Entry) : Bool :=
  match e.prot with
  | some p => p.state.wants
  | none => false

/-- Marks a drop's request record to-send (R140, R142, R153). -/
def markRequest (s : State) (i : Nat) : State :=
  updEntry s i (fun e => { e with request := e.request.map (fun r => { r with toSend := true }) })

/-- One attempt to queue a SWITCHREQ while the marker is set: it carries the wanted value of the moment; joining, it becomes the announced
value and clears the marker (R143). The state machine runs only while the entry is Active (R137). -/
def attemptSwitchreq (s : State) (i : Nat) : State :=
  match s.entry i with
  | none => s
  | some e =>
    match e.request with
    | none => s
    | some r =>
      if e.state == .active && r.toSend && canJoinProt s e.bk.dir then
        let t := join s e.bk.dir e.key.seq (.switchreq e.key s.self (wantedOf e))
        setEntry t i { e with request := some { announced := wantedOf e, toSend := false } }
      else s

/-- The wanted value of a drop's request differs from the announced value, which marks the request to-send (R143). -/
def requestDiffers (s : State) (i : Nat) : Bool :=
  match s.entry i with
  | none => false
  | some e => (match e.request with
    | some r => wantedOf e != r.announced
    | none => false)

/-- The attempt at the moment of marking: made where the step from s to t brought the wanted value to differ from the announced one. A
marker that already stood waits for the next second boundary (R143, log 38). -/
def attemptMarked (s t : State) (i : Nat) : State := if requestDiffers t i && !requestDiffers s i then attemptSwitchreq t i else t

/-! ### State changes of a drop -/

/-- The part of an entry in a new protection state: deadlines as given, resend count as given (R139 to R148). -/
def ProtPart.enter (st : ProtState) (hold restore : Option Nat) (resends : Nat) : ProtPart :=
  { state := st, holdOff := hold, restoreWait := restore, resends := resends }

/-- A drop's protection state changes: the part, the selector where it differs, the request record and the ProtectionState notice (R137,
R143, R157). The attempt to send follows where the caller makes it. -/
def changeState (s : State) (i : Nat) (part : ProtPart) (cause : ProtCause) : State :=
  match s.entry i with
  | none => s
  | some e =>
    match e.prot with
    | none => s
    | some old =>
      let e' := { e with prot := some part, request := e.request.map (Request.follow old.state.wants part.state.wants) }
      let s1 := setEntry s i e'
      let s2 := if selectorOf s1 e' = part.state.selector then s1 else writeSelector s1 i part.state.selector
      raiseNotice s2 (sourceEntry i) (.protectionState e.key old.state part.state cause part.state.selector s.now)

/-- The configured hold-off in ms (R139, R200). -/
def holdOffMs (s : State) : Nat := s.cfg.holdOff * 100

/-- The configured restore wait in ms (R141, R200). -/
def restoreMs (s : State) : Nat := s.cfg.restoreWait * 60000

/-- The hold-off expiry: Bridging with resend count 0, and at once Protected when the bridge flag is On (R139). The change at once to Protected
carries the cause bridge seen (DESIGN CHOICE, log 36). -/
def expireHoldOff (s : State) (i : Nat) : State :=
  match s.entry i with
  | none => s
  | some e =>
    match e.prot with
    | none => s
    | some p =>
      if e.state == .active && p.state == .holdOff then
        let t := changeState s i (ProtPart.enter .bridging none none 0) .holdOffExpiry
        if e.bridgeFlag == some true then changeState t i (ProtPart.enter .protecting none none 0) .bridgeSeen else t
      else s

/-- Entry to HoldOff: the deadline starts, and a hold-off of 0 is reached at once; the resend count stays until Bridging (R138, R139). -/
def enterHoldOff (s : State) (i : Nat) (resends : Nat) (cause : ProtCause) : State :=
  let t := changeState s i (ProtPart.enter .holdOff (some (after s (holdOffMs s))) none resends) cause
  if holdOffMs s = 0 then expireHoldOff t i else t

/-- Entry to RestoreWait: the deadline starts (R138, R141, R148). -/
def enterRestoreWait (s : State) (i : Nat) (resends : Nat) (cause : ProtCause) : State :=
  changeState s i (ProtPart.enter .restoreWait none (some (after s (restoreMs s))) resends) cause

/-- The automatic outcome of a boundary on the classes of the two records (Table of R138), with the cause that its notice carries; absent
where the state stays. A Protected or RestoreWait drop that a failed protection record returns to Working gives the cause protection fail
(DESIGN CHOICE, log 36: R157 lists the causes and assigns none). -/
def boundaryOutcome (st : ProtState) (work prot : PathClass) : Option (ProtState × ProtCause) :=
  match st, work, prot with
  | .working, .failed, _ => some (.holdOff, .workingFail)
  | .holdOff, .good, _ => some (.working, .workingClean)
  | .bridging, .good, _ => some (.working, .workingClean)
  | .protecting, .good, .failed => some (.working, .protectionFail)
  | .protecting, .good, _ => some (.restoreWait, .workingClean)
  | .restoreWait, .failed, _ => some (.protecting, .workingFail)
  | .restoreWait, _, .failed => some (.working, .protectionFail)
  | _, _, _ => none

/-- The change that a boundary's outcome makes (R138). -/
def applyOutcome (s : State) (i : Nat) (p : ProtPart) (st : ProtState) (cause : ProtCause) : State :=
  match st with
  | .holdOff => enterHoldOff s i p.resends cause
  | .restoreWait => enterRestoreWait s i p.resends cause
  | _ => changeState s i (ProtPart.enter st none none p.resends) cause

/-- Sets a drop's resend count. -/
def setResends (s : State) (i n : Nat) : State :=
  updEntry s i (fun e => { e with prot := e.prot.map (fun p => { p with resends := n }) })

/-- The resend count after a boundary's protection record: a good record returns it to 0 in every state (R142). -/
def resendsAfter (prot : PathClass) (n : Nat) : Nat := if prot = .good then 0 else n

/-- The resends of a drop whose state stays as it is: in Bridging, where one that still waits to join does not raise the count again (R140; any
standing marker counts as one that waits, DEDUCED, log 38), and in Protected and Forced after a failed protection record (R142). -/
def resendAtBoundary (s : State) (i : Nat) (e : Entry) (p : ProtPart) (prot : PathClass) : State :=
  let announced := match e.request with
    | some r => r.announced
    | none => false
  let waits := match e.request with
    | some r => r.toSend
    | none => false
  match p.state with
  | .bridging =>
    if e.bridgeFlag != some true && announced && !waits && decide (p.resends < 3) then markRequest (setResends s i (p.resends + 1)) i else s
  | .protecting | .forced =>
    if prot = .failed ∧ announced = true ∧ p.resends < 3 then markRequest (setResends s i (p.resends + 1)) i else s
  | _ => s

/-- The protection controller's work at a boundary for one Active protected drop: the resend count after the protection record, then the
state change from the path records of the second that ended, or the resends (R138, R140, R142). An entry activated at this boundary has no record yet. -/
def protectionBoundary (s : State) (i : Nat) : State :=
  match s.entry i with
  | none => s
  | some e =>
    match e.state, e.prot, e.paths.bind Paths.working with
    | .active, some p, some w =>
      let prot := protClassOf (e.paths.bind Paths.protection)
      let n := resendsAfter prot p.resends
      let t := setResends s i n
      match boundaryOutcome p.state (classOf w) prot with
      | some (st, cause) => applyOutcome t i { p with resends := n } st cause
      | none => resendAtBoundary t i e { p with resends := n } prot
    | _, _, _ => s

/-! ### The bridged-key set -/

/-- Applies a BRIDGE to the bridged-key set (R150). -/
def applyBridge (s : State) (k : Key) (on : Bool) : State :=
  if (lookup s k).isNone then s
  else if on then
    if s.bridged.keys.contains k then s
    else if s.bridged.keys.length < 32 then s.withBridged { s.bridged with keys := s.bridged.keys ++ [k] }
    else s.withBridged { s.bridged with overflow := raiseSat 255 s.bridged.overflow }
  else dropBridged s k

/-! ### The origin and BRIDGE -/

/-- One attempt to queue a BRIDGE while the origin's marker is set; joining, its value becomes the announced value, the marker is
cleared, and the origin applies it to its own bridged-key set (R149). -/
def attemptBridge (s : State) (i : Nat) : State :=
  match s.entry i with
  | none => s
  | some e =>
    match e.bridge with
    | none => s
    | some b =>
      if e.state == .active && b.toSend && canJoinProt s e.bk.dir then
        let on := b.drops != 0
        let t := join s e.bk.dir e.key.seq (.bridge e.key on b.drops)
        applyBridge (setEntry t i { e with bridge := some { b with announced := on, toSend := false } }) e.key on
      else s

/-- Writes an origin's bridge set with its marker set (R144). -/
def setBridgeDrops (s : State) (i : Nat) (drops : StationSet) : State :=
  updEntry s i (fun e => { e with bridge := e.bridge.map (fun b => { b with drops := drops, toSend := true }) })

/-- The bridge comes on at the origin: PROT-ORIGIN layers, pre-emption and the BridgeState notice (R144, R154, R157). -/
def originBridgeOn (s : State) (i : Nat) (e : Entry) (drops : StationSet) : State :=
  raiseNotice (judgeAllPreempted (writeProtCells (setBridgeDrops s i drops) i e) e.key) (sourceEntry i) (.bridgeState e.key true drops)

/-- The bridge goes off at the origin (R144, R154, R157). -/
def originBridgeOff (s : State) (i : Nat) (e : Entry) : State :=
  raiseNotice (judgeAllPreempted (clearProtCells (setBridgeDrops s i 0) e) e.key) (sourceEntry i) (.bridgeState e.key false 0)

/-- A SWITCHREQ at its key's origin (Table of R144). -/
def actSwitchreq (s : State) (k : Key) (station : Nat) (on : Bool) : State :=
  if k.origin != s.self then s
  else match findEntry s k with
    | none => s
    | some (i, e) =>
      match e.bridge with
      | none => s
      | some b =>
        if e.state == .active && e.bk.isProtected && isDrop e.bk station then
          let there := stationIn b.drops station
          if on then
            if there then attemptBridge (setBridgeDrops s i b.drops) i
            else if b.drops = 0 then attemptBridge (originBridgeOn s i e (stationAdd b.drops station)) i
            else attemptBridge (setBridgeDrops s i (stationAdd b.drops station)) i
          else
            if there then
              if stationRemove b.drops station = 0 then attemptBridge (originBridgeOff s i e) i
              else attemptBridge (setBridgeDrops s i (stationRemove b.drops station)) i
            else if b.drops = 0 then attemptBridge (setBridgeDrops s i 0) i
            else s
        else s

/-! ### BRIDGE at the protection arc -/

/-- Writes an entry's bridge flag. -/
def setBridgeFlag (s : State) (i : Nat) (on : Bool) : State :=
  updEntry s i (fun e => { e with bridgeFlag := e.bridgeFlag.map (fun _ => on) })

/-- The protection path of an Active entry comes into use: Through layers, pre-emption, and the watch (R151). -/
def openProtection (s : State) (i : Nat) (e : Entry) (second : Nat) : State :=
  watchProtection (judgeAllPreempted (writeProtCells s i e) e.key) i e second

/-- The protection path of an Active entry goes out of use (R152). -/
def closeProtection (s : State) (e : Entry) : State :=
  unwatchProtection (judgeAllPreempted (clearProtCells s e) e.key) e

/-- A drop in Bridging that sees the BRIDGE on enters Protected with resend count 0 (R140). -/
def bridgeSeen (s : State) (i : Nat) : State :=
  match s.entry i with
  | none => s
  | some e =>
    match e.prot with
    | none => s
    | some p =>
      if e.state == .active && p.state == .bridging then changeState s i (ProtPart.enter .protecting none none 0) .bridgeSeen
      else s

/-- A drop compares a BRIDGE with its own request and sends again where the origin's view is the opposite (R153). -/
def correctRequest (s : State) (i : Nat) (on : Bool) (drops : StationSet) : State :=
  match s.entry i with
  | none => s
  | some e =>
    if e.state == .active && e.prot.isSome
        && ((on && stationIn drops s.self && !wantedOf e) || (!on && wantedOf e)) then
      attemptSwitchreq (markRequest s i) i
    else s

/-- A BRIDGE on at a station other than the origin (R151, R153). -/
def actBridgeOn (s : State) (k : Key) (drops : StationSet) : State :=
  let s := applyBridge s k true
  match findEntry s k with
  | none => s
  | some (i, e) =>
    if isCommitted e && e.bridgeFlag.isSome then
      let t := if e.bridgeFlag = some false then
          let u := setBridgeFlag s i true
          if e.state = .active then openProtection u i e s.now else u
        else s
      correctRequest (bridgeSeen t i) i true drops
    else s

/-- A BRIDGE off at a station other than the origin (R152, R153). -/
def actBridgeOff (s : State) (k : Key) : State :=
  let s := applyBridge s k false
  match findEntry s k with
  | none => s
  | some (i, e) =>
    if isCommitted e && e.bridgeFlag.isSome then
      let u := setBridgeFlag s i false
      correctRequest (if e.state = .active then closeProtection u e else u) i false 0
    else s

/-! ### The end of a protected booking -/

/-- The origin's single BRIDGE off at release, when the announced value was On and the queue allows (R155). -/
def bridgeOffAtEnd (s : State) (e : Entry) : State :=
  match e.bridge with
  | some b =>
    if b.announced && canJoinProt s e.bk.dir then join s e.bk.dir e.key.seq (.bridge e.key false 0) else s
  | none => s

/-- The protection controller, told of the end of a booking (R155): the records go, Extra entries uncovered are re-judged, the origin may
send one BRIDGE off, and the key leaves the bridged-key set. The layers and places have been cleared by the release. -/
def endProtection (s : State) (i : Nat) (e : Entry) : State :=
  let t := updEntry s i (fun e => { e with prot := none, request := none, bridgeFlag := none, bridge := none, preempted := e.preempted.map (fun _ => false) })
  dropBridged (bridgeOffAtEnd (judgeAllPreempted t e.key) e) e.key

end Sys2Proof.Machine
end

