-- ==== Sys2Proof/Machine/Metering.lean ====
section
/-! DEFINITION. The drop meters (R159 to R161) and the charge arithmetic (R171 to R175). -/

namespace Sys2Proof.Machine

/-- A meter with one second counted under its class (R159, R161). -/
def Meter.count (m : Meter) : MeterClass → Meter
  | .preempted => { m with a := m.a + 1, x := m.x + 1 }
  | .fault => { m with a := m.a + 1, f := m.f + 1 }
  | .noFeed => { m with a := m.a + 1, z := m.z + 1 }
  | .clean onProtection degraded =>
    { m with a := m.a + 1, b := m.b + 1, p := m.p + onProtection.toNat, g := m.g + degraded.toNat }

/-- The meter counts second t − 1 at boundary t: it was active before t and has not counted that second (R159). -/
def Meter.countsAt (m : Meter) (t : Nat) : Bool :=
  (match m.firstActive with
    | some a => decide (a < t)
    | none => false)
  && (match m.lastCounted with
    | some l => decide (l < t - 1)
    | none => true)

/-- The latches as a second begins: the protection latch takes the selector's position, and the preempted latch of an Extra entry its
Preempted flag (R160). -/
def Meter.restart (onProtection preempted : Bool) (m : Meter) : Meter :=
  { m with protLatch := onProtection, preLatch := m.preLatch.map (fun _ => preempted) }

/-- At a boundary, one Active drop entry's latches start again from its selector and its Preempted flag as they stand. The boundary asks
for it after each work that can write them, so every selector or flag write taken at boundary t lands on the latch of second t, one that
returns to Working or clears the flag too, whichever of write and count was taken first (R160, R164). Where one boundary both sets and
clears, the last of its writes stands (DESIGN CHOICE, log 23). -/
def restartLatches (s : State) (i : Nat) : State :=
  match s.entry i with
  | none => s
  | some e =>
    if e.state = .active then
      setEntry s i { e with meter := e.meter.map (Meter.restart (selectorOf s e == .protection) (e.preempted == some true)) }
    else s

/-- The meter's count at boundary t for one entry: the second t − 1 is counted once, under the latches that stood through it, and becomes
the last counted second (R159, R161). -/
def meterCount (t : Nat) (s : State) (i : Nat) : State :=
  match s.entry i with
  | none => s
  | some e =>
    match e.state, e.meter, e.paths.bind Paths.selected with
    | .active, some m, some r =>
      if m.countsAt t then
        let counted := m.count (meterClass (e.bk.cls == .extra) (m.preLatch == some true) m.protLatch r)
        setEntry s i { e with meter := some { counted with lastCounted := some (t - 1) } }
      else s
    | _, _, _ => s

/-- The meter's work at boundary t for one entry: it reads both latches for the count of second t − 1 and starts them again for second t, in
one step (R159, R160). -/
def meterBoundary (t : Nat) (s : State) (i : Nat) : State := restartLatches (meterCount t s i) i

/-- Every meter at boundary t, in index order. -/
def meterAll (t : Nat) (s : State) : State := forEach indexes s (meterBoundary t)

/-! ### The charge arithmetic -/

/-- What a line charge is computed from (Table 9-3). -/
structure ChargeInput where
  meter  : Meter
  window : Nat
  lanes  : Nat
  tariff : Tariff
  deriving DecidableEq, Repr

/-- Stage 1: the clean seconds (R172). -/
def stageClean (c : ChargeInput) : Nat := c.meter.a - c.meter.f - c.meter.x - c.meter.z

/-- Stage 2: the floor for minimum use (R172). -/
def stageFloor (c : ChargeInput) : Nat :=
  if 0 < c.meter.a && !c.meter.isPartial then (c.window - c.meter.f - c.meter.x) * c.tariff.minimum / 100 else 0

/-- The billable seconds (R172). -/
def stageBillable (c : ChargeInput) : Nat := max (stageClean c) (stageFloor c)

/-- Stage 3: the numerator (R173). -/
def stageNumerator (c : ChargeInput) : Nat :=
  stageBillable c * c.tariff.rate * c.lanes + c.meter.p * c.tariff.surcharge

/-- Stage 4: division by 60 under the rounding mode (R174). -/
def stageQuotient (mode : Rounding) (n : Nat) : Nat :=
  let q := n / 60
  let e := n % 60
  match mode with
  | .down => q
  | .up => if e = 0 then q else q + 1
  | .nearest => if e < 30 then q else if 30 < e then q + 1 else if q % 2 = 0 then q else q + 1

/-- Stage 5: the line charge (R175). -/
def stageCharge (c : ChargeInput) : Nat :=
  if 0 < c.meter.a then stageQuotient c.tariff.rounding (stageNumerator c) + c.tariff.fee else 0

/-- The line of a drop (R168, R171 to R175). -/
def chargeLine (k : Key) (port : Nat) (c : ChargeInput) : Line :=
  { key := k, port := port, billable := stageBillable c, charge := stageCharge c,
    flags := lineFlags c.meter (decide (stageClean c < stageFloor c)) (decide (stageNumerator c % 60 ≠ 0)) }

/-- The inputs that the charge unit reads from a Closing entry and the configuration (R167, R171). -/
def chargeInput (s : State) (e : Entry) (m : Meter) : ChargeInput :=
  { meter := m, window := e.bk.winEnd - e.bk.winStart, lanes := e.bk.count,
    tariff := (s.cfg.tariffs[e.bk.rateClass]?).getD Tariff.reset }

end Sys2Proof.Machine
end

