-- ==== Sys2Proof/Machine/MatchBills.lean ====
section
/-! DEFINITION. The match bill table: binding (R179), MatchUnplaced (R180), the placement scan (R181), the match stage (R182), the close
of a record and its notices (R178, R188). -/

namespace Sys2Proof.Machine

/-- The number of the record that holds a match id (R177). -/
def findRecord (s : State) (matchId : Nat) : Option Nat :=
  (List.range Config.recordCount).find? (fun r => match s.record r with
    | some x => x.matchId == matchId
    | none => false)

/-- A record as it is created (R177). -/
def freshRecord (matchId firstActivation : Nat) : MatchRecord :=
  { matchId := matchId, state := .opened, total := 0, contributions := 0, pending := 0, flags := 0, lines := [], folded := 0,
    foldedCharge := 0, firstActivation := firstActivation, lastCharge := none }

/-- What a binding or a placement finds for a match id (R179, R181). -/
inductive Found where
  | opened (number : Nat) (record : MatchRecord)
  | free (number : Nat)
  | blocked (cause : UnboundCause)
  deriving DecidableEq, Repr

/-- Looks for a record for a match id: Open, else a free one, else the cause that leaves an entry unbound (R179). -/
def findFor (s : State) (matchId : Nat) : Found :=
  match findRecord s matchId with
  | some r =>
    match s.record r with
    | some x => if x.state = .opened then .opened r x else .blocked .matchClosed
    | none => .blocked .matchClosed
  | none =>
    match firstFree s.bill.records with
    | some r => .free r
    | none => .blocked .tableFull

/-- Writes the match binding of an entry's meter. -/
def setBinding (s : State) (i : Nat) (b : Binding) : State :=
  updEntry s i (fun e => { e with meter := e.meter.map (fun m => { m with binding := b }) })

/-- The first-active time of an entry's meter. -/
def firstActiveOf (e : Entry) : Nat := (e.meter.bind Meter.firstActive).getD 0

/-- A record with one more bound entry: pending rises, and the first activation time is lowered to the entry's (R177, R179). -/
def bindOne (r : MatchRecord) (firstActive : Nat) : MatchRecord :=
  { r with pending := r.pending + 1, firstActivation := min r.firstActivation firstActive }

/-- Binds an entry to record r holding x (R179). -/
def bindTo (s : State) (i : Nat) (e : Entry) (r : Nat) (x : MatchRecord) : State :=
  setBinding (setRecord s r (some (bindOne x (firstActiveOf e)))) i (.bound r)

/-- An entry left unbound: its cause is written, and MatchUnplaced is raised when the cause is new (R180). -/
def leaveUnbound (s : State) (i : Nat) (e : Entry) (cause : UnboundCause) : State :=
  let t := setBinding s i (.unbound cause)
  let before := match e.meter with
    | some m => m.binding
    | none => .none
  if before = .unbound cause then t
  else raiseNotice t (sourceEntry i) (.matchUnplaced e.key e.bk.matchId cause e.state)

/-! ### The match stage -/

/-- The largest total (R182). -/
def totalLimit : Nat := 4294967295

/-- A record with a line added: steps 1 to 6 of R182. -/
def addLine (r : MatchRecord) (l : Line) (fromBound : Bool) (now : Nat) : MatchRecord :=
  let capped := decide (totalLimit < r.total + l.charge) || decide (65535 ≤ r.contributions)
  let kept := decide (r.lines.length < 8)
  { r with
    total := min totalLimit (r.total + l.charge),
    contributions := raiseSat 65535 r.contributions,
    pending := if fromBound then r.pending - 1 else r.pending,
    lines := if kept then r.lines ++ [l] else r.lines,
    folded := if kept then r.folded else raiseSat 65535 r.folded,
    foldedCharge := if kept then r.foldedCharge else min totalLimit (r.foldedCharge + l.charge),
    flags := r.flags ||| l.flags ||| flagIf capped flagSaturated,
    lastCharge := some now }

/-- A record becomes Closed and raises MatchReady (R178, R188). -/
def closeRecord (s : State) (n : Nat) (r : MatchRecord) : State :=
  raiseNotice (setRecord s n (some { r with state := .closed })) (sourceRecord n)
    (.matchReady r.matchId r.total r.contributions r.folded r.flags)

/-- The flags that a stage sets first and the bill-flag mask enables (R188). -/
def newEnabledFlags (s : State) (before after : MatchRecord) : FlagSet := (after.flags &&& ~~~ before.flags) &&& s.cfg.billMask

/-- The match stage adds a line to its record in one step: the fields, the MatchFlag notice, and Closed when a Closing record has nothing
pending (R182, R188). -/
def matchStage (s : State) (n : Nat) (l : Line) (fromBound : Bool) : State :=
  match s.record n with
  | none => s
  | some r =>
    let r' := addLine r l fromBound s.now
    let new := newEnabledFlags s r r'
    let t := setRecord s n (some r')
    let u := if new = 0 then t else raiseNotice t (sourceRecord n) (.matchFlag r.matchId new r'.flags r'.total l.key)
    if r'.state = .closing && r'.pending = 0 then closeRecord u n r' else u

/-! ### Placement -/

/-- Creates a record for an entry in a free place (R177). -/
def createRecord (s : State) (n : Nat) (e : Entry) : State :=
  setRecord s n (some (freshRecord e.bk.matchId (firstActiveOf e)))

/-- Places an entry in an Open record: an Active or Closing entry is bound, the line of a Charged one is added and the entry freed (R181). -/
def placeIn (s : State) (i : Nat) (e : Entry) (n : Nat) (x : MatchRecord) : State :=
  match e.state, e.meter.bind Meter.charged with
  | .charged, some l =>
    let lowered := { x with firstActivation := min x.firstActivation (firstActiveOf e) }
    freeEntry (matchStage (setRecord s n (some lowered)) n l false) i
  | _, _ => bindTo s i e n x

/-- The entry's match binding says unbound, and its state is Active, Closing or Charged (R181). -/
def isUnplaced (e : Entry) : Bool :=
  (e.state == .active || e.state == .closing || e.state == .charged)
  && (match e.meter with
    | some m => (match m.binding with
      | .unbound _ => true
      | _ => false)
    | none => false)

/-- One entry of a placement scan (R181). -/
def placeOne (s : State) (i : Nat) : State :=
  match s.entry i with
  | none => s
  | some e =>
    if isUnplaced e then
      match findFor s e.bk.matchId with
      | .opened n x => placeIn s i e n x
      | .free n => placeIn (createRecord s n e) i e n (freshRecord e.bk.matchId (firstActiveOf e))
      | .blocked cause => leaveUnbound s i e cause
    else s

/-- A placement scan visits the calendar once in index order; it starts no further scan of its own (R181). -/
def placementScan (s : State) : State := forEach indexes s placeOne

/-- A drop entry that became Active binds to the record of its match, or stays unbound; creating a record starts a placement scan (R179). -/
def bindEntry (s : State) (i : Nat) : State :=
  match s.entry i with
  | none => s
  | some e =>
    if e.meter.isNone then s
    else match findFor s e.bk.matchId with
      | .opened n x => bindTo s i e n x
      | .free n => placementScan (bindTo (createRecord s n e) i e n (freshRecord e.bk.matchId (firstActiveOf e)))
      | .blocked cause => leaveUnbound s i e cause

end Sys2Proof.Machine
end

