-- ==== Sys2Proof/Machine/Windows.lean ====
section
/-! DEFINITION. The life of an entry's window: activation (R109 to R111), release (R112 to R115), the immediate end (R113) and the effect
of a WITHDRAW (R80, R82). -/

namespace Sys2Proof.Machine

/-! ### Activation -/

/-- An entry as it becomes Active at second v: state, first-active time, latches (R109, R159, R160). -/
def startEntry (v : Nat) (e : Entry) : Entry :=
  { e with
    state := .active,
    meter := e.meter.map (fun m => { m with firstActive := some v, protLatch := false, preLatch := m.preLatch.map (fun _ => false) }) }

/-- The hand-over of a newly Active entry to the protection controller: a bridge flag that is On opens the protection path (R151). -/
def handToProtection (s : State) (i : Nat) (v : Nat) : State :=
  match s.entry i with
  | none => s
  | some e => if e.bridgeFlag = some true then openProtection s i e v else s

/-- An entry becomes Active at second v: its roles write cells, output sources and watch places, protection layers already standing set
its Preempted flag, its bridge flag opens the protection path, and a drop binds to its match record (R109, R110, R111). Inside a clock jump the
second in progress that a displacement reports and a protection settle period counts from is the boundary's own (DESIGN CHOICE, log 35). -/
def activate (s : State) (i : Nat) (v : Nat) : State :=
  match s.entry i with
  | none => s
  | some e =>
    let s1 := setEntry s i (startEntry v e)
    let s2 := writeWorkPlaces (writeOutput (writeWorkCells s1 i e) i e) i e v
    bindEntry (handToProtection (judgePreempted e.key s2 i) i v) i

/-- Activation of the Held entries whose start is t, in index order (R109). -/
def activateOne (t : Nat) (s : State) (i : Nat) : State :=
  match s.entry i with
  | some e => if e.state = .held && e.bk.winStart = t then activate s i t else s
  | none => s

/-! ### Release -/

/-- The last step of a release: Closing in the close queue for an entry with a meter part, else free; the extension part goes with it
(R51, R112 step 4, R165). -/
def closeOrFree (s : State) (i : Nat) : State :=
  match s.entry i with
  | none => s
  | some e =>
    if e.meter.isSome then
      let t := setEntry s i { e with state := .closing, ext := none, marker := none }
      t.withBill { t.bill with closeQueue := t.bill.closeQueue ++ [i] }
    else freeEntry s i

/-- Releases an Active entry in one step: layers cleared under the owner test, output and places returned, the protection controller told,
the state changed (R112, R115, R120, R155). -/
def release (s : State) (i : Nat) : State :=
  match s.entry i with
  | none => s
  | some e =>
    let s1 := clearProtCells (clearWorkCells s e) e
    let s2 := clearPlaces (releaseOutput s1 e) e.key
    closeOrFree (endProtection s2 i e) i

/-- Release of an Active entry whose end is t; the meter's count of second t − 1 is taken here if it has not been (R112, R163). The latches that
the release freezes are those of second t (R160). -/
def releaseOne (t : Nat) (s : State) (i : Nat) : State :=
  match s.entry i with
  | some e => if e.state = .active && e.bk.winEnd = t then release (meterBoundary t s i) i else s
  | none => s

/-! ### WITHDRAW -/

/-- An entry with its window end changed. -/
def Entry.withEnd (e : Entry) (v : Nat) : Entry := { e with bk := { e.bk with winEnd := v } }

/-- The withdraw limit of an Open Extend record for a key becomes the lower of itself and e (R82). -/
def limitRecent (s : State) (k : Key) (v : Nat) : State :=
  s.withClaims { s.claims with recent := s.claims.recent.map (fun r =>
    if r.key = k && r.mode = .extend && r.mark = .opened then
      { r with limit := some (match r.limit with
        | some l => min l v
        | none => v) }
    else r) }

/-- The station reports a withdrawal of the entry to its host: at a drop and at the origin (R80). -/
def reportsWithdraw (e : Entry) : Bool := isDropEntry e || e.roles.contains .origin

/-- The EntryWithdrawn notice, raised at drops and at the origin (R80, R83). -/
def noticeWithdrawn (s : State) (i : Nat) (e : Entry) (newEnd : Nat) (effect : WithdrawEffect) : State :=
  if reportsWithdraw e then raiseNotice s (sourceEntry i) (.entryWithdrawn e.key newEnd effect) else s

/-- A lowered end of a Tentative or Held entry: freed at or before its start, else trimmed; a Held entry's change raises EntryWithdrawn
(R80). -/
def lowerBeforeStart (s : State) (i : Nat) (e : Entry) (v : Nat) : State :=
  let newEnd := min e.bk.winEnd v
  let toFree := decide (newEnd ≤ e.bk.winStart)
  let t := if toFree then freeEntry s i else setEntry s i (e.withEnd newEnd)
  if e.state = .held && newEnd != e.bk.winEnd then
    noticeWithdrawn t i e newEnd (if toFree then .freed else .trimmed)
  else t

/-- A WITHDRAW with end v applied to the entry of an index (R80, R82, R113). -/
def applyWithdraw (s : State) (i : Nat) (v : Nat) : State :=
  match s.entry i with
  | none => s
  | some e =>
    let s1 := if e.ext.isSome then limitRecent s e.key v else s
    match e.state with
    | .tentative => lowerBeforeStart s1 i e v
    | .held => lowerBeforeStart s1 i e v
    | .active =>
      if s.now < v then
        let newEnd := min e.bk.winEnd v
        let t := setEntry s1 i (e.withEnd newEnd)
        if newEnd != e.bk.winEnd then noticeWithdrawn t i e newEnd .trimmed else t
      else
        let t := release (setEntry s1 i (e.withEnd s.now)) i
        if s.now != e.bk.winEnd then noticeWithdrawn t i e s.now .ended else t
    | .closing => s
    | .charged => s

/-- One attempt of a withdraw-pending marker: the WITHDRAW joins and the origin applies it, or the marker stays; a fixed end that would
shorten nothing removes the marker (R81). -/
def attemptMarker (s : State) (i : Nat) : State :=
  match s.entry i with
  | none => s
  | some e =>
    match e.marker with
    | none => s
    | some m =>
      if !isCommitted e || slotHolds s e.key then s
      else
        let clear := { e with marker := none }
        match m with
        | .fixed v =>
          if e.bk.winEnd ≤ v then setEntry s i clear
          else if canJoin s e.bk.dir then applyWithdraw (setEntry (join s e.bk.dir e.key.seq (.withdraw v)) i clear) i v
          else s
        | .nowAtJoining =>
          if canJoin s e.bk.dir then
            applyWithdraw (setEntry (join s e.bk.dir e.key.seq (.withdraw s.now)) i clear) i s.now
          else s

end Sys2Proof.Machine
end

