-- ==== Sys2Proof/Machine/ClaimControl.lean ====
section
/-! DEFINITION. The claim controller: sequence counter (R54), recently-assessed list (R55), assessment (R62 to R64), the claim's return and
conclusion (R66 to R72), CONFIRM and ABANDON (R73 to R75), HOLDLOST (R76). -/

namespace Sys2Proof.Machine

/-! ### Sequence counter -/

/-- The first sequence from n on, within a number of steps, for which the calendar holds no entry of this station (R54). -/
def freeSeq (s : State) : Nat → Nat → Nat
  | 0, n => n
  | fuel + 1, n => if (lookup s { origin := s.self, seq := n }).isSome then freeSeq s fuel (nextSeq n) else n

/-- The sequence that a booking takes: a free one is found within 65 steps (R54). -/
def takenSeq (s : State) : Nat := freeSeq s 65 s.claims.seqCounter

/-- The sequence is taken: the counter becomes that sequence plus one (R54). -/
def takeSeq (s : State) : State := s.withClaims { s.claims with seqCounter := nextSeq (takenSeq s) }

/-! ### Recently-assessed list -/

/-- The recently-assessed record of a key and mode. -/
def findRecent (s : State) (k : Key) (mode : Mode) : Option Recent := s.claims.recent.find? (fun r => r.key == k && r.mode == mode)

/-- A record list without the record of a key and mode. -/
def dropRecent (l : List Recent) (k : Key) (mode : Mode) : List Recent := l.filter (fun r => !(r.key == k && r.mode == mode))

/-- The earliest age deadline of a list. -/
def earliestAge (l : List Recent) : Nat := l.foldl (fun a r => min a r.age) ((l.head?.map Recent.age).getD 0)

/-- A list without its first record of the earliest age deadline (R55). Of two that share the deadline the one that joined the list first goes
(DESIGN CHOICE, log 33). -/
def dropEarliest (l : List Recent) : List Recent := l.eraseP (fun r => r.age == earliestAge l)

/-- A Clear assessment adds a record with mark Open: it replaces the record of its key and mode, or in a full list takes the place of the
record with the earliest age deadline (R55). -/
def addRecent (s : State) (k : Key) (mode : Mode) : State :=
  let l := s.claims.recent
  let kept := if (findRecent s k mode).isSome then dropRecent l k mode else if 16 ≤ l.length then dropEarliest l else l
  s.withClaims { s.claims with
    recent := kept ++ [{ key := k, mode := mode, limit := none, mark := .opened, age := after s Config.ageMs }] }

/-- Discards the record of a key and mode (R55, R75). -/
def discardRecent (s : State) (k : Key) (mode : Mode) : State :=
  s.withClaims { s.claims with recent := dropRecent s.claims.recent k mode }

/-- Writes the mark of the record of a key and mode (R73, R74). -/
def markRecent (s : State) (k : Key) (mode : Mode) (mark : RecentMark) : State :=
  s.withClaims { s.claims with recent := s.claims.recent.map (fun r => if r.key = k && r.mode = mode then { r with mark := mark } else r) }

/-! ### Assessment in passing -/

/-- A CLAIM with this station's verdict written and its bit set in the assessed set (R61, R62). -/
def assessedAs (s : State) (b : ClaimBody) (v : Verdict) : ClaimBody := { b with verdict := v, assessed := stationAdd b.assessed s.self }

/-- A New CLAIM: the occupancy test, and on Pass a Tentative entry with a lifetime deadline and a record (R63). -/
def assessNew (s : State) (k : Key) (b : ClaimBody) : State × ClaimBody :=
  match testNew s (some k) (newCandidate s k b.bk) with
  | .pass =>
    (addRecent (allocate s k b.bk .tentative (some (after s Config.tentativeMs)) false) k .new, assessedAs s b .clear)
  | .fails r _ => (s, assessedAs s b (.refused r s.self))

/-- An Extend CLAIM: assessed against the entry held for the key, and on Pass a pending extension part with a lifetime deadline and a record
(R64). -/
def assessExtend (s : State) (k : Key) (b : ClaimBody) : State × ClaimBody :=
  match findEntry s k with
  | none => (s, assessedAs s b (.refused .unreachable s.self))
  | some (i, e) =>
    if !isCommitted e then (s, assessedAs s b (.refused .unreachable s.self))
    else if e.ext.isSome then (s, assessedAs s b (.refused .contested s.self))
    else match testExtend s k (extendCandidate s e b.bk.winEnd) with
      | .pass =>
        let part : ExtPart := { oldEnd := e.bk.winEnd, newEnd := b.bk.winEnd, lifetime := some (after s Config.tentativeMs) }
        (addRecent (setEntry s i { e with ext := some part }) k .extend, assessedAs s b .clear)
      | .fails r _ => (s, assessedAs s b (.refused r s.self))

/-- A CLAIM at first sight, in the order of R62. -/
def actClaim (s : State) (k : Key) (b : ClaimBody) : State × ClaimBody :=
  match b.verdict with
  | .refused _ _ => (s, b)
  | .clear =>
    if (rolesOf s.ring k b.bk s.self).isEmpty then (s, assessedAs s b .clear)
    else if !s.clock.synced then (s, assessedAs s b (.refused .notSynced s.self))
    else if s.recov.state = .recovering then (s, assessedAs s b (.refused .recovering s.self))
    else match b.mode with
      | .new => assessNew s k b
      | .extend => assessExtend s k b

/-! ### The origin's slots -/

/-- The body of a CLAIM as the origin queues it: verdict Clear, assessed set of this station alone (R59, R61). -/
def claimBody (s : State) (mode : Mode) (bk : Booking) : Body :=
  .claim { mode := mode, bk := bk, verdict := .clear, assessed := stationBit s.self }

/-- A claim slot is freed with an outcome, and its source raises BookingOutcome (R72, R83). -/
def concludeSlot (s : State) (n : Nat) (c : ClaimSlot) (o : Outcome) : State :=
  raiseNotice (setSlot s n none) (sourceSlot n) (.bookingOutcome c.mode c.firstKey c.key c.attempt o)

/-- The origin's own side of a claim still stands at the moment of confirming (R67 step 3). -/
def ownSideStands (s : State) (c : ClaimSlot) : Bool :=
  match findEntry s c.key with
  | none => false
  | some (_, e) =>
    match c.mode with
    | .new => e.state == .tentative && decide (s.now < e.bk.winStart)
    | .extend => isCommitted e && e.ext.isSome

/-- The origin removes what remains of its own side of an attempt: the Tentative entry is freed, or the extension part goes (R69). -/
def removeOwnSide (s : State) (c : ClaimSlot) : State :=
  match findEntry s c.key with
  | none => s
  | some (i, e) =>
    match c.mode with
    | .new => if e.state = .tentative then freeEntry s i else s
    | .extend => setEntry s i { e with ext := none }

/-- The origin commits its own side: Held, or the new end with the pre-extension end recorded (R68). -/
def commitOwnSide (s : State) (c : ClaimSlot) : State :=
  match findEntry s c.key with
  | none => s
  | some (i, e) =>
    match c.mode with
    | .new => setEntry s i { e with state := .held }
    | .extend =>
      match e.ext with
      | none => s
      | some p => setEntry s i { (e.withEnd p.newEnd) with ext := none, preExtEnd := some e.bk.winEnd }

/-- The outcome that a result other than Clear leads to when no retry follows (R69). -/
def outcomeOf : ClaimResult → Outcome
  | .clear => .committed
  | .refused .contested st => .contested st
  | .refused r st => .refused r st
  | .unreachable missing => .unreachable missing

/-- A Contested refusal of attempt 1 or 2 is retried (R69). -/
def isRetried (c : ClaimSlot) : ClaimResult → Bool
  | .refused .contested _ => decide (c.attempt < 3)
  | _ => false

/-- The contest retry delay in ms (R69). -/
def retryMs (s : State) : Nat := (s.self + 1) * 150

/-- The outbound message of a slot joins its queue, with the effect that R68 or R69 attaches to the joining. -/
def joinOutbound (s : State) (n : Nat) (c : ClaimSlot) : State :=
  match c.state with
  | .outConfirm =>
    if ownSideStands s c then
      concludeSlot (commitOwnSide (join s c.req.dir c.key.seq (.confirm c.mode)) c) n c .committed
    else
      concludeSlot (removeOwnSide (join s c.req.dir c.key.seq (.abandon c.mode)) c) n c (.refused .badWindow s.self)
  | .outAbandon r =>
    let t := join s c.req.dir c.key.seq (.abandon c.mode)
    if isRetried c r then setSlot t n (some { c with state := .retryWait (after s (retryMs s)) })
    else concludeSlot t n c (outcomeOf r)
  | _ => s

/-- A slot offers its outbound message: it joins at once if it can, otherwise it waits in the slot (R72). -/
def offerOutbound (s : State) (n : Nat) (c : ClaimSlot) : State :=
  let t := setSlot s n (some c)
  if canJoin t c.req.dir then joinOutbound t n c else t

/-- The result of an attempt is reached: Clear offers a CONFIRM (R68); any other removes the origin's own side and offers an ABANDON (R69). -/
def reachResult (s : State) (n : Nat) (c : ClaimSlot) (r : ClaimResult) : State :=
  match r with
  | .clear => offerOutbound s n { c with state := .outConfirm }
  | _ => offerOutbound (removeOwnSide s c) n { c with state := .outAbandon r }

/-- The stations holding a role that are missing from an assessed set (R67 step 2). -/
def missingFrom (s : State) (c : ClaimSlot) (assessed : StationSet) : StationSet := holders s.ring c.key c.req &&& ~~~ assessed

/-- The origin's judgment of a returned CLAIM (R67). -/
def judgeReturn (s : State) (c : ClaimSlot) (b : ClaimBody) : ClaimResult :=
  match b.verdict with
  | .refused r st => .refused r st
  | .clear =>
    if missingFrom s c b.assessed != 0 then .unreachable (some (missingFrom s c b.assessed))
    else if ownSideStands s c then .clear
    else .refused .badWindow s.self

/-- The claim slot that awaits the return of a key and mode (R66). -/
def awaitingSlot (s : State) (k : Key) (mode : Mode) : Option Nat :=
  (List.range Config.slotCount).find? (fun n => match s.slot n with
    | some c => (match c.state with
      | .awaiting _ => c.key == k && c.mode == mode
      | _ => false)
    | none => false)

/-- A CLAIM handed back to its origin: judged for its slot, or late and ignored (R66, R67). -/
def claimBack (s : State) (k : Key) (b : ClaimBody) : State :=
  match awaitingSlot s k b.mode with
  | none => s
  | some n =>
    match s.slot n with
    | some c => reachResult s n c (judgeReturn s c b)
    | none => s

/-! ### CONFIRM, ABANDON, HOLDLOST -/

/-- EntryCommitted at a station with TAP or END (R73). -/
def noticeCommitted (s : State) (i : Nat) (e : Entry) (mode : Mode) : State :=
  if isDropEntry e then raiseNotice s (sourceEntry i) (.entryCommitted e.key mode e.bk.winStart e.bk.winEnd) else s

/-- A late CONFIRM: an Open record queues a HOLDLOST and is marked Lost (R74). -/
def lateConfirm (s : State) (k : Key) (mode : Mode) : State :=
  match findRecent s k mode with
  | some r => if r.mark = .opened then markRecent (joinHoldlost s k mode) k mode .lost else s
  | none => s

/-- The end that a CONFIRM of an extension gives: the part's new end, or the withdraw limit when that is lower (R73, R82). -/
def confirmedEnd (s : State) (k : Key) (newEnd : Nat) : Nat :=
  match (findRecent s k .extend).bind Recent.limit with
  | some l => min newEnd l
  | none => newEnd

/-- A CONFIRM at first sight (R73, R74). -/
def actConfirm (s : State) (k : Key) (mode : Mode) : State :=
  match findEntry s k with
  | none => lateConfirm s k mode
  | some (i, e) =>
    match mode with
    | .new =>
      if e.state = .tentative then
        if s.now < e.bk.winStart then
          let e' := { e with state := .held, lifetime := none }
          noticeCommitted (markRecent (setEntry s i e') k .new .confirmed) i e' .new
        else lateConfirm (freeEntry s i) k .new
      else s
    | .extend =>
      match e.ext with
      | some p =>
        let e' := { (e.withEnd (confirmedEnd s k p.newEnd)) with ext := none }
        noticeCommitted (markRecent (setEntry s i e') k .extend .confirmed) i e' .extend
      | none => lateConfirm s k .extend

/-- An ABANDON at first sight removes the tentative it names and discards its record (R75). -/
def actAbandon (s : State) (k : Key) (mode : Mode) : State :=
  let t := match findEntry s k with
    | none => s
    | some (i, e) =>
      match mode with
      | .new => if e.state = .tentative then freeEntry s i else s
      | .extend => setEntry s i { e with ext := none }
  discardRecent t k mode

/-- The end of the marker that a HOLDLOST sets, if its condition is met (Table of R76). -/
def holdlostMarker (e : Entry) (mode : Mode) : Option MarkerEnd :=
  if isCommitted e && e.marker.isNone then
    match mode with
    | .new => some .nowAtJoining
    | .extend =>
      match e.preExtEnd with
      | some v => if v < e.bk.winEnd then some (.fixed v) else none
      | none => none
  else none

/-- A HOLDLOST at its key's origin sets a withdraw-pending marker, raises HoldLost, and the marker is attempted (R76, R81). -/
def actHoldlost (s : State) (k : Key) (mode : Mode) (station : Nat) : State :=
  if k.origin != s.self then s
  else match findEntry s k with
    | none => s
    | some (i, e) =>
      match holdlostMarker e mode with
      | none => s
      | some m =>
        attemptMarker (raiseNotice (setEntry s i { e with marker := some m }) (sourceEntry i) (.holdLost k mode station m)) i

/-- A WITHDRAW at first sight at a holder (R80). -/
def actWithdraw (s : State) (k : Key) (v : Nat) : State :=
  match lookup s k with
  | some i => applyWithdraw s i v
  | none => s

end Sys2Proof.Machine
end

