-- ==== Sys2Proof/Machine/RecallControl.lean ====
section
/-! DEFINITION. The recall controller: entering recovery and RECALL (R86, R87), answering (R90 to R92), REANNOUNCE and installation (R94 to
R96), leaving recovery (R97, R116). -/

namespace Sys2Proof.Machine

/-! ### RECALL -/

/-- A RECALL is sent: counted and timed, and queued with the message counter's value when it can join (R87, R11). -/
def sendRecall (s : State) : State :=
  let r := { s.recov with sends := min 3 (s.recov.sends + 1), resend := some (after s Config.circuitMs) }
  if canJoin s .east then joinCounted (s.withRecov { r with lastSeq := some s.lane.counter }) .recallReq else s.withRecov r

/-- Entering Recovering: sends, RECALL returned and counts start again, the recovery limit starts, and the first RECALL is sent (R86). The highest
own sequence installed starts again with the counts, so what was installed before a warm reset that interrupts a recovery does not count
for R97 step 2 (DESIGN CHOICE, log 48). -/
def enterRecovering (s : State) : State :=
  sendRecall (s.withRecov { s.recov with
    state := .recovering, sends := 0, returned := false, resend := none, quiet := none,
    limit := some (after s Config.recoveryMs), installed := 0, duplicates := 0, conflicts := 0, highestOwn := none })

/-- The recall controller is told that the clock became Synced (R25, R86). -/
def recallSynced (s : State) : State := if s.recov.state = .awaitingSync then enterRecovering s else s

/-- A RECALL of this station's own handed back: a matching one marks RECALL returned and starts the quiet deadline (R87). -/
def recallBack (s : State) (seq : Nat) : State :=
  if s.recov.state = .recovering && s.recov.lastSeq = some seq then
    s.withRecov { s.recov with returned := true, resend := none, quiet := some (after s Config.quietMs) }
  else s

/-! ### The walk -/

/-- The stations of a booking in path order: origin, then the drops (R91). -/
def pathOrder (k : Key) (bk : Booking) : List Nat := k.origin :: bk.drops.map Drop.station

/-- The target set of a REANNOUNCE: the pending stations that hold a role in the booking (R92). -/
def targetSet (s : State) (e : Entry) : StationSet := s.recov.pendingSet &&& holders s.ring e.key e.bk

/-- This station is the responder for an entry (R91). -/
def isResponder (s : State) (e : Entry) : Bool :=
  s.recov.state == .normal && isCommitted e
  && (pathOrder e.key e.bk).find? (fun x => !stationIn s.recov.pendingSet x) == some s.self
  && targetSet s e != 0

/-- The REANNOUNCE of an entry (R93). -/
def reannounceOf (s : State) (e : Entry) : Body :=
  .reannounce { key := e.key, bk := e.bk, active := e.state == .active, targets := targetSet s e }

/-- The walk from its cursor: one REANNOUNCE for each entry this station answers for; it stays on an entry whose REANNOUNCE cannot join, and
at its end the pending-recall set is cleared (R92). A waiting CONFIRM or ABANDON holds up the first attempt at an entry as well as the later
ones (DESIGN CHOICE, log 47). -/
def walkFrom : Nat → State → Nat → State
  | 0, s, _ => s.withRecov { s.recov with walk := none, pendingSet := 0 }
  | fuel + 1, s, i =>
    match s.entry i with
    | none => walkFrom fuel s (i + 1)
    | some e =>
      if isResponder s e then
        if canJoinSite s e.bk.dir then walkFrom fuel (join s e.bk.dir e.key.seq (reannounceOf s e)) (i + 1)
        else s.withRecov { s.recov with walk := some i }
      else walkFrom fuel s (i + 1)

/-- A walk goes on from a cursor to index 63. -/
def walkAt (s : State) (i : Nat) : State := walkFrom (Config.entryCount - i) s i

/-- A RECALL at first sight: the sender joins the pending-recall set, and a Normal station's walk starts at 0 (R90). -/
def actRecall (s : State) (sender : Nat) : State :=
  let t := s.withRecov { s.recov with pendingSet := stationAdd s.recov.pendingSet sender }
  if t.recov.state = .normal then walkAt t 0 else t

/-! ### Installation -/

/-- The state that an announced booking is installed in, by this station's clock (R94). -/
def installState (s : State) (r : Reannounce) : EntryState :=
  if r.active then (if s.now < r.bk.winStart then .held else .active)
  else (if r.bk.winStart ≤ s.now then .active else .held)

/-- The highest sequence among the installed keys of this station (R97 step 2). -/
def highestWith (s : State) (k : Key) : Option Nat :=
  if k.origin = s.self then some (max k.seq (s.recov.highestOwn.getD 0)) else s.recov.highestOwn

/-- A reannounced booking is installed; one installed Active is activated at once (R94, R95, R111). -/
def install (s : State) (r : Reannounce) : State :=
  let st := installState s r
  let s1 := s.withRecov { s.recov with installed := raiseSat 255 s.recov.installed, highestOwn := highestWith s r.key }
  let s2 := allocate s1 r.key r.bk st none true
  if st = .active then
    match lookup s2 r.key with
    | some i => activate s2 i s.now
    | none => s2
  else s2

/-- A conflict: counted, with a RecallConflict notice (R96). -/
def recallConflict (s : State) (k : Key) (reason : Reason) (first : Option Nat) : State :=
  raiseNotice (s.withRecov { s.recov with conflicts := raiseSat 255 s.recov.conflicts }) sourceRecall (.recallConflict k reason first)

/-- A REANNOUNCE judged by a Recovering station of its target set, in the order of R94. -/
def judgeReannounce (s : State) (r : Reannounce) : State :=
  if (lookup s r.key).isSome then s.withRecov { s.recov with duplicates := raiseSat 255 s.recov.duplicates }
  else if r.bk.winEnd ≤ s.now then s
  else if (rolesOf s.ring r.key r.bk s.self).isEmpty then s
  else match testNew s (some r.key) (newCandidate s r.key r.bk) with
    | .fails reason first => recallConflict s r.key reason first
    | .pass => install s r

/-- A REANNOUNCE at first sight (R89, R93, R94). -/
def actReannounce (s : State) (r : Reannounce) : State :=
  if s.recov.state = .recovering && stationIn r.targets s.self then
    let t := if s.recov.returned then s.withRecov { s.recov with quiet := some (after s Config.quietMs) } else s
    judgeReannounce t r
  else s

/-! ### Leaving recovery -/

/-- Leaving Recovering: the deadlines go, the state is Normal, and the four steps of R97 follow in order. -/
def leaveRecovery (s : State) (cause : EndCause) : State :=
  let s1 := s.withRecov { s.recov with state := .normal, resend := none, quiet := none, limit := none }
  let s2 := if s.recov.kind = .cold then idleUnownedCells s1 else s1
  let s3 := match s.recov.highestOwn with
    | some n => s2.withClaims { s2.claims with seqCounter := nextSeq n }
    | none => s2
  let s4 := raiseNotice s3 sourceRecall
    (.recoveryEnded cause s.recov.kind s.recov.installed s.recov.duplicates s.recov.conflicts)
  if s4.recov.pendingSet != 0 then walkAt s4 0 else s4

end Sys2Proof.Machine
end

