-- ==== Sys2Proof/Machine/Continuations.lean ====
section
/-! DEFINITION. The part's own continuations: waiting messages join as places free (R11, R12, R72), a walk goes on (R92), the charge unit takes
and completes (R167, R168). -/

namespace Sys2Proof.Machine

/-! ### OUTBOUND_JOIN (R11, R72) -/

/-- The lowest-numbered slot whose CONFIRM or ABANDON waits for a direction (R11). -/
def waitingSlot (s : State) (d : Dir) : Option Nat :=
  (List.range Config.slotCount).find? (fun n => match s.slot n with
    | some c => c.state.isOutbound && c.req.dir == d
    | none => false)

/-- The message of a waiting slot joins when the queue holds fewer than 12. -/
def joinWaiting (s : State) (d : Dir) (n : Nat) : State :=
  match s.slot n with
  | some c => if canJoin s d then joinOutbound s n c else s
  | none => s

/-- OUTBOUND_JOIN. -/
def execOutboundJoin (d : Dir) (s : State) : Host.Outcome State Fault Refusal :=
  .next (match waitingSlot s d with
    | some n => joinWaiting s d n
    | none => s)

/-! ### HOLDLOST_HELD_OVER_JOIN (R12) -/

/-- HOLDLOST_HELD_OVER_JOIN: the oldest held-over HOLDLOST joins where a place stands free. A place that a step frees goes to it in that
step (R12, log 11). -/
def execHoldlostHeldOverJoin (s : State) : Host.Outcome State Fault Refusal := .next (joinHeldOver s)

/-! ### WALK_RESUME (R92) -/

/-- WALK_RESUME: a walk in progress tries the entry at its cursor again. -/
def execWalkResume (s : State) : Host.Outcome State Fault Refusal :=
  .next (match s.recov.walk with
    | some i => walkAt s i
    | none => s)

/-! ### CHARGE_TAKE (R165, R167) -/

/-- An Idle charge unit takes the index at the head of the close queue (R167). -/
def takeCharge (s : State) : State :=
  match s.bill.charge, s.bill.closeQueue with
  | none, i :: rest => s.withBill { s.bill with charge := some i, closeQueue := rest }
  | _, _ => s

/-- CHARGE_TAKE. -/
def execChargeTake (s : State) : Host.Outcome State Fault Refusal := .next (takeCharge s)

/-! ### CHARGE_COMPLETION (R168) -/

/-- The charge unit becomes Idle (R168). -/
def idleCharge (s : State) : State := s.withBill { s.bill with charge := none }

/-- The line of a Closing drop entry (R168, R171). -/
def lineOf (s : State) (e : Entry) (m : Meter) : Line := chargeLine e.key ((outPort e.bk s.self).getD 0) (chargeInput s e m)

/-- The LineCharged notice (R168). -/
def noticeCharged (s : State) (i : Nat) (m : Meter) (l : Line) (o : ChargeOutcome) : State :=
  raiseNotice s (sourceEntry i) (.lineCharged l.key l.port m.a l.billable l.charge l.flags o)

/-- The record's state, if the record is in use. -/
def recordState (s : State) (n : Nat) : Option RecordState := (s.record n).map MatchRecord.state

/-- A bound entry's completion: the line is added to its record, the entry freed, LineCharged raised; a record that became Closed starts a
placement scan (R168, R178). -/
def placeLine (s : State) (i n : Nat) (m : Meter) (l : Line) : State :=
  let t := noticeCharged (freeEntry (matchStage s n l true) i) i m l .placed
  if recordState t n = recordState s n then t else placementScan t

/-- An unbound entry's completion: the line is kept, the entry becomes Charged, LineCharged raised (R168). -/
def keepLine (s : State) (i : Nat) (e : Entry) (m : Meter) (l : Line) (cause : UnboundCause) : State :=
  noticeCharged (setEntry s i { e with state := .charged, meter := some { m with charged := some l } }) i m l (.charged cause)

/-- The charge of an entry is completed (R168). -/
def completeCharge (s : State) (i : Nat) (e : Entry) (m : Meter) : State :=
  match m.binding with
  | .bound n => idleCharge (placeLine s i n m (lineOf s e m))
  | .unbound cause => idleCharge (keepLine s i e m (lineOf s e m) cause)
  | .none => s

/-- CHARGE_COMPLETION. -/
def execChargeCompletion (s : State) : Host.Outcome State Fault Refusal :=
  .next (match s.bill.charge with
    | none => s
    | some i => (match s.entry i with
      | none => s
      | some e => (match e.state, e.meter with
        | .closing, some m => completeCharge s i e m
        | _, _ => s)))

end Sys2Proof.Machine
end

