-- ==== Sys2Proof/Machine/RingTime.lean ====
section
/-! DEFINITION. Ring time: the work of every block at a second boundary (R28), running (R24), stamps (R25 to R27) and the change to Synced
(R25, R31). -/

namespace Sys2Proof.Machine

/-! ### A second boundary -/

/-- The protection controller's and the claim controller's work for one entry at a boundary: the drop's state, then the re-attempts of its
SWITCHREQ, its BRIDGE and its WITHDRAW, in that order (R11, R138, R143, R149, R81). The entry's latches take the selector and flag of the
new second before a WITHDRAW can end it (R160). -/
def attemptsOne (s : State) (i : Nat) : State :=
  match s.entry i with
  | none => s
  | some _ => attemptMarker (attemptBridge (attemptSwitchreq (restartLatches (protectionBoundary s i) i) i) i) i

/-- Boundary t: the monitors fix the records of second t − 1, the meters count it, entries ending at t are released and entries starting at
t activated, then the protection and claim controllers do their work in index order (R11, R28, R109, R112, R122, R159). Last, the latches of
every drop still Active take its selector and flag as the boundary leaves them, so second t begins with them in whichever order the
writes and the count were taken (R160, R164). -/
def boundary (t : Nat) (s : State) : State :=
  let s1 := closeInputs (meterAll t (closeRecords t s))
  let s2 := forEach indexes (forEach indexes s1 (releaseOne t)) (activateOne t)
  forEach indexes (forEach indexes s2 attemptsOne) restartLatches

/-- The ring seconds set, the fraction at 0. -/
def setSeconds (s : State) (v : Nat) : State := s.withClock { s.clock with seconds := v, fraction := 0, late := 0 }

/-- The local milliseconds that the next second has had when a boundary is taken: those beyond the 1,000 of the second that ended (log 2),
and none at the limit, where the clock holds with fraction 0 (R24). -/
def carried (c : Clock) : Nat := if c.seconds + 1 < Config.maxSeconds then c.ran - 1000 else 0

/-- The clock after a completed second: ring seconds advanced by one, the fraction from 0 again (R24). -/
def Clock.nextSecond (c : Clock) : Clock := { c with seconds := c.seconds + 1 }.withRan (carried c)

/-- A completed second of running time: the clock goes on to the next second and its boundary is delivered; at the limit the clock holds
(R24). -/
def runSecond (s : State) : State :=
  if clockRuns s then boundary (s.clock.seconds + 1) (s.withClock s.clock.nextSecond) else s

/-- A jump of j seconds delivers its boundaries in ascending order, the new value in place (R26, R27). -/
def jump (s : State) (j : Nat) : State :=
  (List.range j).foldl (fun t n => boundary (s.clock.seconds + n + 1) t) (setSeconds s (s.clock.seconds + j))

/-! ### Becoming Synced -/

/-- The clock becomes Synced at a value: the MARK timer starts, ClockSynced is raised, and the recall controller is told. No boundary is
delivered (R25, R31). Ring second v begins here, so the input monitors take their state at it (R130). -/
def becomeSynced (s : State) (v : Nat) (cause : SyncCause) : State :=
  let s1 := s.withClock { synced := true, seconds := v, fraction := 0, late := 0, markDeadline := some (after s Config.markMs) }
  let s2 := s1.withMons { s1.mons with inputs := s1.mons.inputs.map (fun m => { m with atBoundary := m.isPresent, changed := false }) }
  recallSynced (raiseNotice s2 sourceClock (.clockSynced v cause))

/-- The ring clock takes the stamp and flag of a received slot (R25, R26). -/
def takeStamp (s : State) (m : Msg) : State :=
  if m.hdr.unsynced then s
  else if !s.clock.synced then becomeSynced s m.hdr.stamp (.stamp m.hdr.origin (kindCode m.body))
  else if m.hdr.stamp ≤ s.clock.seconds then s
  else if m.hdr.stamp ≤ s.clock.seconds + 4 then jump s (m.hdr.stamp - s.clock.seconds)
  else raiseNotice s sourceClock (.clockSkew m.hdr.stamp s.clock.seconds m.hdr.origin (kindCode m.body))

end Sys2Proof.Machine
end

