-- ==== Sys2Proof/Machine/HeaderProcessor.lean ====
section
/-! DEFINITION. The header processor: wrap (R18 to R20), slots put out (R5, R13), arriving full slots (R14 to R17, R21), and transparent
forwarding (R22). -/

namespace Sys2Proof.Machine

/-! ### Wrap and outputs -/

/-- The far-end Down indication of the last slot that arrived on a side (R18). -/
def State.far (s : State) : Dir → Bool
  | .east => s.lane.farEast
  | .west => s.lane.farWest

/-- A side is wrapped while its span monitor is Down or the last slot that arrived there carried the far-end Down indication (R18). -/
def wrapped (s : State) (side : Dir) : Bool := !(s.span side).up || s.far side

/-- A slot arrived on a side with an indication (R18). -/
def noteFar (s : State) (side : Dir) (far : Bool) : State :=
  match side with
  | .east => s.withLane { s.lane with farEast := far }
  | .west => s.withLane { s.lane with farWest := far }

/-- Puts a slot out on a side as it is. -/
def putSlot (s : State) (side : Dir) (slot : Slot) : State :=
  match side with
  | .east => s.withLane { s.lane with outEast := slot }
  | .west => s.withLane { s.lane with outWest := slot }

/-- A slot leaves on a side in normal running; its indication says whether this station's span monitor of the side is Down (R5). -/
def emit (s : State) (side : Dir) (m : Option Msg) : State := putSlot s side { farDown := !(s.span side).up, msg := m }

/-! ### Placing messages -/

/-- A message as it takes a slot: stamp and Unsynced flag of the moment, counts at 0 (R8, R13). -/
def stamped (s : State) (m : Msg) : Msg :=
  { m with hdr := { m.hdr with stamp := s.clock.seconds, unsynced := !s.clock.synced, hops := 0, wraps := 0, firstWrap := none } }

/-- A message as a station turns it: wrap count raised, the first wrap station written at the first turn (R19). -/
def turned (s : State) (m : Msg) : Msg :=
  { m with hdr := { m.hdr with
    wraps := m.hdr.wraps + 1, firstWrap := if m.hdr.wraps = 0 then some s.self else m.hdr.firstWrap } }

/-- The head of a direction's queue takes a slot that leaves on a side; on the folded side a message of the other queue is turned at
placement. A held-over HOLDLOST takes the place that frees; the MARK timer starts again (R12, R13, R19, R30). -/
def placeHead (s : State) (d side : Dir) : State :=
  match s.queue d with
  | [] => emit s side none
  | m :: rest =>
    let out := if side = d then stamped s m else turned s (stamped s m)
    startMark (emit (freePlace s d rest) side (some out))

/-- The queue that a folded slot goes to: the one that did not take the last, or the only one with a message waiting (R20). -/
def foldedChoice (s : State) : Option Dir :=
  let other := opp s.lane.lastServed
  if !(s.queue other).isEmpty then some other
  else if !(s.queue s.lane.lastServed).isEmpty then some s.lane.lastServed
  else none

/-- A folded slot leaves on the one working side and serves the two queues in turn (R20). -/
def serveFolded (s : State) (side : Dir) : State :=
  match foldedChoice s with
  | none => emit s side none
  | some d => placeHead (s.withLane { s.lane with lastServed := d }) d side

/-- A slot that arrived on a port continues empty, and may be filled where `fill` says so (R5, R13, R20). A wrapped output carries only empty
slots that the station generates. -/
def continueEmpty (s : State) (port : Dir) (fill : Bool) : State :=
  let d := opp port
  if wrapped s port then emit s port none
  else if wrapped s d then
    let t := emit s d none
    if fill then serveFolded t port else emit t port none
  else if fill then placeHead s d d else emit s d none

/-! ### Acting on messages -/

/-- The booking key that a message of the origin's own kinds names (R7). -/
def headerKey (m : Msg) : Key := { origin := m.hdr.origin, seq := m.hdr.seq }

/-- A returned message handed back at its origin (R14, Table 1-1). -/
def handBack (s : State) (m : Msg) : State :=
  match m.body with
  | .claim b => claimBack s (headerKey m) b
  | .recallReq => recallBack s m.hdr.seq
  | .mark => s
  | .confirm _ => s
  | .abandon _ => s
  | .withdraw _ => s
  | .holdlost _ _ _ => s
  | .switchreq _ _ _ => s
  | .bridge _ _ _ => s
  | .spanstate _ _ => s
  | .query _ _ => s
  | .answer _ _ _ _ => s
  | .reannounce _ => s
  | .unknown _ _ => s

/-- A QUERY at its target queues an ANSWER with a copy of the record; one that cannot join is dropped (R190, R11). -/
def actQuery (s : State) (querier seq target matchId : Nat) : State :=
  if target = s.self && canJoin s .east then
    let copy := (findRecord s matchId).bind (fun r => (s.record r).map (fun x => ({ number := r, record := x } : Statement)))
    joinCounted s (.answer querier seq matchId copy)
  else s

/-- The outcome that an ANSWER brings (R191). -/
def answerOutcome (copy : Option Statement) : QueryOutcome :=
  match copy with
  | some c => .found c
  | none => .notFound

/-- An ANSWER at its querier: one that meets the pending query clears it and raises QueryResult; any other is late (R191). -/
def actAnswer (s : State) (sender querier seq matchId : Nat) (copy : Option Statement) : State :=
  match s.bill.query with
  | some q =>
    if querier = s.self && q.seq = seq && q.matchId = matchId && q.target = sender then
      raiseNotice (s.withBill { s.bill with query := none }) sourceQuery (.queryResult q.target q.matchId (answerOutcome copy))
    else s
  | none => s

/-- The owning block acts on a message at first sight; a CLAIM's body may change (R16, Table 1-1). -/
def act (s : State) (port : Dir) (m : Msg) : State × Msg :=
  match m.body with
  | .mark => (s, m)
  | .claim b =>
    let r := actClaim s (headerKey m) b
    (r.1, { m with body := .claim r.2 })
  | .confirm mode => (actConfirm s (headerKey m) mode, m)
  | .abandon mode => (actAbandon s (headerKey m) mode, m)
  | .withdraw v => (actWithdraw s (headerKey m) v, m)
  | .holdlost k mode station => (actHoldlost s k mode station, m)
  | .switchreq k station on => (actSwitchreq s k station on, m)
  | .bridge k true drops => (actBridgeOn s k drops, m)
  | .bridge k false _ => (actBridgeOff s k, m)
  | .spanstate side up => (raiseNotice s (sourceSpan port) (.spanReport m.hdr.origin side up m.hdr.stamp), m)
  | .query target matchId => (actQuery s m.hdr.origin m.hdr.seq target matchId, m)
  | .answer querier seq matchId copy => (actAnswer s m.hdr.origin querier seq matchId copy, m)
  | .recallReq => (actRecall s m.hdr.origin, m)
  | .reannounce r => (actReannounce s r, m)
  | .unknown _ _ => (s, m)

/-- The first-sight test: wrap count 0, or 1 off the arc from the origin to the first wrap station in the sent direction (R16). -/
def firstSight (s : State) (h : Header) : Bool :=
  if h.wraps = 0 then true
  else if h.wraps = 1 then
    match h.firstWrap with
    | some w => !onArc s.ring h.sentDir h.origin w s.self
    | none => true
  else false

/-- Forwarding: the message leaves in its slot, or is turned at a wrapped output, or is discarded on a third wrap or between two wrapped
sides, its slot then continuing empty (R17, R19). -/
def forward (s : State) (port : Dir) (m : Msg) : State :=
  let d := opp port
  if !wrapped s d then emit s d (some m)
  else if 3 ≤ m.hdr.wraps + 1 || wrapped s port then continueEmpty s port true
  else emit (emit s d none) port (some (turned s m))

/-- The message with its hop count raised (R15). -/
def hopped (m : Msg) : Msg := { m with hdr := { m.hdr with hops := m.hdr.hops + 1 } }

/-- A full slot whose message is not dropped: stripped and handed back, discarded at the hop limit or at its first wrap station, or acted on
at first sight and forwarded (R14 to R17, R21). -/
def handleFull (s : State) (port : Dir) (m : Msg) : State :=
  let d := opp port
  if m.hdr.origin = s.self && m.hdr.sentDir = d then continueEmpty (handBack s m) port false
  else if 2 * s.ring ≤ m.hdr.hops + 1 then continueEmpty s port true
  else if m.hdr.wraps = 1 && m.hdr.firstWrap = some s.self && m.hdr.sentDir ≠ d then continueEmpty s port true
  else if firstSight s m.hdr then forward (act s port (hopped m)).1 port (act s port (hopped m)).2
  else forward s port (hopped m)

/-- A slot passes a transparent station unchanged (R22). -/
def passThrough (s : State) (port : Dir) (slot : Slot) : State := putSlot s (opp port) slot

/-- A full slot arrives: the indication is noted, a slot on a wrapped side is dropped with no stamp passed on, any other hands its stamp to
the clock and is handled (R8, R18). Outside normal running it passes unchanged (R22). -/
def arriveFull (s : State) (port : Dir) (far : Bool) (m : Msg) : State :=
  if s.running then
    let t := noteFar s port far
    if wrapped t port then emit t port none
    else handleFull (takeStamp t m) port m
  else passThrough s port { farDown := far, msg := some m }

/-- An empty slot arrives (R13, R18, R20, R22). -/
def arriveEmpty (s : State) (port : Dir) (far : Bool) : State :=
  if s.running then continueEmpty (noteFar s port far) port true
  else passThrough s port { farDown := far, msg := none }

end Sys2Proof.Machine
end

