-- ==== Sys2Proof/Machine/Formats.lean ====
section
/-! DEFINITION. The byte layouts of R203: numbers most significant byte first, the CRC-16 of the site frame and the lane frame, the site
frame receiver (R192), the control message header and the CLAIM body (Table 11-6), lane frames (Table 11-7), and the codes of Tables 11-1,
11-2 and 11-9. -/

namespace Sys2Proof.Machine

/-! ### Numbers -/

/-- The low byte of a number. -/
def byteOf (n : Nat) : Byte := BitVec.ofNat 8 n

/-- A number in two, three and four bytes, most significant byte first (R203). -/
def bytes2 (n : Nat) : List Byte := [byteOf (n / 256), byteOf n]
def bytes3 (n : Nat) : List Byte := [byteOf (n / 65536), byteOf (n / 256), byteOf n]
def bytes4 (n : Nat) : List Byte := [byteOf (n / 16777216), byteOf (n / 65536), byteOf (n / 256), byteOf n]

/-- The number that bytes hold, most significant byte first (R203). -/
def numOf (l : List Byte) : Nat := l.foldl (fun a b => a * 256 + b.toNat) 0

/-- Byte i of a row of bytes; a place beyond its end reads as 0xFF, as a memory that does not answer does (R199). -/
def byteAt (l : List Byte) (i : Nat) : Byte := (l[i]?).getD 0xFF

/-- The number in n bytes from place i. -/
def fieldAt (l : List Byte) (i n : Nat) : Nat := numOf ((List.range n).map (fun j => byteAt l (i + j)))

/-- A booking key in 3 bytes: origin station, then sequence (R203). -/
def keyBytes (k : Key) : List Byte := byteOf k.origin :: bytes2 k.seq

/-- The booking key at place i. -/
def keyAt (l : List Byte) (i : Nat) : Key := { origin := fieldAt l i 1, seq := fieldAt l (i + 1) 2 }

/-! ### CRC-16 -/

/-- One bit of the CRC-16 with polynomial 0x1021, most significant bit first (R203). -/
def crcBit (c : Half) : Half := if c.msb then (c <<< 1) ^^^ 0x1021#16 else c <<< 1

/-- One byte of the CRC-16. -/
def crcByte (c : Half) (b : Byte) : Half :=
  crcBit (crcBit (crcBit (crcBit (crcBit (crcBit (crcBit (crcBit (c ^^^ (b.zeroExtend 16 <<< 8)))))))))

/-- The CRC-16 of bytes: initial value 0xFFFF, no reflection, no final inversion (R203). -/
def crc16 (l : List Byte) : Half := l.foldl crcByte 0xFFFF#16

/-! ### Lane frames -/

/-- The tag that a station sends for a key, or for none: origin byte 0xFF (R203). The two sequence bytes of none are 0xFF (DEDUCED,
log 9). -/
def tagOf : Option Key → LaneTag
  | some k => { origin := byteOf k.origin, seq := BitVec.ofNat 16 k.seq }
  | none => { origin := 0xFF, seq := 0xFFFF }

/-- The key that a tag names as a receiving station reads it: none where the origin byte is 0xFF, whatever the sequence bytes (R118, R203).
An origin byte 0x10 to 0xFE, which no station sends, is read as a key of that origin (DESIGN CHOICE, log 50). -/
def readTag (t : LaneTag) : Option Key := if t.origin = 0xFF then none else some { origin := t.origin.toNat, seq := t.seq.toNat }

/-- The three bytes of a lane tag (Table 11-7). -/
def tagBytes (t : LaneTag) : List Byte := t.origin :: bytes2 t.seq.toNat

/-- The check of a lane frame, over tag, content and payload (R118, R203). -/
def laneCheck (tag : LaneTag) (content : Byte) (payload : List Byte) : Half := crc16 (tagBytes tag ++ content :: payload)

/-- The bytes of a lane frame: tag, content, payload, check (Table 11-7). -/
def LaneFrame.bytes (f : LaneFrame) : List Byte := tagBytes f.tag ++ f.content :: (f.payload ++ bytes2 f.check.toNat)

/-- A lane frame with its check computed afresh (R101, R102). -/
def LaneFrame.build (tag : Option Key) (content : Byte) (payload : List Byte) : LaneFrame :=
  { tag := tagOf tag, content := content, payload := payload, check := laneCheck (tagOf tag) content payload }

/-- The frame fails its check (R118). -/
def checkFails (f : LaneFrame) : Bool := laneCheck f.tag f.content f.payload != f.check

/-- The content indicator as a receiving station reads its byte: other than 0, 1 or 2 reads as Fail (R203, Table 11-7). -/
def readContent (b : Byte) : Content := if b = 0 then .feed else if b = 1 then .noFeed else .fail

/-! ### The site frame -/

/-- A site frame around a body: start byte, length, body, check over length and body (R192, Table 11-5). -/
def siteFrame (body : List Byte) : List Byte :=
  0x7E#8 :: (bytes2 body.length ++ body ++ bytes2 (crc16 (bytes2 body.length ++ body)).toNat)

/-- What the receiver makes of a row of bytes from Hunting: no start byte, a frame not yet complete, a frame to be answered BadFrame, or a
body whose check matches (R192). -/
inductive Reception where
  | hunting
  | receiving
  | bad
  | body (bytes : List Byte)
  deriving DecidableEq, Repr

/-- The receiver after a start byte: length 3 to 2,048, body, check (R192, Table 11-5). -/
def receiveFrame (l : List Byte) : Reception :=
  if l.length < 2 then .receiving
  else
    let len := numOf (l.take 2)
    if len < 3 || 2048 < len then .bad
    else if l.length < len + 4 then .receiving
    else if crc16 (l.take (len + 2)) = BitVec.ofNat 16 (numOf ((l.drop (len + 2)).take 2)) then .body ((l.drop 2).take len)
    else .bad

/-- The receiver from Hunting: every byte is discarded until a start byte arrives (R192). -/
def receive : List Byte → Reception
  | [] => .hunting
  | b :: rest => if b = 0x7E then receiveFrame rest else receive rest

/-! ### Codes -/

/-- The request codes (Table 11-2). -/
def codeBook : Byte := 0x10
def codeWithdraw : Byte := 0x11
def codeExtend : Byte := 0x12
def codeSetClock : Byte := 0x13
def codeForce : Byte := 0x14
def codeLockout : Byte := 0x15
def codeClearSwitch : Byte := 0x16
def codeReadEntry : Byte := 0x17
def codeReadMonitor : Byte := 0x18
def codeReadMatch : Byte := 0x19
def codeCloseMatch : Byte := 0x1A
def codeTakeStatement : Byte := 0x1B
def codeRemoteRead : Byte := 0x1C
def codeRestart : Byte := 0x1D

/-- The body marks a request, and its code is one of Table 11-2 (R192). -/
def isRequest (bodyType code : Byte) : Bool := bodyType == 0x01 && decide (0x10 ≤ code.toNat) && decide (code.toNat ≤ 0x1D)

/-- The command that a request of a code is, with its host tag and parameters (Table 11-2); absent for a code of no request. -/
def requestFor (tag code : Byte) (params : List Byte) : Option Instr :=
  if code = codeBook then some (.book tag params)
  else if code = codeWithdraw then some (.withdraw tag params)
  else if code = codeExtend then some (.extend tag params)
  else if code = codeSetClock then some (.setClock tag params)
  else if code = codeForce then some (.force tag params)
  else if code = codeLockout then some (.lockout tag params)
  else if code = codeClearSwitch then some (.clearSwitch tag params)
  else if code = codeReadEntry then some (.readEntry tag params)
  else if code = codeReadMonitor then some (.readMonitor tag params)
  else if code = codeReadMatch then some (.readMatch tag params)
  else if code = codeCloseMatch then some (.closeMatch tag params)
  else if code = codeTakeStatement then some (.takeStatement tag params)
  else if code = codeRemoteRead then some (.remoteRead tag params)
  else if code = codeRestart then some (.restart tag params)
  else none

/-- The body of a request: body type 0x01, host tag, request code, and the parameters from byte 6 of the frame on (Table 11-5). -/
def requestBody (tag code : Byte) (params : List Byte) : List Byte := 0x01#8 :: tag :: code :: params

/-- The command that a body whose check matches is: a request of Table 11-2 by its code, or a frame that is no request or of an unknown code,
which UNKNOWN_REQUEST answers (R192, Table 11-5). -/
def readBody (body : List Byte) : Instr :=
  let tag := byteAt body 1
  let code := byteAt body 2
  let unknown := Instr.unknownRequest (byteAt body 0) tag code
  if isRequest (byteAt body 0) code then (requestFor tag code (body.drop 3)).getD unknown else unknown

/-- The command that bytes on the site link complete: a body read, or a bad frame; absent while no frame is complete (R192). -/
def readFrame (l : List Byte) : Option Instr :=
  match receive l with
  | .body body => some (readBody body)
  | .bad => some (.badFrame l)
  | .receiving => none
  | .hunting => none

/-- The code of a refusal reason (Table 11-1). -/
def reasonCode : Reason → Nat
  | .laneBusy => 1
  | .portBusy => 2
  | .contested => 3
  | .tableFull => 4
  | .notSynced => 5
  | .recovering => 6
  | .unreachable => 7
  | .badWindow => 8

/-- The reason of a code. -/
def reasonOf : Nat → Option Reason
  | 1 => some .laneBusy
  | 2 => some .portBusy
  | 3 => some .contested
  | 4 => some .tableFull
  | 5 => some .notSynced
  | 6 => some .recovering
  | 7 => some .unreachable
  | 8 => some .badWindow
  | _ => none

/-- The bytes of a status: its code, and after Refused one reason byte (Table 11-1). -/
def Status.bytes : Status → List Byte
  | .done => [0x00]
  | .accepted => [0x01]
  | .busy => [0x02]
  | .badFrame => [0x03]
  | .badRequest => [0x04]
  | .notConfigured => [0x05]
  | .notSynced => [0x06]
  | .recovering => [0x07]
  | .notFound => [0x08]
  | .wrongState => [0x09]
  | .lockedOut => [0x0A]
  | .queryPending => [0x0B]
  | .refused r => [0x0C, byteOf (reasonCode r)]

/-- The kind code of a notice (Table 11-9). -/
def NoticeBody.code : NoticeBody → Nat
  | .clockSynced _ _ => 0x01
  | .clockSkew _ _ _ _ => 0x02
  | .bookingOutcome _ _ _ _ _ => 0x03
  | .entryCommitted _ _ _ _ => 0x04
  | .tentativeLapsed _ _ => 0x05
  | .holdLost _ _ _ _ => 0x06
  | .entryWithdrawn _ _ _ => 0x07
  | .recallConflict _ _ _ => 0x08
  | .recoveryEnded _ _ _ _ _ => 0x09
  | .laneState _ _ _ _ _ _ _ _ => 0x0A
  | .inputState _ _ _ _ => 0x0B
  | .spanState _ _ _ _ => 0x0C
  | .spanReport _ _ _ _ => 0x0D
  | .protectionState _ _ _ _ _ _ => 0x0E
  | .bridgeState _ _ _ => 0x0F
  | .preemptState _ _ _ => 0x10
  | .lineCharged _ _ _ _ _ _ _ => 0x11
  | .matchUnplaced _ _ _ _ => 0x12
  | .matchFlag _ _ _ _ _ => 0x13
  | .matchReady _ _ _ _ _ => 0x14
  | .queryResult _ _ _ => 0x15

/-- The first bytes of a reply's body: body type, host tag, request code, status (Table 11-5). Its data have no byte layout (R203). -/
def Reply.head (r : Reply) : List Byte := [0x02, r.tag, r.code] ++ r.status.bytes

/-- The first bytes of a notice's body: body type, source number, kind, superseded count, ring seconds at raise (R198, Table 11-5). Its
content has no byte layout (R203). -/
def Notice.head (n : Notice) : List Byte := [0x03, byteOf n.source, byteOf n.content.code, byteOf n.superseded] ++ bytes4 n.seconds

/-! ### Control messages -/

/-- The direction bit: 0 East, 1 West. -/
def dirBit : Dir → Nat
  | .east => 0
  | .west => 1

/-- The direction of a bit. -/
def dirOf (n : Nat) : Dir := if n % 2 = 0 then .east else .west

/-- A flag as a bit. -/
def flagBit (b : Bool) : Nat := if b then 1 else 0

/-- A station field that may be absent (R203). -/
def stationByte : Option Nat → Byte
  | some n => byteOf n
  | none => 0xFF

/-- The station of a field. -/
def stationOf (b : Byte) : Option Nat := if b = 0xFF then none else some b.toNat

/-- The marker byte of a slot: bit 0 for a full slot, bit 1 the far-end Down indication (Table 11-6). Bits 2 to 7, which
the manual does not name, are sent as 0 (DESIGN CHOICE, log 53). -/
def slotMarker (x : Slot) : Byte := byteOf (flagBit x.msg.isSome + 2 * flagBit x.farDown)

/-- What a marker byte says: full, and the far-end Down indication; no other bit is read (Table 11-6, log 53). -/
def readMarker (b : Byte) : Bool × Bool := (b.getLsbD 0, b.getLsbD 1)

/-- The header of a message in 10 bytes (R6, Table 11-6). -/
def encodeHeader (kind : Nat) (h : Header) : List Byte :=
  [byteOf kind, byteOf (h.origin * 16 + dirBit h.sentDir * 8 + flagBit h.unsynced * 4 + h.wraps)] ++ bytes2 h.seq ++ bytes4 h.stamp
    ++ [byteOf h.hops, stationByte h.firstWrap]

/-- The header that 10 bytes hold (Table 11-6). -/
def decodeHeader (l : List Byte) : Header :=
  let b := fieldAt l 1 1
  { origin := b / 16, seq := fieldAt l 2 2, sentDir := dirOf (b / 8), stamp := fieldAt l 4 4, unsynced := b / 4 % 2 == 1,
    hops := fieldAt l 8 1, wraps := b % 4, firstWrap := stationOf (byteAt l 9) }

/-- The code of a booking class. -/
def classCode : BookingClass → Nat
  | .premium => 0
  | .standard => 1
  | .extra => 2

/-- The booking class of a code; 3 is none. -/
def classOfCode : Nat → Option BookingClass
  | 0 => some .premium
  | 1 => some .standard
  | 2 => some .extra
  | _ => none

/-- The class byte, byte 14 of Table 11-6. Bit 1, which the table does not name, is sent as 0 and not read (DESIGN CHOICE, log 52). -/
def classByte (b : Booking) : Byte := byteOf (b.rateClass * 32 + classCode b.cls * 8 + flagBit b.isProtected * 4 + dirBit b.dir)

/-- Four drops of two bytes, unused drops 0xFF (Table 11-6). -/
def dropBytes : Nat → List Drop → List Byte
  | 0, _ => []
  | n + 1, [] => [0xFF, 0xFF] ++ dropBytes n []
  | n + 1, d :: ds => [byteOf d.station, byteOf d.port] ++ dropBytes n ds

/-- The first n drops from place i. -/
def dropsAt (l : List Byte) (i n : Nat) : List Drop :=
  (List.range n).map (fun j => { station := fieldAt l (i + 2 * j) 1, port := fieldAt l (i + 2 * j + 1) 1 })

/-- The code of a mode. -/
def modeCode : Mode → Nat
  | .new => 0
  | .extend => 1

/-- The mode of a code. -/
def modeOf : Nat → Option Mode
  | 0 => some .new
  | 1 => some .extend
  | _ => none

/-- The two verdict bytes: 0 and an absent station, or a reason code and the refusing station (Table 11-6). -/
def verdictBytes : Verdict → List Byte
  | .clear => [0x00, 0xFF]
  | .refused r station => [byteOf (reasonCode r), byteOf station]

/-- The verdict of two bytes. -/
def verdictOf (code station : Nat) : Option Verdict :=
  if code = 0 then some .clear else (reasonOf code).map (fun r => .refused r station)

/-- A CLAIM's body, bytes 10 to 42 of the message (Table 11-6). -/
def encodeClaimBody (b : ClaimBody) : List Byte :=
  [byteOf (modeCode b.mode)] ++ bytes3 b.bk.matchId ++ [classByte b.bk, byteOf b.bk.first, byteOf b.bk.count] ++ bytes4 b.bk.winStart
    ++ bytes4 b.bk.winEnd ++ bytes4 0 ++ [byteOf b.bk.input, byteOf b.bk.drops.length] ++ dropBytes 4 b.bk.drops
    ++ verdictBytes b.verdict ++ bytes2 b.assessed.toNat

/-- A CLAIM, header and body. -/
def encodeClaim (h : Header) (b : ClaimBody) : List Byte := encodeHeader 2 h ++ encodeClaimBody b

/-- The booking description that starts with its match id at place i and its class byte at place i + 3; `tail` is the place of its input
port, after which the number of drops and the drops follow. -/
def bookingAt (l : List Byte) (i tail : Nat) (cls : BookingClass) : Booking :=
  { matchId := fieldAt l i 3, rateClass := fieldAt l (i + 3) 1 / 32, cls := cls, isProtected := fieldAt l (i + 3) 1 / 4 % 2 == 1,
    dir := dirOf (fieldAt l (i + 3) 1), first := fieldAt l (i + 4) 1, count := fieldAt l (i + 5) 1, winStart := fieldAt l (i + 6) 4,
    winEnd := fieldAt l (i + 10) 4, input := fieldAt l tail 1, drops := dropsAt l (tail + 2) (fieldAt l (tail + 1) 1) }

/-- The class code of a class byte. -/
def classField (b : Nat) : Nat := b / 8 % 4

/-- A CLAIM read from its bytes; a mode, class or verdict that the layout does not give is no CLAIM (Table 11-6). -/
def decodeClaim (l : List Byte) : Option (Header × ClaimBody) :=
  match modeOf (fieldAt l 10 1), classOfCode (classField (fieldAt l 14 1)), verdictOf (fieldAt l 39 1) (fieldAt l 40 1) with
  | some mode, some cls, some verdict =>
    if fieldAt l 0 1 = 2 then
      some (decodeHeader l, { mode := mode, bk := bookingAt l 11 29 cls, verdict := verdict, assessed := BitVec.ofNat 16 (fieldAt l 41 2) })
    else none
  | _, _, _ => none

end Sys2Proof.Machine
end

