-- ==== Sys2Proof/Machine/Operands.lean ====
section
/-! DEFINITION. The operands of the commands: the parameters of each request (Table 11-8) with the malformed test of a Book (R57), and the
configuration image with its tests and clamps (R200, R201). -/

namespace Sys2Proof.Machine

/-! ### Request parameters -/

/-- A drop list read in strictly increasing distance from a station in a direction: each distance above the one before (R57). -/
def dropsRise (n : Nat) (d : Dir) (origin : Nat) : Nat → List Drop → Bool
  | _, [] => true
  | before, x :: xs => decide (before < dist n d origin x.station) && dropsRise n d origin (dist n d origin x.station) xs

/-- A drop list passes R57 at a station: one to four drops, each station below N and not this one, no station twice, distances strictly
increasing, output ports 0 to 7. -/
def dropsOk (n : Nat) (d : Dir) (origin : Nat) (drops : List Drop) : Bool :=
  decide (1 ≤ drops.length) && decide (drops.length ≤ 4) && drops.all (fun x => decide (x.station < n) && x.station != origin && decide (x.port < 8))
    && decide ((drops.map Drop.station).Nodup) && dropsRise n d origin 0 drops

/-- A booking description passes R57 at its origin; the class is read from its code before. -/
def bookingOk (n origin : Nat) (b : Booking) : Bool :=
  b.matchId != 0 && decide (b.rateClass < 8) && !(b.isProtected && b.cls == .extra) && laneGroupOk b.first b.count && decide (b.input < 8)
    && dropsOk n b.dir origin b.drops

/-- The booking of a Book request's 24 parameter bytes, absent when it is malformed (R57, Table 11-8). -/
def bookParams (n origin : Nat) (l : List Byte) : Option Booking :=
  match classOfCode (classField (fieldAt l 3 1)) with
  | none => none
  | some cls => if fieldAt l 15 1 ≤ 4 && bookingOk n origin (bookingAt l 0 14 cls) then some (bookingAt l 0 14 cls) else none

/-- The 24 parameter bytes that a Book request spells a booking with (Table 11-8). -/
def bookBytes (b : Booking) : List Byte :=
  bytes3 b.matchId ++ [classByte b, byteOf b.first, byteOf b.count] ++ bytes4 b.winStart ++ bytes4 b.winEnd
    ++ [byteOf b.input, byteOf b.drops.length] ++ dropBytes 4 b.drops

/-- The parameter byte counts that Table 11-8 gives each code (R194). -/
def lengthOk (code : Byte) (n : Nat) : Bool :=
  if code = codeBook then n == 24
  else if code = codeWithdraw then n == 3 || n == 7
  else if code = codeExtend then n == 7
  else if code = codeSetClock then n == 4
  else if code = codeForce || code = codeLockout || code = codeClearSwitch then n == 3
  else if code = codeReadEntry then n == 1 || n == 3
  else if code = codeReadMonitor || code = codeRestart then n == 0
  else if code = codeReadMatch || code = codeCloseMatch || code = codeTakeStatement then n == 3
  else if code = codeRemoteRead then n == 4
  else false

/-- The end that a Withdraw request gives, present when its parameters are 7 bytes (Table 11-8). -/
def withdrawEnd (l : List Byte) : Option Nat := if l.length = 7 then some (fieldAt l 3 4) else none

/-! ### The configuration image -/

/-- The 16-bit sum of bytes 0 to 71 plus 0x2416 (R201). -/
def imageSum (image : List Byte) : Nat := (((List.range 72).map (fun i => (byteAt image i).toNat)).sum + 0x2416) % 65536

/-- The tests of R201 in order: the cause of bypass, or absent when the load is good. -/
def loadTest (image : List Byte) : Option BypassCause :=
  if fieldAt image 72 2 ≠ imageSum image then some .sumMismatch
  else if fieldAt image 1 1 < 2 || 16 < fieldAt image 1 1 then some .ringSize
  else if fieldAt image 1 1 ≤ fieldAt image 0 1 then some .stationNumber
  else none

/-- The rounding mode of a code; any other code is used as Nearest (Table 11-4). -/
def roundingOf : Nat → Rounding
  | 0 => .down
  | 1 => .up
  | _ => .nearest

/-- The link rate of a code; any other code is used as 115,200 bit/s (R200, Table 11-4). -/
def linkRateOf : Nat → Nat
  | 0 => 115200
  | 1 => 230400
  | 2 => 460800
  | 3 => 921600
  | 4 => 1500000
  | 5 => 3000000
  | _ => 115200

/-- A value brought into a range. -/
def clamp (lo hi v : Nat) : Nat := min hi (max lo v)

/-- The tariff of rate class c in the image, as used (R200, Table 11-7). -/
def tariffAt (image : List Byte) (c : Nat) : Tariff :=
  let i := 8 + 8 * c
  { rate := fieldAt image i 2, surcharge := fieldAt image (i + 2) 2, fee := fieldAt image (i + 4) 2,
    minimum := clamp 0 100 (fieldAt image (i + 6) 1), rounding := roundingOf (fieldAt image (i + 7) 1) }

/-- A field is named when a value read differs from the value used. -/
def clampedIf (f : ClampField) (isClamped : Bool) : List ClampField := if isClamped then [f] else []

/-- The clamped fields of an image (R200, Table 11-4). -/
def clampedFields (image : List Byte) : List ClampField :=
  clampedIf .holdOff (decide (100 < fieldAt image 2 1))
    ++ clampedIf .restoreWait (fieldAt image 3 1 == 0 || decide (30 < fieldAt image 3 1))
    ++ clampedIf .threshold (fieldAt image 4 2 == 0 || decide (8000 < fieldAt image 4 2))
    ++ clampedIf .linkRate (decide (5 < fieldAt image 7 1))
    ++ (List.range 8).flatMap (fun c =>
      clampedIf (.minimum c) (decide (100 < fieldAt image (8 + 8 * c + 6) 1))
        ++ clampedIf (.rounding c) (decide (2 < fieldAt image (8 + 8 * c + 7) 1)))

/-- The configuration of a good load, as used (R200, Table 11-7). -/
def loadCfg (image : List Byte) : Cfg :=
  { station := fieldAt image 0 1, ringSize := fieldAt image 1 1, holdOff := clamp 0 100 (fieldAt image 2 1),
    restoreWait := clamp 1 30 (fieldAt image 3 1), threshold := clamp 1 8000 (fieldAt image 4 2), billMask := byteAt image 6,
    linkRate := linkRateOf (fieldAt image 7 1), tariffs := (List.range 8).map (tariffAt image), clamped := clampedFields image }

end Sys2Proof.Machine
end

