-- ==== Sys2Proof/Machine/SitePort.lean ====
section
/-! DEFINITION. The site port: taking a request, short replies, the receiver's answers (R192 to R194), the transmitter (R198), and the views
that ReadEntry and ReadMonitor copy (R52, R117, R135, R157, R176, R195). -/

namespace Sys2Proof.Machine

/-! ### Answers -/

/-- What handling a request comes to: the state after it, the status and the data of its reply (section 11.2). -/
structure Answer where
  state  : State
  status : Status
  data   : ReplyData
  deriving DecidableEq, Repr

/-- An answer that changes no state and carries no data. -/
def turnDown (s : State) (status : Status) : Answer := { state := s, status := status, data := .none }

/-- An answer with a status and no data. -/
def answer (s : State) (status : Status) : Answer := { state := s, status := status, data := .none }

/-- A Busy or BadFrame answer joins the short-reply list; one that finds it full is discarded and counted (R193). -/
def joinShort (s : State) (r : Reply) : State :=
  if s.site.shorts.length < 4 then s.withSite { s.site with shorts := s.site.shorts ++ [r] }
  else s.withSite { s.site with discards := raiseSat 255 s.site.discards }

/-- The request is not taken: the reply place is full, or a Restart has been taken and its warm reset is not complete (R193). -/
def isOccupied (s : State) : Bool := s.site.reply.isSome || s.site.restart != .none

/-- A request completes at the receiver: answered Busy through the short-reply list, or handled with its reply written into the reply place
in the same step (R193). The receiver is off until a configuration load has ended (R192, R199). -/
def takeRequest (s : State) (tag code : Byte) (handle : State → Answer) : State :=
  if s.site.rx = .off then s
  else if isOccupied s then joinShort s { tag := tag, code := code, status := .busy, data := .none }
  else
    let a := handle s
    a.state.withSite { a.state.site with reply := some { tag := tag, code := code, status := a.status, data := a.data } }

/-- The station is in bypass (R201). -/
def Phase.isBypass : Phase → Bool
  | .bypass _ => true
  | .inReset => false
  | .loading => false
  | .normal => false

/-- The checks that come before a request's own: the length of its parameters, then bypass (R194). -/
def checked (code : Byte) (params : List Byte) (handle : State → Answer) (s : State) : Answer :=
  if !lengthOk code params.length then turnDown s .badRequest
  else if s.phase.isBypass && code != codeReadMonitor then turnDown s .notConfigured
  else handle s

/-- A request of Table 11-2 as its command takes it (R193, R194). -/
def siteRequest (s : State) (tag code : Byte) (params : List Byte) (handle : State → Answer) : State :=
  takeRequest s tag code (checked code params handle)

/-- A BadFrame answer: host tag 0, the receiver Hunting again (R192); the request code it carries is a free value (log 5). -/
def answerBadFrame (s : State) : State :=
  let t := joinShort s { tag := 0, code := Config.badFrameCode s.freeCount, status := .badFrame, data := .none }
  (t.withFreeCount (t.freeCount + 1)).withSite { t.site with rx := .hunting }

/-! ### The transmitter -/

/-- A Restart whose Done reply leaves has been answered; the warm reset may follow (R193, R202). -/
def RestartStage.afterReply : RestartStage → RestartStage
  | .none => .none
  | .taken => .sent
  | .sent => .sent

/-- The transmitter takes and sends its next frame: the reply, else the oldest short reply, else the notice at the head of the queue; it sends
nothing until a configuration load has ended (R198, R199). -/
def sendNext (s : State) : State :=
  if s.site.rx = .off then s
  else match s.site.reply, s.site.shorts, s.site.notices with
    | some r, _, _ =>
      s.withSite { s.site with reply := none, restart := s.site.restart.afterReply, lastFrame := some (.reply r) }
    | none, r :: rest, _ => s.withSite { s.site with shorts := rest, lastFrame := some (.reply r) }
    | none, [], n :: rest => s.withSite { s.site with notices := rest, lastFrame := some (.notice n) }
    | none, [], [] => s

/-! ### Views -/

/-- The 48 cells or lanes in order with their direction or port. -/
def allCells : List (Dir × Nat) := (List.range Config.laneCount).map (fun l => (Dir.east, l)) ++ (List.range Config.laneCount).map (fun l => (Dir.west, l))

/-- The cells whose layers a key owns, with the layer (R117). -/
def cellsOf (s : State) (k : Key) : List (Dir × Nat × PlaceKind) :=
  allCells.flatMap (fun c =>
    (if ownedBy (s.cell c.1 c.2).working k then [(c.1, c.2, PlaceKind.working)] else [])
      ++ (if ownedBy (s.cell c.1 c.2).protection k then [(c.1, c.2, PlaceKind.protection)] else []))

/-- The output that a key owns (R117). -/
def outputOf (s : State) (k : Key) : Option Nat := (List.range 8).find? (fun p => outputOwner (s.output p) == some k)

/-- The places of a key with their records (R135). -/
def placesOf (s : State) (k : Key) : List (Dir × Nat × PlaceKind × Place) :=
  allCells.flatMap (fun c =>
    (ownPlace (s.mon c.1 c.2).working k).toList.map (fun x => (c.1, c.2, PlaceKind.working, x))
      ++ (ownPlace (s.mon c.1 c.2).protection k).toList.map (fun x => (c.1, c.2, PlaceKind.protection, x)))

/-- The base fields of an entry, the input port at the origin alone (R35, R52). -/
def viewBase (e : Entry) : BaseView :=
  { key := e.key, matchId := e.bk.matchId, rateClass := e.bk.rateClass, cls := e.bk.cls, isProtected := e.bk.isProtected, dir := e.bk.dir,
    first := e.bk.first, count := e.bk.count, winStart := e.bk.winStart, winEnd := e.bk.winEnd, input := entryInput e, drops := e.bk.drops,
    roles := e.roles, state := e.state, lifetime := e.lifetime, installed := e.installed }

/-- The optional parts of an entry and the records kept beside it (R52, R157, R176). The path records, with the open selected-path condition,
are shown in every state of the entry (DESIGN CHOICE, log 41: R135 names them for an Active entry). -/
def viewParts (e : Entry) : PartsView :=
  { meter := e.meter, prot := e.prot, request := e.request, bridgeFlag := e.bridgeFlag, bridge := e.bridge, ext := e.ext,
    preempted := e.preempted, preExtEnd := e.preExtEnd, marker := e.marker, paths := e.paths }

/-- The view of the entry of an index (R52, R117, R135, R157, R176). -/
def viewEntry (s : State) (i : Nat) (e : Entry) : EntryView :=
  let isActive := e.state == .active
  { index := i, base := viewBase e, parts := viewParts e,
    cells := if isActive then cellsOf s e.key else [],
    output := if isActive then outputOf s e.key else none,
    watched := if isActive then placesOf s e.key else [] }

/-- A span monitor as ReadMonitor shows it: the ms that confirmation has run, when it is running (R135). -/
def viewSpan (s : State) (side : Dir) : SpanView :=
  { up := (s.span side).up,
    running := (s.span side).confirm.map (fun d => Config.confirmMs - (d - s.nowMs)),
    wrapped := wrapped s side }

/-- The recall controller as ReadMonitor shows it (R85). -/
def viewRecall (r : Recall) : RecallView :=
  { state := r.state, kind := r.kind, sends := r.sends, returned := r.returned, pendingSet := r.pendingSet, walk := r.walk }

/-- The station view (R195). A cell's transmitted source is the one that its layers and its span monitor give at the moment of the request, with
the framing of the last lane frame period (DESIGN CHOICE, log 55: R104 lets a change take effect from the next period on). -/
def viewStation (s : State) : StationView :=
  { phase := s.phase, cfg := s.cfg, synced := s.clock.synced, seconds := s.clock.seconds, fraction := s.clock.fraction,
    recov := viewRecall s.recov, cells := allCells.map (fun c => (s.cell c.1 c.2, txSource s c.1 c.2)),
    outputs := s.switch.outputs, lanes := s.mons.lanes, inputs := s.mons.inputs, spanEast := viewSpan s .east,
    spanWest := viewSpan s .west, bridged := s.bridged, closeQueue := s.bill.closeQueue, charge := s.bill.charge,
    qEast := s.lane.qEast.length, qWest := s.lane.qWest.length, heldOver := s.lane.heldOver.length,
    notices := s.site.notices.length, discards := s.site.discards }

end Sys2Proof.Machine
end

