-- ==== Sys2Proof/Machine/Requests.lean ====
section
/-! DEFINITION. The site requests: BOOK to RESTART, and the frames that are no request (R192). Each has its own handler, in the order of
checks that its rule gives. -/

namespace Sys2Proof.Machine

/-! ### BOOK (R57 to R59) -/

/-- The window of a Book: start 10 to 1,209,600 seconds ahead, length 60 to 28,800 (R58 check 3). -/
def windowOk (now : Nat) (b : Booking) : Bool :=
  decide (now + 10 ≤ b.winStart) && decide (b.winStart ≤ now + 1209600) && decide (b.winStart + 60 ≤ b.winEnd)
    && decide (b.winEnd ≤ b.winStart + 28800)

/-- A claim slot at its filling: Awaiting return with the circuit deadline (R59, R77). -/
def newSlot (s : State) (mode : Mode) (k firstKey : Key) (b : Booking) (oldEnd attempt : Nat) : ClaimSlot :=
  { state := .awaiting (after s Config.circuitMs), mode := mode, key := k, firstKey := firstKey, req := b, oldEnd := oldEnd, attempt := attempt }

/-- The key that the next booking of this station takes (R54). -/
def nextKey (s : State) : Key := { origin := s.self, seq := takenSeq s }

/-- A booking is taken: sequence, Tentative entry without lifetime, claim slot, CLAIM (R59 steps 1 to 4). -/
def takeBooking (s : State) (n : Nat) (b : Booking) : State :=
  let k := nextKey s
  let s1 := allocate (takeSeq s) k b .tentative none false
  let s2 := setSlot s1 n (some (newSlot s .new k k b b.winEnd 1))
  join s2 b.dir k.seq (claimBody s .new b)

/-- The checks of R58 on a booking that passed R57, and the taking of R59. -/
def handleBooking (s : State) (b : Booking) : Answer :=
  if !s.clock.synced then turnDown s .notSynced
  else if s.recov.state = .recovering then turnDown s .recovering
  else if !windowOk s.now b then turnDown s (.refused .badWindow)
  else match firstFree s.claims.slots with
    | none => turnDown s .busy
    | some n =>
      match testNew s none (newCandidate s (nextKey s) b) with
      | .fails r _ => turnDown s (.refused r)
      | .pass =>
        if canJoinSite s b.dir then { state := takeBooking s n b, status := .accepted, data := .key (nextKey s) }
        else turnDown s .busy

/-- A Book request (R57, R58). -/
def handleBook (params : List Byte) (s : State) : Answer :=
  match bookParams s.ring s.self params with
  | none => turnDown s .badRequest
  | some b => handleBooking s b

/-- BOOK. -/
def execBook (tag : Byte) (params : List Byte) (s : State) : Host.Outcome State Fault Refusal :=
  .next (siteRequest s tag codeBook params (handleBook params))

/-! ### WITHDRAW (R79) -/

/-- A Withdraw whose entry is found, with the end given or absent (R79). -/
def withdrawEntry (s : State) (i : Nat) (e : Entry) (given : Option Nat) : Answer :=
  if e.key.origin != s.self || !isCommitted e || slotHolds s e.key || e.marker.isSome then turnDown s .wrongState
  else if (match given with
    | some v => decide (e.bk.winEnd ≤ v)
    | none => false) then turnDown s (.refused .badWindow)
  else if canJoinSite s e.bk.dir then
    let v := given.getD s.now
    answer (applyWithdraw (join s e.bk.dir e.key.seq (.withdraw v)) i v) .done
  else turnDown s .busy

/-- A Withdraw request (R79). -/
def handleWithdraw (params : List Byte) (s : State) : Answer :=
  match findEntry s (keyAt params 0) with
  | none => turnDown s .notFound
  | some (i, e) => withdrawEntry s i e (withdrawEnd params)

/-- WITHDRAW. -/
def execWithdraw (tag : Byte) (params : List Byte) (s : State) : Host.Outcome State Fault Refusal :=
  .next (siteRequest s tag codeWithdraw params (handleWithdraw params))

/-! ### EXTEND (R77) -/

/-- An extension is taken: extension part without lifetime, claim slot, CLAIM in mode Extend (R77). -/
def takeExtension (s : State) (n i : Nat) (e : Entry) (newEnd : Nat) : State :=
  let b := { e.bk with winEnd := newEnd }
  let s1 := setEntry s i { e with ext := some { oldEnd := e.bk.winEnd, newEnd := newEnd, lifetime := none } }
  let s2 := setSlot s1 n (some (newSlot s .extend e.key e.key b e.bk.winEnd 1))
  join s2 e.bk.dir e.key.seq (claimBody s .extend b)

/-- An Extend whose entry is found (R77). -/
def extendEntry (s : State) (i : Nat) (e : Entry) (newEnd : Nat) : Answer :=
  if e.key.origin != s.self || !isCommitted e then turnDown s .wrongState
  else if s.recov.state = .recovering then turnDown s .recovering
  else if slotHolds s e.key || e.marker.isSome then turnDown s .busy
  else if newEnd ≤ e.bk.winEnd || e.bk.winStart + 28800 < newEnd then turnDown s (.refused .badWindow)
  else match firstFree s.claims.slots with
    | none => turnDown s .busy
    | some n =>
      match testExtend s e.key (extendCandidate s e newEnd) with
      | .fails r _ => turnDown s (.refused r)
      | .pass =>
        if canJoinSite s e.bk.dir then { state := takeExtension s n i e newEnd, status := .accepted, data := .key e.key }
        else turnDown s .busy

/-- An Extend request (R77). -/
def handleExtend (params : List Byte) (s : State) : Answer :=
  match findEntry s (keyAt params 0) with
  | none => turnDown s .notFound
  | some (i, e) => extendEntry s i e (fieldAt params 3 4)

/-- EXTEND. -/
def execExtend (tag : Byte) (params : List Byte) (s : State) : Host.Outcome State Fault Refusal :=
  .next (siteRequest s tag codeExtend params (handleExtend params))

/-! ### SET_CLOCK (R31) -/

/-- A SetClock request (R31). -/
def handleSetClock (params : List Byte) (s : State) : Answer :=
  if s.clock.synced then turnDown s .wrongState else answer (becomeSynced s (fieldAt params 0 4) .setClock) .done

/-- SET_CLOCK. -/
def execSetClock (tag : Byte) (params : List Byte) (s : State) : Host.Outcome State Fault Refusal :=
  .next (siteRequest s tag codeSetClock params (handleSetClock params))

/-! ### FORCE, LOCKOUT, CLEAR_SWITCH (R145 to R148) -/

/-- Finds the Active drop with a protection part that a manual request names (R145). -/
def manualRequest (params : List Byte) (s : State) (act : Nat → Entry → ProtPart → Answer) : Answer :=
  match findEntry s (keyAt params 0) with
  | none => turnDown s .notFound
  | some (i, e) =>
    match e.state, e.prot with
    | .active, some p => act i e p
    | _, _ => turnDown s .wrongState

/-- Force of a drop (R146). -/
def forceDrop (s : State) (i : Nat) (p : ProtPart) : Answer :=
  match p.state with
  | .forced => answer s .done
  | .lockout => turnDown s .lockedOut
  | _ => answer (attemptMarked s (changeState s i (ProtPart.enter .forced none none 0) .force) i) .done

/-- Lockout of a drop (R147). -/
def lockoutDrop (s : State) (i : Nat) (p : ProtPart) : Answer :=
  match p.state with
  | .lockout => answer s .done
  | _ => answer (attemptMarked s (changeState s i (ProtPart.enter .lockout none none 0) .lockout) i) .done

/-- The class of a drop's most recent closed working record; settling when no boundary has passed since activation (R148). -/
def lastWorkClass (e : Entry) : PathClass :=
  match e.paths.bind Paths.working with
  | some r => classOf r
  | none => .settling

/-- ClearSwitch of a drop (Table of R148). -/
def clearDrop (s : State) (i : Nat) (e : Entry) (p : ProtPart) : Answer :=
  match p.state, lastWorkClass e with
  | .forced, .failed => answer (attemptMarked s (changeState s i (ProtPart.enter .protecting none none p.resends) .clearSwitch) i) .done
  | .forced, _ => answer (attemptMarked s (enterRestoreWait s i p.resends .clearSwitch) i) .done
  | .lockout, .failed => answer (attemptMarked s (enterHoldOff s i p.resends .clearSwitch) i) .done
  | .lockout, _ => answer (attemptMarked s (changeState s i (ProtPart.enter .working none none p.resends) .clearSwitch) i) .done
  | _, _ => turnDown s .wrongState

/-- FORCE. -/
def execForce (tag : Byte) (params : List Byte) (s : State) : Host.Outcome State Fault Refusal :=
  .next (siteRequest s tag codeForce params (fun t => manualRequest params t (fun i _ p => forceDrop t i p)))

/-- LOCKOUT. -/
def execLockout (tag : Byte) (params : List Byte) (s : State) : Host.Outcome State Fault Refusal :=
  .next (siteRequest s tag codeLockout params (fun t => manualRequest params t (fun i _ p => lockoutDrop t i p)))

/-- CLEAR_SWITCH. -/
def execClearSwitch (tag : Byte) (params : List Byte) (s : State) : Host.Outcome State Fault Refusal :=
  .next (siteRequest s tag codeClearSwitch params (fun t => manualRequest params t (fun i e p => clearDrop t i e p)))

/-! ### READ_ENTRY, READ_MONITOR (R52, R195) -/

/-- ReadEntry by index (R52). -/
def readIndex (s : State) (i : Nat) : Answer :=
  if Config.entryCount ≤ i then turnDown s .badRequest
  else match s.entry i with
    | none => { state := s, status := .done, data := .freeSlot }
    | some e => { state := s, status := .done, data := .entry (viewEntry s i e) }

/-- ReadEntry by key (R52). -/
def readKey (s : State) (k : Key) : Answer :=
  match findEntry s k with
  | none => turnDown s .notFound
  | some (i, e) => { state := s, status := .done, data := .entry (viewEntry s i e) }

/-- A ReadEntry request: one parameter byte is an index, three are a key (R52, Table 11-8). -/
def handleReadEntry (params : List Byte) (s : State) : Answer :=
  if params.length = 1 then readIndex s (fieldAt params 0 1) else readKey s (keyAt params 0)

/-- READ_ENTRY. -/
def execReadEntry (tag : Byte) (params : List Byte) (s : State) : Host.Outcome State Fault Refusal :=
  .next (siteRequest s tag codeReadEntry params (handleReadEntry params))

/-- READ_MONITOR. -/
def execReadMonitor (tag : Byte) (params : List Byte) (s : State) : Host.Outcome State Fault Refusal :=
  .next (siteRequest s tag codeReadMonitor params (fun t => { state := t, status := .done, data := .station (viewStation t) }))

/-! ### READ_MATCH, CLOSE_MATCH, TAKE_STATEMENT (R184 to R187) -/

/-- A request on the record of a match id: BadRequest for id 0, NotFound where no record holds it (R184). -/
def matchRequest (params : List Byte) (s : State) (act : Nat → MatchRecord → Answer) : Answer :=
  if fieldAt params 0 3 = 0 then turnDown s .badRequest
  else match findRecord s (fieldAt params 0 3) with
    | none => turnDown s .notFound
    | some n =>
      match s.record n with
      | none => turnDown s .notFound
      | some r => act n r

/-- ReadMatch of a record (R186). -/
def readRecord (s : State) (n : Nat) (r : MatchRecord) : Answer :=
  { state := s, status := .done, data := .statement { number := n, record := r } }

/-- CloseMatch of a record; a change of state starts a placement scan (R178, R185). -/
def closeMatchRecord (s : State) (n : Nat) (r : MatchRecord) : Answer :=
  match r.state with
  | .opened =>
    if r.pending = 0 then
      { state := placementScan (closeRecord s n r), status := .done, data := .matchState .closed 0 }
    else
      { state := placementScan (setRecord s n (some { r with state := .closing })), status := .done, data := .matchState .closing r.pending }
  | .closing => { state := s, status := .wrongState, data := .matchState .closing r.pending }
  | .closed => { state := s, status := .wrongState, data := .matchState .closed r.pending }

/-- TakeStatement of a record: the statement, the record freed, a placement scan (R187). -/
def takeRecord (s : State) (n : Nat) (r : MatchRecord) : Answer :=
  if r.state = .closed then
    { state := placementScan (setRecord s n none), status := .done, data := .statement { number := n, record := r } }
  else turnDown s .wrongState

/-- READ_MATCH. -/
def execReadMatch (tag : Byte) (params : List Byte) (s : State) : Host.Outcome State Fault Refusal :=
  .next (siteRequest s tag codeReadMatch params (fun t => matchRequest params t (readRecord t)))

/-- CLOSE_MATCH. -/
def execCloseMatch (tag : Byte) (params : List Byte) (s : State) : Host.Outcome State Fault Refusal :=
  .next (siteRequest s tag codeCloseMatch params (fun t => matchRequest params t (closeMatchRecord t)))

/-- TAKE_STATEMENT. -/
def execTakeStatement (tag : Byte) (params : List Byte) (s : State) : Host.Outcome State Fault Refusal :=
  .next (siteRequest s tag codeTakeStatement params (fun t => matchRequest params t (takeRecord t)))

/-! ### REMOTE_READ (R189) -/

/-- A remote query is taken: the QUERY joins the east queue with the message counter's value, the pending query is written (R189). -/
def takeQuery (s : State) (target matchId : Nat) : State :=
  let t := joinCounted s (.query target matchId)
  t.withBill { t.bill with query := some { target := target, matchId := matchId, seq := s.lane.counter, deadline := after s Config.circuitMs } }

/-- A RemoteRead request (R189). The Accepted reply carries the QUERY's sequence as the query it names (DESIGN CHOICE, log 39). -/
def handleRemoteRead (params : List Byte) (s : State) : Answer :=
  let target := fieldAt params 0 1
  let matchId := fieldAt params 1 3
  if s.ring ≤ target || target = s.self || matchId = 0 then turnDown s .badRequest
  else if !s.clock.synced then turnDown s .notSynced
  else if s.bill.query.isSome then turnDown s .queryPending
  else if canJoinSite s .east then { state := takeQuery s target matchId, status := .accepted, data := .query s.lane.counter }
  else turnDown s .busy

/-- REMOTE_READ. -/
def execRemoteRead (tag : Byte) (params : List Byte) (s : State) : Host.Outcome State Fault Refusal :=
  .next (siteRequest s tag codeRemoteRead params (handleRemoteRead params))

/-! ### RESTART (R193, R202) -/

/-- A Restart request: Done, the warm reset to follow when the reply has been sent (R193, R202). -/
def handleRestart (s : State) : Answer := answer (s.withSite { s.site with restart := .taken }) .done

/-- RESTART. -/
def execRestart (tag : Byte) (params : List Byte) (s : State) : Host.Outcome State Fault Refusal :=
  .next (siteRequest s tag codeRestart params handleRestart)

/-! ### Frames that are no request (R192) -/

/-- UNKNOWN_REQUEST: BadRequest with the frame's host tag; a frame that is a known request is not this command's and changes nothing (R192).
A full reply place gives Busy, as for any request (R193). -/
def execUnknownRequest (bodyType tag code : Byte) (s : State) : Host.Outcome State Fault Refusal :=
  .next (if isRequest bodyType code then s else takeRequest s tag code (fun t => turnDown t .badRequest))

/-- BAD_FRAME: bytes that the receiver finds to be a frame with a bad length or a bad check (R192). -/
def execBadFrame (bytes : List Byte) (s : State) : Host.Outcome State Fault Refusal :=
  .next (if s.site.rx ≠ .off ∧ receive bytes = .bad then answerBadFrame s else s)

/-- INTER_BYTE_TIMEOUT: more than 10 ms after bytes that leave the receiver within a frame (R192). -/
def execInterByteTimeout (bytes : List Byte) (s : State) : Host.Outcome State Fault Refusal :=
  .next (if s.site.rx ≠ .off ∧ receive bytes = .receiving then answerBadFrame s else s)

/-- FRAME_SENT (R198). -/
def execFrameSent (s : State) : Host.Outcome State Fault Refusal := .next (sendNext s)

end Sys2Proof.Machine
end

