-- ==== Sys2Proof/Machine/Resets.lean ====
section
/-! DEFINITION. Resets and start-up: WARM_RESET (R202), COLD_RESET and RESET_PIN_RELEASE (R199), CONFIGURATION_LOAD (R200, R201). -/

namespace Sys2Proof.Machine

/-! ### WARM_RESET -/

/-- The transmit queues and the held-over list emptied (R10, R12, R202). -/
def clearQueues (s : State) : State := s.withLane { s.lane with qEast := [], qWest := [], heldOver := [] }

/-- All claim slots cleared, without a notice (R84). -/
def clearSlots (s : State) : State := s.withClaims { s.claims with slots := s.claims.slots.map (fun _ => none) }

/-- A Tentative entry is freed, a pending extension part removed, without a notice (R50). -/
def clearTentative (s : State) (i : Nat) : State :=
  match s.entry i with
  | none => s
  | some e => if e.state = .tentative then freeEntry s i else setEntry s i { e with ext := none }

/-- The pending query, the notice queue, the close queue and any charge in flight cleared (R169, R189, R196, R202). -/
def clearBilling (s : State) : State :=
  let t := s.withBill { s.bill with query := none, closeQueue := [], charge := none }
  t.withSite { t.site with notices := [] }

/-- The entry of an index is in Closing. -/
def isClosing (s : State) (i : Nat) : Bool :=
  match s.entry i with
  | some e => e.state == .closing
  | none => false

/-- The close queue rebuilt from the Closing entries in index order (R166). -/
def rebuildCloseQueue (s : State) : State := s.withBill { s.bill with closeQueue := indexes.filter (isClosing s) }

/-- A warm reset marks a drop's request: its wanted or its announced value is On (R143). -/
def remarksRequest (e : Entry) : Bool := e.request.any (fun r => wantedOf e || r.announced)

/-- A warm reset marks an origin's bridge set: the entry is Active, and the set is not empty or its announced value is On (R149). -/
def remarksBridge (e : Entry) : Bool := e.bridge.any (fun b => e.state == .active && (b.drops != 0 || b.announced))

/-- An entry with the markers that a warm reset sets (R143, R149). A marker that already stands and is not set here stays (DESIGN CHOICE,
log 37). -/
def remark (e : Entry) : Entry :=
  { e with
    request := e.request.map (fun r => { r with toSend := r.toSend || remarksRequest e }),
    bridge := e.bridge.map (fun b => { b with toSend := b.toSend || remarksBridge e }) }

/-- One entry's markers set; those set here are attempted, for this is their moment of marking (R143, R149), the
SWITCHREQ before the BRIDGE (DESIGN CHOICE, log 46). -/
def remarkOne (s : State) (i : Nat) : State :=
  match s.entry i with
  | none => s
  | some e =>
    let s1 := setEntry s i (remark e)
    let s2 := if remarksRequest e then attemptSwitchreq s1 i else s1
    if remarksBridge e then attemptBridge s2 i else s2

/-- The recall controller after a warm reset: the restart kind stays Cold in a cold recovery that has not ended; the walk stops; recovery begins
again if the clock is Synced (R85, R86). The own sequences installed before it are forgotten (DESIGN CHOICE, log 48). -/
def restartRecall (s : State) : State :=
  let kind := if s.recov.state ≠ .normal ∧ s.recov.kind = .cold then RestartKind.cold else RestartKind.warm
  let t := s.withRecov { Recall.reset with kind := kind, pendingSet := s.recov.pendingSet }
  if s.clock.synced then enterRecovering t else t

/-- The clearing of a warm reset (R50, R84, R202). -/
def warmClear (s : State) : State := clearBilling (forEach indexes (clearSlots (clearQueues s)) clearTentative)

/-- What starts when the clearing is complete: close queue, markers in index order, MARK timer, recall (R202). So the SWITCHREQs and BRIDGEs
join the emptied queues before the RECALL (DESIGN CHOICE, log 46). -/
def warmStart (s : State) : State := restartRecall (startMark (forEach indexes (rebuildCloseQueue s) remarkOne))

/-- WARM_RESET: carried out once the Done reply of a Restart has been sent (R198, R202). -/
def execWarmReset (s : State) : Host.Outcome State Fault Refusal :=
  .next (if s.site.restart = .sent then
      let t := warmStart (warmClear s)
      t.withSite { t.site with restart := .none }
    else s)

/-! ### COLD_RESET -/

/-- COLD_RESET: every block at its cold value, the reset pin held (R199). The inputs stay as they are, and so does what belongs to the model
alone: the queue of commands, the count of local milliseconds, and the count of free values taken (log 10). -/
def execColdReset (s : State) : Host.Outcome State Fault Refusal :=
  .next ((((State.reset.withPins s.pins).withNowMs s.nowMs).withFreeCount s.freeCount).withPending s.pending)

/-! ### RESET_PIN_RELEASE -/

/-- RESET_PIN_RELEASE: the configuration loader starts (R199). -/
def execResetPinRelease (s : State) : Host.Outcome State Fault Refusal :=
  .next (if s.phase = .inReset then s.withPhase .loading else s)

/-! ### CONFIGURATION_LOAD -/

/-- A span monitor begins to follow its inputs: with light and framing its confirmation starts (R134). -/
def followSpan (s : State) (light framing : Bool) : SpanMon :=
  { up := false, confirm := if light && framing then some (after s Config.confirmMs) else none }

/-- An input monitor begins to follow its input, with the count of changes 0 (R129). -/
def followInput (isPresent : Bool) : InputMon := { InputMon.reset with isPresent := isPresent }

/-- The monitors begin to follow their inputs when the load ends, good or bad (R129, R134). -/
def followInputs (s : State) : State :=
  s.withMons { s.mons with
    spanEast := followSpan s s.pins.lightEast s.pins.framingEast, spanWest := followSpan s s.pins.lightWest s.pins.framingWest,
    inputs := s.pins.inputs.map followInput }

/-- The receiver starts in Hunting at the end of the load, good or bad (R192). -/
def startReceiver (s : State) : State := s.withSite { s.site with rx := .hunting }

/-- Normal running begins: both outputs carry slots that the station generates, empty, with the indication of each side's span monitor. Both
sides are wrapped then, so no arriving stream continues on an output before a monitor is Up (R5, R18, R20). -/
def startOutputs (s : State) : State := emit (emit s .east none) .west none

/-- The load ends: normal running with the configuration as used, or bypass with its cause and the link at 115,200 bit/s, the slots passing as
before (R22, R200, R201). -/
def endLoad (s : State) (image : List Byte) : State :=
  let t := startReceiver (followInputs s)
  match loadTest image with
  | none => startOutputs ((t.withPhase .normal).withCfg (loadCfg image))
  | some cause => t.withPhase (.bypass cause)

/-- CONFIGURATION_LOAD: the end of the load with the image read (R199 to R201). The load is never repeated before the next cold reset. -/
def execConfigurationLoad (image : List Byte) (s : State) : Host.Outcome State Fault Refusal :=
  .next (if s.phase = .loading then endLoad s image else s)

end Sys2Proof.Machine
end

