-- ==== Sys2Proof/Machine/SlotArrivals.lean ====
section
/-! DEFINITION. The slot arrivals: one meaning per row of the table, each the arrival of a slot under R5 to R22. The header processor decides
what becomes of the slot, whatever row names it. -/

namespace Sys2Proof.Machine

/-- BYPASS_SLOT_FORWARD: a slot, full or empty, arrives (R22). -/
def execBypassSlotForward (port : Dir) (slot : Slot) (s : State) : Host.Outcome State Fault Refusal :=
  .next (match slot.msg with
    | some m => arriveFull s port slot.farDown m
    | none => arriveEmpty s port slot.farDown)

/-- SLOT_DROPPED_ON_WRAP: a full slot arrives; on a wrapped side it is dropped (R18). -/
def execSlotDroppedOnWrap (port : Dir) (farDown : Bool) (m : Msg) (s : State) : Host.Outcome State Fault Refusal :=
  .next (arriveFull s port farDown m)

/-- EMPTY_SLOT_ARRIVAL (R5, R13, R20). -/
def execEmptySlotArrival (port : Dir) (farDown : Bool) (s : State) : Host.Outcome State Fault Refusal :=
  .next (arriveEmpty s port farDown)

/-- MARK_RECEIVED (R30). -/
def execMarkReceived (port : Dir) (farDown : Bool) (h : Header) (s : State) : Host.Outcome State Fault Refusal :=
  .next (arriveFull s port farDown { hdr := h, body := .mark })

/-- UNKNOWN_KIND_MESSAGE (R203). -/
def execUnknownKindMessage (port : Dir) (farDown : Bool) (h : Header) (kind : Byte) (bytes : List Byte) (s : State) :
    Host.Outcome State Fault Refusal :=
  .next (arriveFull s port farDown { hdr := h, body := .unknown kind bytes })

/-- CLAIM_RECEIVED (R62 to R64). -/
def execClaimReceived (port : Dir) (farDown : Bool) (h : Header) (b : ClaimBody) (s : State) : Host.Outcome State Fault Refusal :=
  .next (arriveFull s port farDown { hdr := h, body := .claim b })

/-- CLAIM_RETURNED (R66 to R69). -/
def execClaimReturned (port : Dir) (farDown : Bool) (h : Header) (b : ClaimBody) (s : State) : Host.Outcome State Fault Refusal :=
  .next (arriveFull s port farDown { hdr := h, body := .claim b })

/-- CONFIRM_RECEIVED (R73, R74). -/
def execConfirmReceived (port : Dir) (farDown : Bool) (h : Header) (mode : Mode) (s : State) : Host.Outcome State Fault Refusal :=
  .next (arriveFull s port farDown { hdr := h, body := .confirm mode })

/-- ABANDON_RECEIVED (R75). -/
def execAbandonReceived (port : Dir) (farDown : Bool) (h : Header) (mode : Mode) (s : State) : Host.Outcome State Fault Refusal :=
  .next (arriveFull s port farDown { hdr := h, body := .abandon mode })

/-- WITHDRAW_RECEIVED (R80). -/
def execWithdrawReceived (port : Dir) (farDown : Bool) (h : Header) (winEnd : Nat) (s : State) : Host.Outcome State Fault Refusal :=
  .next (arriveFull s port farDown { hdr := h, body := .withdraw winEnd })

/-- HOLDLOST_RECEIVED (R76). -/
def execHoldlostReceived (port : Dir) (farDown : Bool) (h : Header) (key : Key) (mode : Mode) (station : Nat) (s : State) :
    Host.Outcome State Fault Refusal :=
  .next (arriveFull s port farDown { hdr := h, body := .holdlost key mode station })

/-- SWITCHREQ_RECEIVED (R144). -/
def execSwitchreqReceived (port : Dir) (farDown : Bool) (h : Header) (key : Key) (station : Nat) (on : Bool) (s : State) :
    Host.Outcome State Fault Refusal :=
  .next (arriveFull s port farDown { hdr := h, body := .switchreq key station on })

/-- BRIDGE_ON_RECEIVED (R151, R153). -/
def execBridgeOnReceived (port : Dir) (farDown : Bool) (h : Header) (key : Key) (drops : StationSet) (s : State) :
    Host.Outcome State Fault Refusal :=
  .next (arriveFull s port farDown { hdr := h, body := .bridge key true drops })

/-- BRIDGE_OFF_RECEIVED (R152, R153). -/
def execBridgeOffReceived (port : Dir) (farDown : Bool) (h : Header) (key : Key) (s : State) : Host.Outcome State Fault Refusal :=
  .next (arriveFull s port farDown { hdr := h, body := .bridge key false 0 })

/-- SPANSTATE_RECEIVED (R133). -/
def execSpanstateReceived (port : Dir) (farDown : Bool) (h : Header) (side : Dir) (up : Bool) (s : State) :
    Host.Outcome State Fault Refusal :=
  .next (arriveFull s port farDown { hdr := h, body := .spanstate side up })

/-- QUERY_RECEIVED (R190). -/
def execQueryReceived (port : Dir) (farDown : Bool) (h : Header) (target matchId : Nat) (s : State) : Host.Outcome State Fault Refusal :=
  .next (arriveFull s port farDown { hdr := h, body := .query target matchId })

/-- ANSWER_RECEIVED (R191). -/
def execAnswerReceived (port : Dir) (farDown : Bool) (h : Header) (querier seq matchId : Nat) (copy : Option Statement) (s : State) :
    Host.Outcome State Fault Refusal :=
  .next (arriveFull s port farDown { hdr := h, body := .answer querier seq matchId copy })

/-- RECALL_RECEIVED (R90). -/
def execRecallReceived (port : Dir) (farDown : Bool) (h : Header) (s : State) : Host.Outcome State Fault Refusal :=
  .next (arriveFull s port farDown { hdr := h, body := .recallReq })

/-- RECALL_RETURNED (R87). -/
def execRecallReturned (port : Dir) (farDown : Bool) (h : Header) (s : State) : Host.Outcome State Fault Refusal :=
  .next (arriveFull s port farDown { hdr := h, body := .recallReq })

/-- REANNOUNCE_RECEIVED (R94 to R96). -/
def execReannounceReceived (port : Dir) (farDown : Bool) (h : Header) (r : Reannounce) (s : State) : Host.Outcome State Fault Refusal :=
  .next (arriveFull s port farDown { hdr := h, body := .reannounce r })

end Sys2Proof.Machine
end

