-- ==== Sys2Proof/Machine/LaneFrames.lean ====
section
/-! DEFINITION. One lane frame period: what the 48 lane monitors take in (R118, R121, R122, R124, R126, R127), the selected-path records
(R125), what the 48 cells transmit (R99 to R103) and what the eight outputs deliver (R106, R107). -/

namespace Sys2Proof.Machine

/-- The frames of one period: the correctly framed frame of each lane on the west and the east port, and the payload of each bonded
position of each tributary input. -/
structure Period where
  westIn : List (Option LaneFrame)
  eastIn : List (Option LaneFrame)
  inputs : List (List (List Byte))
  deriving DecidableEq, Repr

/-- The frame that arrived on a lane of a port, if a correctly framed one did. -/
def Period.frame (p : Period) : Dir → Nat → Option LaneFrame
  | .west, lane => placeAt p.westIn lane
  | .east, lane => placeAt p.eastIn lane

/-- What a monitor reads of a frame: tag and content indicator (R118). -/
def LaneFrame.seen (f : LaneFrame) : Option Key × Content := (readTag f.tag, readContent f.content)

/-- What the monitors read on a lane in this period. -/
def Period.seen (p : Period) (port : Dir) (lane : Nat) : Option (Option Key × Content) := (p.frame port lane).map LaneFrame.seen

/-- The payload of a bonded position of an input. -/
def Period.payload (p : Period) (input position : Nat) : List Byte := (((p.inputs[input]?).getD [])[position]?).getD []

/-! ### Lane monitors -/

/-- A place with one more period judged (R121, R122). -/
def Place.take (bridgedKeys : List Key) (spanUp : Bool) (frame : Option (Option Key × Content)) (x : Place) : Place :=
  { x with opened := worseOpen x.opened (judge x.owner bridgedKeys spanUp frame) }

/-- The last frame of a monitor after a period with a frame or none (R119). While a cold reset lasts it stays at its cold value, none
(DEDUCED from R199, log 40). -/
def nextLast (isCold : Bool) (seen old : Option (Option Key × Content)) : Option (Option Key × Content) :=
  if isCold then old
  else match seen with
    | some x => some x
    | none => old

/-- One lane monitor takes one period: the last frame, the check-failed count while watched, and each place's open record (R119, R121, R122,
R124). -/
def LaneMon.take (isCold : Bool) (bridgedKeys : List Key) (spanUp : Bool) (frame : Option LaneFrame) (m : LaneMon) : LaneMon :=
  let seen := frame.map LaneFrame.seen
  let isBad := match frame with
    | some f => checkFails f
    | none => false
  { m with
    working := m.working.map (Place.take bridgedKeys spanUp seen),
    protection := m.protection.map (Place.take bridgedKeys spanUp seen),
    checkFailed := if m.watched && isBad then raiseSat 8000 m.checkFailed else m.checkFailed,
    periods := if m.watched then raiseSat 8000 m.periods else m.periods,
    last := nextLast isCold seen m.last,
    framed := frame.isSome }

/-- A cold reset lasts: the reset pin is held or the configuration load has not ended (R199). -/
def Phase.isCold : Phase → Bool
  | .inReset => true
  | .loading => true
  | .normal => false
  | .bypass _ => false

/-- One lane monitor of the state takes its frame. -/
def takeLane (p : Period) (s : State) (port : Dir) (lane : Nat) : State :=
  updMon s port lane (LaneMon.take s.phase.isCold s.bridged.keys (s.span port).up (p.frame port lane))

/-- Every lane monitor takes its frame. -/
def takeLanes (p : Period) (s : State) : State :=
  let lanes := List.range Config.laneCount
  forEach lanes (forEach lanes s (fun u lane => takeLane p u .west lane)) (fun u lane => takeLane p u .east lane)

/-! ### Settle periods -/

/-- Every lane of a group on a port carries a frame tagged with the key in this period, whatever its content (R126, R127). -/
def allTagged (p : Period) (port : Dir) (e : Entry) : Bool :=
  (lanesOf e.bk.first e.bk.count).all (fun lane => match p.frame port lane with
    | some f => readTag f.tag == some e.key
    | none => false)

/-- A place of the entry leaves settle; its second keeps the settle flag (R126). -/
def endSettle (k : Key) (x : Place) : Place := if x.owner = k then { x with settleEnd := none } else x

/-- The settle periods of one Active entry end in the first period in which all its lanes carry its tag (R126, R127). -/
def settleOne (p : Period) (s : State) (i : Nat) : State :=
  match s.entry i with
  | none => s
  | some e =>
    if e.state = .active then
      let lanes := lanesOf e.bk.first e.bk.count
      let s1 := if hasWorkWatch e.roles && allTagged p (inPort e.bk.dir) e then
          forEach lanes s (fun t lane =>
            updMon t (inPort e.bk.dir) lane (fun m => { m with working := m.working.map (endSettle e.key) }))
        else s
      if hasProtWatch e.roles && allTagged p (inPort (opp e.bk.dir)) e then
        forEach lanes s1 (fun t lane =>
          updMon t (inPort (opp e.bk.dir)) lane (fun m => { m with protection := m.protection.map (endSettle e.key) }))
      else s1
    else s

/-! ### Selected paths -/

/-- The open selected-path record of one Active drop entry takes this period (R125). -/
def selectOne (p : Period) (s : State) (i : Nat) : State :=
  match s.entry i with
  | none => s
  | some e =>
    match e.state, e.paths with
    | .active, some paths =>
      setEntry s i { e with paths := some { paths with selOpen := worseOpen paths.selOpen (judgeSelected s e p.seen) } }
    | _, _ => s

/-! ### Cells -/

/-- The idle-fill and the fail-fill frame (R102). -/
def idleFrame : LaneFrame := LaneFrame.build none 1 []
def failFrame : LaneFrame := LaneFrame.build none 2 []

/-- The frame of an Add cell: the owner key as tag; Feed with the position's payload while the input is Present, else NoFeed without payload
(R101, R130). -/
def addFrame (p : Period) (isPresent : Bool) (input position : Nat) (owner : Key) : LaneFrame :=
  if isPresent then LaneFrame.build (some owner) 0 (p.payload input position) else LaneFrame.build (some owner) 1 []

/-- The frame a cell transmits in this period (R99 to R103). -/
def cellFrame (p : Period) (s : State) (d : Dir) (lane : Nat) : LaneFrame :=
  match txSource s d lane with
  | .through => (p.frame (inPort d) lane).getD failFrame
  | .add input position owner => addFrame p (s.input input).isPresent input position owner
  | .idle => idleFrame
  | .failFill => failFrame

/-- The frames of all 48 span-lanes, east span first (R98). -/
def transmitted (p : Period) (s : State) : List LaneFrame :=
  let lanes := List.range Config.laneCount
  lanes.map (cellFrame p s .east) ++ lanes.map (cellFrame p s .west)

/-! ### Outputs -/

/-- The selected source of an output (R106). -/
def Output.selected (o : Output) : Option OutSource :=
  match o.selector with
  | .working => o.working
  | .protection => o.protection

/-- Squelch: every selected lane carries the owner's tag with Feed; the check takes no part (R107). -/
def passesSquelch (p : Period) (x : OutSource) : Bool :=
  (lanesOf x.first x.count).all (fun lane => p.seen (inPort x.dir) lane == some (some x.owner, .feed))

/-- The payloads of a source's lanes, position by position (R106). -/
def sourcePayload (p : Period) (x : OutSource) : List (List Byte) :=
  (lanesOf x.first x.count).map (fun lane => match p.frame (inPort x.dir) lane with
    | some f => f.payload
    | none => [])

/-- What an output delivers in this period: the feed, or idle fill (R106, R107). -/
def deliver (p : Period) (o : Output) : Output :=
  match o.selected with
  | none => { o with delivered := false, payload := [] }
  | some x => if passesSquelch p x then { o with delivered := true, payload := sourcePayload p x }
    else { o with delivered := false, payload := [] }

/-! ### The period -/

/-- The lane frame period as the monitors take it. -/
def monitorPeriod (p : Period) (s : State) : State :=
  forEach indexes (forEach indexes (takeLanes p s) (settleOne p)) (selectOne p)

/-- One lane frame period. The cells and outputs carry the frames of this period; the monitors judge them (R99, R107, R121). -/
def framePeriod (p : Period) (s : State) : State :=
  let t := monitorPeriod p s
  t.withSwitch { t.switch with tx := transmitted p t, outputs := t.switch.outputs.map (deliver p) }

end Sys2Proof.Machine
end

