-- ==== Sys2Proof/Machine/SpanMonitors.lean ====
section
/-! DEFINITION. The span monitors (R131, R132, R134), the tributary input monitors (R129) and the lane frame period (R121). -/

namespace Sys2Proof.Machine

/-- The monitors follow their inputs: in normal running and in bypass (R129, R134). -/
def monitorsFollow (s : State) : Bool :=
  match s.phase with
  | .normal => true
  | .bypass _ => true
  | .inReset => false
  | .loading => false

/-- Writes the span monitor of a side. -/
def setSpan (s : State) (side : Dir) (m : SpanMon) : State :=
  match side with
  | .east => s.withMons { s.mons with spanEast := m }
  | .west => s.withMons { s.mons with spanWest := m }

/-- Light and framing of a side lost. -/
def losePins (s : State) (side : Dir) (cause : LossCause) : State :=
  match side, cause with
  | .east, .light => s.withPins { s.pins with lightEast := false }
  | .east, .framing => s.withPins { s.pins with framingEast := false }
  | .west, .light => s.withPins { s.pins with lightWest := false }
  | .west, .framing => s.withPins { s.pins with framingWest := false }

/-- Light and framing of a side both present. -/
def restorePins (s : State) (side : Dir) : State :=
  match side with
  | .east => s.withPins { s.pins with lightEast := true, framingEast := true }
  | .west => s.withPins { s.pins with lightWest := true, framingWest := true }

/-- A change of a span monitor is reported: SpanState from its source, and a SPANSTATE queued east if it can join (R11, R132). In bypass nothing is
reported (R134). -/
def reportSpan (s : State) (side : Dir) (up : Bool) (cause : SpanCause) : State :=
  if s.running then
    let t := raiseNotice s (sourceSpan side) (.spanState side up cause s.now)
    if canJoinProt t .east then joinCounted t (.spanstate side up) else t
  else s

/-- The cause that a loss gives a SpanState notice (R132). -/
def causeOf : LossCause → SpanCause
  | .light => .lossOfLight
  | .framing => .lossOfFraming

/-- A station without arriving slots on a side: in normal running that side's own output carries a generated empty slot with the indication of R5;
in the transparent phases the output that the input feeds does, with the indication set (R5, R20, R22). -/
def generateSlot (s : State) (side : Dir) : State :=
  if s.running then emit s side none else putSlot s (opp side) { farDown := true, msg := none }

/-- Loss of light or framing at a span monitor that follows its inputs (R131). -/
def loseSpan (s : State) (side : Dir) (cause : LossCause) : State :=
  if (s.span side).up then reportSpan (setSpan s side { up := false, confirm := none }) side false (causeOf cause)
  else setSpan s side { up := false, confirm := none }

/-- SPAN_LOSS (R131, R132). -/
def execSpanLoss (side : Dir) (cause : LossCause) (s : State) : Host.Outcome State Fault Refusal :=
  let t := losePins s side cause
  .next (generateSlot (if monitorsFollow t then loseSpan t side cause else t) side)

/-- Light and framing return at a span monitor that follows its inputs: confirmation starts on a Down span whose timer is stopped (R131). -/
def regainSpan (s : State) (side : Dir) : State :=
  if !(s.span side).up && (s.span side).confirm.isNone then
    setSpan s side { up := false, confirm := some (after s Config.confirmMs) }
  else s

/-- SPAN_SIGNAL_RETURN (R131). -/
def execSpanSignalReturn (side : Dir) (s : State) : Host.Outcome State Fault Refusal :=
  let t := restorePins s side
  .next (if monitorsFollow t then regainSpan t side else t)

/-- SPAN_CONFIRMED (R131, R132). -/
def execSpanConfirmed (side : Dir) (s : State) : Host.Outcome State Fault Refusal :=
  .next (match (s.span side).confirm with
    | some d => reportSpan (setSpan (reach s d) side { up := true, confirm := none }) side true .confirmed
    | none => s)

/-! ### Tributary inputs -/

/-- An input monitor takes a state: a change is counted (R129). -/
def InputMon.take (isPresent : Bool) (m : InputMon) : InputMon :=
  if m.isPresent = isPresent then m else { m with isPresent := isPresent, changes := raiseSat 255 m.changes, changed := true }

/-- INPUT_STATE_CHANGE (R129). -/
def execInputStateChange (port : Nat) (isPresent : Bool) (s : State) : Host.Outcome State Fault Refusal :=
  let t := s.withPins { s.pins with inputs := modifyAt s.pins.inputs port (fun _ => isPresent) }
  .next (if monitorsFollow t then updInput t port (InputMon.take isPresent) else t)

/-! ### Lane frame period -/

/-- LANE_FRAME_PERIOD (R99 to R103, R106, R107, R118 to R127). -/
def execLaneFramePeriod (westIn eastIn : List (Option LaneFrame)) (inputs : List (List (List Byte))) (s : State) :
    Host.Outcome State Fault Refusal :=
  .next (framePeriod { westIn := westIn, eastIn := eastIn, inputs := inputs } s)

end Sys2Proof.Machine
end

