-- ==== Sys2Proof/Machine/Timers.lean ====
section
/-! DEFINITION. The timer commands: each finds its deadline, brings the local time to it (R29), and does what its rule gives. A deadline
that is absent is no event (R48). -/

namespace Sys2Proof.Machine

/-! ### MARK_TIMER_EXPIRY (R30) -/

/-- A MARK of this station's own waits in the east queue (R30). -/
def markWaits (s : State) : Bool :=
  s.lane.qEast.any (fun m => match m.body with
    | .mark => true
    | _ => false)

/-- The MARK deadline is reached: one MARK is queued unless one waits or it cannot join, and the timer starts again (R11, R30). -/
def expireMark (s : State) : State :=
  startMark (if !markWaits s && canJoin s .east then joinCounted s .mark else s)

/-- MARK_TIMER_EXPIRY. -/
def execMarkTimerExpiry (s : State) : Host.Outcome State Fault Refusal :=
  .next (match s.clock.markDeadline with
    | some d => expireMark (reach s d)
    | none => s)

/-! ### SECOND_BOUNDARY (R24, R28) -/

/-- SECOND_BOUNDARY: the fraction completes 1,000 ms of local time and boundary t is delivered. Unsynced, or at the limit, no second
completes (R23, R24). -/
def execSecondBoundary (s : State) : Host.Outcome State Fault Refusal :=
  .next (if clockRuns s then runSecond (s.withNowMs (s.nowMs + (1000 - s.clock.ran))) else s)

/-! ### Claim controller -/

/-- A circuit deadline in Awaiting return: the result is Unreachable, without an assessed set (R71). -/
def expireCircuit (s : State) (n : Nat) (c : ClaimSlot) : State := reachResult s n c (.unreachable none)

/-- CIRCUIT_TIMEOUT. -/
def execCircuitTimeout (n : Nat) (s : State) : Host.Outcome State Fault Refusal :=
  .next (match s.slot n with
    | some c => (match c.state with
      | .awaiting d => expireCircuit (reach s d) n c
      | _ => s)
    | none => s)

/-- A Tentative entry's lifetime ends: the entry is freed, TentativeLapsed is raised (R65). -/
def lapseTentative (s : State) (i : Nat) (e : Entry) : State :=
  raiseNotice (freeEntry s i) (sourceEntry i) (.tentativeLapsed e.key .new)

/-- TENTATIVE_LIFETIME_EXPIRY. -/
def execTentativeLifetimeExpiry (i : Nat) (s : State) : Host.Outcome State Fault Refusal :=
  .next (match s.entry i with
    | some e => (match e.state, e.lifetime with
      | .tentative, some d => lapseTentative (reach s d) i e
      | _, _ => s)
    | none => s)

/-- An extension part's lifetime ends: the part is removed, the entry's end unchanged, TentativeLapsed is raised (R65). -/
def lapseExtension (s : State) (i : Nat) (e : Entry) : State :=
  raiseNotice (setEntry s i { e with ext := none }) (sourceEntry i) (.tentativeLapsed e.key .extend)

/-- EXTENSION_LIFETIME_EXPIRY. -/
def execExtensionLifetimeExpiry (i : Nat) (s : State) : Host.Outcome State Fault Refusal :=
  .next (match s.entry i with
    | some e => (match e.ext.bind ExtPart.lifetime with
      | some d => lapseExtension (reach s d) i e
      | none => s)
    | none => s)

/-- The entry that an Extend retry goes on with: Held or Active, no extension part, its end below the new end (R70 check 1). -/
def retryEntry (s : State) (c : ClaimSlot) : Option (Nat × Entry) :=
  (findEntry s c.key).filter (fun p => isCommitted p.2 && p.2.ext.isNone && decide (p.2.bk.winEnd < c.req.winEnd))

/-- A slot in flight again on its next attempt: fresh circuit deadline (R70). -/
def nextAttempt (s : State) (c : ClaimSlot) (k : Key) : ClaimSlot :=
  { c with state := .awaiting (after s Config.circuitMs), key := k, attempt := c.attempt + 1 }

/-- The CLAIM of a retry cannot join: the slot stays in RetryWait for a further delay (R11, R70 check 3). -/
def postponeRetry (s : State) (n : Nat) (c : ClaimSlot) : State :=
  setSlot s n (some { c with state := .retryWait (after s (retryMs s)) })

/-- The next attempt of a New claim: fresh sequence, Tentative entry, CLAIM (R70). -/
def retryNew (s : State) (n : Nat) (c : ClaimSlot) : State :=
  if c.req.winStart < s.now + 1 then concludeSlot s n c (.refused .badWindow s.self)
  else
    let k : Key := { origin := s.self, seq := takenSeq s }
    match testNew s none (newCandidate s k c.req) with
    | .fails r _ => concludeSlot s n c (.refused r s.self)
    | .pass =>
      if canJoin s c.req.dir then
        let s1 := setSlot (allocate (takeSeq s) k c.req .tentative none false) n (some (nextAttempt s c k))
        join s1 c.req.dir k.seq (claimBody s .new c.req)
      else postponeRetry s n c

/-- The next attempt of an extension: the same key, a new extension part, CLAIM (R70, R78). -/
def retryExtend (s : State) (n : Nat) (c : ClaimSlot) : State :=
  match retryEntry s c with
  | none => concludeSlot s n c (.refused .badWindow s.self)
  | some (i, e) =>
    match testExtend s c.key (extendCandidate s e c.req.winEnd) with
    | .fails r _ => concludeSlot s n c (.refused r s.self)
    | .pass =>
      if canJoin s c.req.dir then
        let s1 := setEntry s i { e with ext := some { oldEnd := e.bk.winEnd, newEnd := c.req.winEnd, lifetime := none } }
        join (setSlot s1 n (some (nextAttempt s c c.key))) c.req.dir c.key.seq (claimBody s .extend c.req)
      else postponeRetry s n c

/-- A retry deadline is reached (R70). -/
def expireRetry (s : State) (n : Nat) (c : ClaimSlot) : State :=
  match c.mode with
  | .new => retryNew s n c
  | .extend => retryExtend s n c

/-- RETRY_DEADLINE. -/
def execRetryDeadline (n : Nat) (s : State) : Host.Outcome State Fault Refusal :=
  .next (match s.slot n with
    | some c => (match c.state with
      | .retryWait d => expireRetry (reach s d) n c
      | _ => s)
    | none => s)

/-- AGE_DEADLINE: the record of a key and mode is discarded (R55). -/
def execAgeDeadline (k : Key) (mode : Mode) (s : State) : Host.Outcome State Fault Refusal :=
  .next (match findRecent s k mode with
    | some r => discardRecent (reach s r.age) k mode
    | none => s)

/-! ### Protection controller -/

/-- HOLD_OFF_EXPIRY (R139, R143). -/
def execHoldOffExpiry (i : Nat) (s : State) : Host.Outcome State Fault Refusal :=
  .next (match s.entry i with
    | some e => (match e.prot.bind ProtPart.holdOff with
      | some d => attemptMarked s (expireHoldOff (reach s d) i) i
      | none => s)
    | none => s)

/-- The restore wait ends in an Active drop: Working, and the request wanted Off (R141). -/
def expireRestoreWait (s : State) (i : Nat) : State :=
  match s.entry i with
  | none => s
  | some e =>
    match e.prot with
    | none => s
    | some p =>
      if e.state == .active && p.state == .restoreWait then
        changeState s i (ProtPart.enter .working none none p.resends) .restoreExpiry
      else s

/-- RESTORE_WAIT_EXPIRY (R141, R143). -/
def execRestoreWaitExpiry (i : Nat) (s : State) : Host.Outcome State Fault Refusal :=
  .next (match s.entry i with
    | some e => (match e.prot.bind ProtPart.restoreWait with
      | some d => attemptMarked s (expireRestoreWait (reach s d) i) i
      | none => s)
    | none => s)

/-! ### Recall controller -/

/-- The resend deadline with the RECALL not returned: a further RECALL after one or two sends, the end of recovery after three (R87). -/
def expireResend (s : State) : State := if s.recov.sends < 3 then sendRecall s else leaveRecovery s .incomplete

/-- RESEND_DEADLINE. -/
def execResendDeadline (s : State) : Host.Outcome State Fault Refusal :=
  .next (match s.recov.state, s.recov.resend with
    | .recovering, some d => expireResend (reach s d)
    | _, _ => s)

/-- QUIET_DEADLINE (R89). -/
def execQuietDeadline (s : State) : Host.Outcome State Fault Refusal :=
  .next (match s.recov.state, s.recov.quiet with
    | .recovering, some d => leaveRecovery (reach s d) .quiet
    | _, _ => s)

/-- RECOVERY_LIMIT (R89). -/
def execRecoveryLimit (s : State) : Host.Outcome State Fault Refusal :=
  .next (match s.recov.state, s.recov.limit with
    | .recovering, some d => leaveRecovery (reach s d) .timeLimit
    | _, _ => s)

/-! ### Query controller -/

/-- The pending query is cleared, and QueryResult NoAnswer raised (R191). -/
def lapseQuery (s : State) (q : Query) : State :=
  raiseNotice (s.withBill { s.bill with query := none }) sourceQuery (.queryResult q.target q.matchId .noAnswer)

/-- QUERY_DEADLINE. -/
def execQueryDeadline (s : State) : Host.Outcome State Fault Refusal :=
  .next (match s.bill.query with
    | some q => lapseQuery (reach s q.deadline) q
    | none => s)

end Sys2Proof.Machine
end

