-- ==== Sys2Proof/Machine/Dispatch.lean ====
section
/-! DEFINITION. The effect of a command on everything but the queue: one arm per row of the table, each one call of its meaning. -/

namespace Sys2Proof.Machine

def exec (i : Instr) (s : State) : Host.Outcome State Fault Refusal :=
  match i with
  | .book tag params => Sys2Proof.Machine.execBook tag params s
  | .withdraw tag params => Sys2Proof.Machine.execWithdraw tag params s
  | .extend tag params => Sys2Proof.Machine.execExtend tag params s
  | .setClock tag params => Sys2Proof.Machine.execSetClock tag params s
  | .force tag params => Sys2Proof.Machine.execForce tag params s
  | .lockout tag params => Sys2Proof.Machine.execLockout tag params s
  | .clearSwitch tag params => Sys2Proof.Machine.execClearSwitch tag params s
  | .readEntry tag params => Sys2Proof.Machine.execReadEntry tag params s
  | .readMonitor tag params => Sys2Proof.Machine.execReadMonitor tag params s
  | .readMatch tag params => Sys2Proof.Machine.execReadMatch tag params s
  | .closeMatch tag params => Sys2Proof.Machine.execCloseMatch tag params s
  | .takeStatement tag params => Sys2Proof.Machine.execTakeStatement tag params s
  | .remoteRead tag params => Sys2Proof.Machine.execRemoteRead tag params s
  | .restart tag params => Sys2Proof.Machine.execRestart tag params s
  | .unknownRequest bodyType tag code => Sys2Proof.Machine.execUnknownRequest bodyType tag code s
  | .badFrame bytes => Sys2Proof.Machine.execBadFrame bytes s
  | .interByteTimeout bytes => Sys2Proof.Machine.execInterByteTimeout bytes s
  | .frameSent => Sys2Proof.Machine.execFrameSent s
  | .warmReset => Sys2Proof.Machine.execWarmReset s
  | .coldReset => Sys2Proof.Machine.execColdReset s
  | .configurationLoad image => Sys2Proof.Machine.execConfigurationLoad image s
  | .bypassSlotForward port slot => Sys2Proof.Machine.execBypassSlotForward port slot s
  | .slotDroppedOnWrap port farDown m => Sys2Proof.Machine.execSlotDroppedOnWrap port farDown m s
  | .emptySlotArrival port farDown => Sys2Proof.Machine.execEmptySlotArrival port farDown s
  | .markReceived port farDown h => Sys2Proof.Machine.execMarkReceived port farDown h s
  | .unknownKindMessage port farDown h kind bytes => Sys2Proof.Machine.execUnknownKindMessage port farDown h kind bytes s
  | .claimReceived port farDown h b => Sys2Proof.Machine.execClaimReceived port farDown h b s
  | .claimReturned port farDown h b => Sys2Proof.Machine.execClaimReturned port farDown h b s
  | .outboundJoin dir => Sys2Proof.Machine.execOutboundJoin dir s
  | .confirmReceived port farDown h mode => Sys2Proof.Machine.execConfirmReceived port farDown h mode s
  | .holdlostHeldOverJoin => Sys2Proof.Machine.execHoldlostHeldOverJoin s
  | .abandonReceived port farDown h mode => Sys2Proof.Machine.execAbandonReceived port farDown h mode s
  | .withdrawReceived port farDown h winEnd => Sys2Proof.Machine.execWithdrawReceived port farDown h winEnd s
  | .holdlostReceived port farDown h key mode station => Sys2Proof.Machine.execHoldlostReceived port farDown h key mode station s
  | .switchreqReceived port farDown h key station on => Sys2Proof.Machine.execSwitchreqReceived port farDown h key station on s
  | .bridgeOnReceived port farDown h key drops => Sys2Proof.Machine.execBridgeOnReceived port farDown h key drops s
  | .bridgeOffReceived port farDown h key => Sys2Proof.Machine.execBridgeOffReceived port farDown h key s
  | .spanstateReceived port farDown h side up => Sys2Proof.Machine.execSpanstateReceived port farDown h side up s
  | .queryReceived port farDown h target matchId => Sys2Proof.Machine.execQueryReceived port farDown h target matchId s
  | .answerReceived port farDown h querier seq matchId copy => Sys2Proof.Machine.execAnswerReceived port farDown h querier seq matchId copy s
  | .recallReceived port farDown h => Sys2Proof.Machine.execRecallReceived port farDown h s
  | .recallReturned port farDown h => Sys2Proof.Machine.execRecallReturned port farDown h s
  | .reannounceReceived port farDown h r => Sys2Proof.Machine.execReannounceReceived port farDown h r s
  | .walkResume => Sys2Proof.Machine.execWalkResume s
  | .markTimerExpiry => Sys2Proof.Machine.execMarkTimerExpiry s
  | .secondBoundary => Sys2Proof.Machine.execSecondBoundary s
  | .chargeTake => Sys2Proof.Machine.execChargeTake s
  | .chargeCompletion => Sys2Proof.Machine.execChargeCompletion s
  | .circuitTimeout slot => Sys2Proof.Machine.execCircuitTimeout slot s
  | .tentativeLifetimeExpiry index => Sys2Proof.Machine.execTentativeLifetimeExpiry index s
  | .extensionLifetimeExpiry index => Sys2Proof.Machine.execExtensionLifetimeExpiry index s
  | .retryDeadline slot => Sys2Proof.Machine.execRetryDeadline slot s
  | .ageDeadline key mode => Sys2Proof.Machine.execAgeDeadline key mode s
  | .holdOffExpiry index => Sys2Proof.Machine.execHoldOffExpiry index s
  | .restoreWaitExpiry index => Sys2Proof.Machine.execRestoreWaitExpiry index s
  | .resendDeadline => Sys2Proof.Machine.execResendDeadline s
  | .quietDeadline => Sys2Proof.Machine.execQuietDeadline s
  | .recoveryLimit => Sys2Proof.Machine.execRecoveryLimit s
  | .queryDeadline => Sys2Proof.Machine.execQueryDeadline s
  | .spanLoss side cause => Sys2Proof.Machine.execSpanLoss side cause s
  | .spanSignalReturn side => Sys2Proof.Machine.execSpanSignalReturn side s
  | .spanConfirmed side => Sys2Proof.Machine.execSpanConfirmed side s
  | .inputStateChange port isPresent => Sys2Proof.Machine.execInputStateChange port isPresent s
  | .laneFramePeriod westIn eastIn inputs => Sys2Proof.Machine.execLaneFramePeriod westIn eastIn inputs s
  | .resetPinRelease => Sys2Proof.Machine.execResetPinRelease s

end Sys2Proof.Machine
end

