-- ==== Sys2Proof/Machine/Idle.lean ====
section
/-! DEFINITION. What the part does when no command waits (DESIGN CHOICE, log 8): its own continuations that are enabled join the queue, or else
one local millisecond passes and the timer commands that fall due join it. -/

namespace Sys2Proof.Machine

/-! ### Continuations -/

/-- A command, if a condition holds. -/
def offer (b : Bool) (c : Instr) : List Instr := if b then [c] else []

/-- A held-up walk may try again: its queue takes the REANNOUNCE (R92), or the entry at the cursor is gone, where it does not wait for a queue.
Where the index has been taken by another booking since, it waits for that booking's queue (DESIGN CHOICE, log 42). -/
def walkMayResume (s : State) : Bool :=
  match s.recov.walk with
  | none => false
  | some i => (match s.entry i with
    | some e => canJoinSite s e.bk.dir
    | none => true)

/-- The continuations that are enabled: the warm reset once its reply is sent (R198), joins (R11, R12, R72), the walk (R92), the charge unit (R167,
R168). -/
def continuations (s : State) : List Instr :=
  offer (s.site.restart == .sent) .warmReset
    ++ offer (!s.lane.heldOver.isEmpty && decide (s.lane.qEast.length < Config.queuePlaces)) .holdlostHeldOverJoin
    ++ offer ((waitingSlot s .east).isSome && canJoin s .east) (.outboundJoin .east)
    ++ offer ((waitingSlot s .west).isSome && canJoin s .west) (.outboundJoin .west)
    ++ offer (walkMayResume s) .walkResume
    ++ offer (s.bill.charge.isNone && !s.bill.closeQueue.isEmpty) .chargeTake
    ++ offer s.bill.charge.isSome .chargeCompletion

/-! ### Timers -/

/-- A timer command, if its deadline is present and due at local time t (R29). -/
def due (t : Nat) (deadline : Option Nat) (c : Instr) : List Instr :=
  match deadline with
  | some d => offer (decide (d ≤ t)) c
  | none => []

/-- The timer commands of a claim slot. -/
def dueSlot (s : State) (t n : Nat) : List Instr :=
  match (s.slot n).map ClaimSlot.state with
  | some (.awaiting d) => due t (some d) (.circuitTimeout n)
  | some (.retryWait d) => due t (some d) (.retryDeadline n)
  | some .outConfirm => []
  | some (.outAbandon _) => []
  | none => []

/-- The timer commands of a calendar entry. -/
def dueEntry (s : State) (t i : Nat) : List Instr :=
  match s.entry i with
  | none => []
  | some e =>
    (if e.state = .tentative then due t e.lifetime (.tentativeLifetimeExpiry i) else [])
      ++ due t (e.ext.bind ExtPart.lifetime) (.extensionLifetimeExpiry i)
      ++ due t (e.prot.bind ProtPart.holdOff) (.holdOffExpiry i)
      ++ due t (e.prot.bind ProtPart.restoreWait) (.restoreWaitExpiry i)

/-- Every timer command due at local time t. -/
def dueTimers (s : State) (t : Nat) : List Instr :=
  due t s.clock.markDeadline .markTimerExpiry
    ++ (List.range Config.slotCount).flatMap (dueSlot s t)
    ++ indexes.flatMap (dueEntry s t)
    ++ s.claims.recent.flatMap (fun r => due t (some r.age) (.ageDeadline r.key r.mode))
    ++ (if s.recov.state = .recovering then
        due t s.recov.resend .resendDeadline ++ due t s.recov.quiet .quietDeadline ++ due t s.recov.limit .recoveryLimit
      else [])
    ++ due t (s.bill.query.map Query.deadline) .queryDeadline
    ++ due t s.mons.spanEast.confirm (.spanConfirmed .east)
    ++ due t s.mons.spanWest.confirm (.spanConfirmed .west)

/-! ### The tick -/

/-- One local millisecond passes; a second that it completes is left to SECOND_BOUNDARY, which takes that millisecond (R24). -/
def passMs (s : State) : State :=
  let due := dueTimers s (s.nowMs + 1)
  if clockRuns s && decide (999 ≤ s.clock.ran) then s.withPending (.secondBoundary :: due)
  else (passTime s 1).withPending due

/-- The part with no command waiting (log 8). -/
def idle (s : State) : State :=
  match continuations s with
  | [] => passMs s
  | l => s.withPending l

end Sys2Proof.Machine
end

