-- ==== Sys2Proof/WellFormed.lean ====
section
/-! DEFINITION. Well-formed commands: every operand within the range that its field or place has (Tables 11-5 to 11-8, R3, R6, R34, R35, R53,
R177). The meanings take any operand; the checks say which the outside can send. -/

namespace Sys2Proof

/-- A booking key: station 0 to 15, sequence 0 to 65,535 (R7, R203). -/
def Key.wf (k : Key) : Bool := decide (k.origin < 16) && decide (k.seq < 65536)

/-- A number of 24 and of 32 bits. -/
def fits24 (n : Nat) : Bool := decide (n < 16777216)
def fits32 (n : Nat) : Bool := decide (n < 4294967296)

/-- A header: every field within its bits (Table 11-6). -/
def Header.wf (h : Header) : Bool :=
  decide (h.origin < 16) && decide (h.seq < 65536) && fits32 h.stamp && decide (h.hops < 256) && decide (h.wraps < 4)
    && (match h.firstWrap with
      | some w => decide (w < 16)
      | none => true)

/-- A drop: station 0 to 15, output port 0 to 7 (R35). -/
def Drop.wf (d : Drop) : Bool := decide (d.station < 16) && decide (d.port < 8)

/-- A lane group (R3). -/
def groupWf (f k : Nat) : Bool := (k == 1 || k == 2 || k == 4) && f % k == 0 && decide (f + k ≤ Config.laneCount)

/-- A booking description (R35, R57 but for what depends on the station). -/
def Booking.wf (b : Booking) : Bool :=
  b.matchId != 0 && fits24 b.matchId && decide (b.rateClass < 8) && !(b.isProtected && b.cls == .extra) && groupWf b.first b.count
    && fits32 b.winStart && fits32 b.winEnd && decide (b.input < 8) && decide (1 ≤ b.drops.length) && decide (b.drops.length ≤ 4)
    && b.drops.all Drop.wf

/-- A verdict: a refusing station 0 to 15 (R61). -/
def Verdict.wf : Verdict → Bool
  | .clear => true
  | .refused _ station => decide (station < 16)

/-- A CLAIM body (R61). -/
def ClaimBody.wf (b : ClaimBody) : Bool := b.bk.wf && b.verdict.wf

/-- A line of a match record (R168). -/
def Line.wf (l : Line) : Bool := l.key.wf && decide (l.port < 8)

/-- A match record (Table 10-1). -/
def MatchRecord.wf (r : MatchRecord) : Bool :=
  r.matchId != 0 && fits24 r.matchId && fits32 r.total && decide (r.contributions ≤ 65535) && decide (r.lines.length ≤ 8)
    && r.lines.all Line.wf && decide (r.folded ≤ 65535) && fits32 r.foldedCharge && fits32 r.firstActivation

/-- A statement copy: record 0 to 15 (R177, R190). -/
def Statement.wf (c : Statement) : Bool := decide (c.number < Config.recordCount) && c.record.wf

/-- A REANNOUNCE body (R93). -/
def Reannounce.wf (r : Reannounce) : Bool := r.key.wf && r.bk.wf

/-- A kind byte that is none of the thirteen of Table 11-6. -/
def unknownKind (kind : Byte) : Bool := kind == 0 || decide (13 < kind.toNat)

/-- A message body; a message holds at most 160 bytes, 10 of them the header. -/
def Body.wf : Body → Bool
  | .mark => true
  | .claim b => b.wf
  | .confirm _ => true
  | .abandon _ => true
  | .withdraw v => fits32 v
  | .holdlost k _ st => k.wf && decide (st < 16)
  | .switchreq k st _ => k.wf && decide (st < 16)
  | .bridge k _ _ => k.wf
  | .spanstate _ _ => true
  | .query t m => decide (t < 16) && fits24 m
  | .answer q n m c => decide (q < 16) && decide (n < 65536) && fits24 m && (match c with
    | some x => x.wf
    | none => true)
  | .recallReq => true
  | .reannounce r => r.wf
  | .unknown k bytes => unknownKind k && decide (bytes.length ≤ 150)

/-- A message. -/
def Msg.wf (m : Msg) : Bool := m.hdr.wf && m.body.wf

/-- A lane frame's tag is a key, with an origin of 0 to 15, or none, with origin byte 0xFF (R118, R203). -/
def LaneFrame.wf (f : LaneFrame) : Bool := decide (f.tag.origin.toNat < 16) || f.tag.origin == 0xFF

/-- The frames of one port: 24 lanes. -/
def lanesWf (l : List (Option LaneFrame)) : Bool :=
  decide (l.length = Config.laneCount) && l.all (fun o => match o with
    | some f => f.wf
    | none => true)

/-- The parameter bytes of a request: a body of at most 2,048 bytes holds 2,045 of them (R192). -/
def paramsWf (l : List Byte) : Bool := decide (l.length ≤ 2045)

/-- A body that marks a request of Table 11-2 is no unknown request (R192). -/
def unknownWf (bodyType code : Byte) : Bool := !(bodyType == 1 && decide (16 ≤ code.toNat) && decide (code.toNat ≤ 29))

/-- A command is well-formed. -/
def Instr.wf : Instr → Bool
  | .book _ params => paramsWf params
  | .withdraw _ params => paramsWf params
  | .extend _ params => paramsWf params
  | .setClock _ params => paramsWf params
  | .force _ params => paramsWf params
  | .lockout _ params => paramsWf params
  | .clearSwitch _ params => paramsWf params
  | .readEntry _ params => paramsWf params
  | .readMonitor _ params => paramsWf params
  | .readMatch _ params => paramsWf params
  | .closeMatch _ params => paramsWf params
  | .takeStatement _ params => paramsWf params
  | .remoteRead _ params => paramsWf params
  | .restart _ params => paramsWf params
  | .unknownRequest bodyType _ code => unknownWf bodyType code
  | .badFrame bytes => !bytes.isEmpty
  | .interByteTimeout bytes => !bytes.isEmpty
  | .frameSent => true
  | .warmReset => true
  | .coldReset => true
  | .configurationLoad image => decide (image.length = 74)
  | .bypassSlotForward _ slot => (match slot.msg with
    | some m => m.wf
    | none => true)
  | .slotDroppedOnWrap _ _ m => m.wf
  | .emptySlotArrival _ _ => true
  | .markReceived _ _ h => h.wf
  | .unknownKindMessage _ _ h kind bytes => h.wf && unknownKind kind && decide (bytes.length ≤ 150)
  | .claimReceived _ _ h b => h.wf && b.wf
  | .claimReturned _ _ h b => h.wf && b.wf
  | .outboundJoin _ => true
  | .confirmReceived _ _ h _ => h.wf
  | .holdlostHeldOverJoin => true
  | .abandonReceived _ _ h _ => h.wf
  | .withdrawReceived _ _ h winEnd => h.wf && fits32 winEnd
  | .holdlostReceived _ _ h key _ station => h.wf && key.wf && decide (station < 16)
  | .switchreqReceived _ _ h key station _ => h.wf && key.wf && decide (station < 16)
  | .bridgeOnReceived _ _ h key _ => h.wf && key.wf
  | .bridgeOffReceived _ _ h key => h.wf && key.wf
  | .spanstateReceived _ _ h _ _ => h.wf
  | .queryReceived _ _ h target matchId => h.wf && decide (target < 16) && fits24 matchId
  | .answerReceived _ _ h querier seq matchId copy =>
    h.wf && decide (querier < 16) && decide (seq < 65536) && fits24 matchId && (match copy with
      | some c => c.wf
      | none => true)
  | .recallReceived _ _ h => h.wf
  | .recallReturned _ _ h => h.wf
  | .reannounceReceived _ _ h r => h.wf && r.wf
  | .walkResume => true
  | .markTimerExpiry => true
  | .secondBoundary => true
  | .chargeTake => true
  | .chargeCompletion => true
  | .circuitTimeout slot => decide (slot < Config.slotCount)
  | .tentativeLifetimeExpiry index => decide (index < Config.entryCount)
  | .extensionLifetimeExpiry index => decide (index < Config.entryCount)
  | .retryDeadline slot => decide (slot < Config.slotCount)
  | .ageDeadline key _ => key.wf
  | .holdOffExpiry index => decide (index < Config.entryCount)
  | .restoreWaitExpiry index => decide (index < Config.entryCount)
  | .resendDeadline => true
  | .quietDeadline => true
  | .recoveryLimit => true
  | .queryDeadline => true
  | .spanLoss _ _ => true
  | .spanSignalReturn _ => true
  | .spanConfirmed _ => true
  | .inputStateChange port _ => decide (port < 8)
  | .laneFramePeriod westIn eastIn inputs => lanesWf westIn && lanesWf eastIn && decide (inputs.length = 8) && inputs.all (fun l => decide (l.length = 4))
  | .resetPinRelease => true

end Sys2Proof
end

