-- ==== Sys2Proof/Safety.lean ====
section
/-! DEFINITION. The terms that claims use: which parts a step changes, what kind of command a command is, a message that passes, and the laws
that the manual names of the station's tables. -/

namespace Sys2Proof.Machine

/-! ### Frames -/

/-- The parts of the state, one per field of `State`. -/
inductive Part where
  | phase
  | cfg
  | nowMs
  | pins
  | clock
  | lane
  | entries
  | claims
  | recov
  | switch
  | mons
  | bridged
  | bill
  | site
  | freeCount
  | pending
  deriving DecidableEq, Repr

/-- A part has the same value in two states. -/
def Part.same (s t : State) : Part → Prop
  | .phase => t.phase = s.phase
  | .cfg => t.cfg = s.cfg
  | .nowMs => t.nowMs = s.nowMs
  | .pins => t.pins = s.pins
  | .clock => t.clock = s.clock
  | .lane => t.lane = s.lane
  | .entries => t.entries = s.entries
  | .claims => t.claims = s.claims
  | .recov => t.recov = s.recov
  | .switch => t.switch = s.switch
  | .mons => t.mons = s.mons
  | .bridged => t.bridged = s.bridged
  | .bill => t.bill = s.bill
  | .site => t.site = s.site
  | .freeCount => t.freeCount = s.freeCount
  | .pending => t.pending = s.pending

/-- Every part outside the list has the same value in t as in s. -/
def changesOnly (parts : List Part) (s t : State) : Prop := ∀ p : Part, p ∉ parts → p.same s t

/-- The command is answered with a next state. -/
def completesAs (c : Instr) (s t : State) : Prop := exec c s = .next t

/-! ### Site requests -/

/-- The host tag, request code and parameter bytes of a site request (Table 11-2); absent for any other command. -/
def requestOf : Instr → Option (Byte × Byte × List Byte)
  | .book tag params => some (tag, codeBook, params)
  | .withdraw tag params => some (tag, codeWithdraw, params)
  | .extend tag params => some (tag, codeExtend, params)
  | .setClock tag params => some (tag, codeSetClock, params)
  | .force tag params => some (tag, codeForce, params)
  | .lockout tag params => some (tag, codeLockout, params)
  | .clearSwitch tag params => some (tag, codeClearSwitch, params)
  | .readEntry tag params => some (tag, codeReadEntry, params)
  | .readMonitor tag params => some (tag, codeReadMonitor, params)
  | .readMatch tag params => some (tag, codeReadMatch, params)
  | .closeMatch tag params => some (tag, codeCloseMatch, params)
  | .takeStatement tag params => some (tag, codeTakeStatement, params)
  | .remoteRead tag params => some (tag, codeRemoteRead, params)
  | .restart tag params => some (tag, codeRestart, params)
  | _ => none

/-- The site port takes a request: the receiver runs, the reply place is empty, no Restart is under way (R193). -/
def portFree (s : State) : Prop := s.site.rx ≠ .off ∧ s.site.reply = none ∧ s.site.restart = .none

/-- The site port takes a request in normal running. -/
def portReady (s : State) : Prop := portFree s ∧ s.phase = .normal

/-- The reply stands in the reply place of t, and the rest of the site port but the notices is as in s (R193). -/
def repliesWith (s t : State) (tag code : Byte) (status : Status) (data : ReplyData) : Prop :=
  t.site = { s.site with notices := t.site.notices, reply := some { tag := tag, code := code, status := status, data := data } }

/-- The state with a reply in the reply place and nothing else changed. -/
def onlyReply (s : State) (tag code : Byte) (status : Status) (data : ReplyData) : State :=
  { s with site := { s.site with reply := some { tag := tag, code := code, status := status, data := data } } }

/-- The notice that t's queue holds for a source. -/
def noticeAt (t : State) (source : Nat) : Option NoticeBody :=
  (t.site.notices.find? (fun n => n.source == source)).map Notice.content

/-! ### Slots -/

/-- The port, indication and message of a slot arrival; absent for any other command. -/
def slotOf : Instr → Option (Dir × Slot)
  | .bypassSlotForward port slot => some (port, slot)
  | .slotDroppedOnWrap port farDown m => some (port, { farDown := farDown, msg := some m })
  | .emptySlotArrival port farDown => some (port, { farDown := farDown, msg := none })
  | .markReceived port farDown h => some (port, { farDown := farDown, msg := some { hdr := h, body := .mark } })
  | .unknownKindMessage port farDown h kind bytes =>
    some (port, { farDown := farDown, msg := some { hdr := h, body := .unknown kind bytes } })
  | .claimReceived port farDown h b => some (port, { farDown := farDown, msg := some { hdr := h, body := .claim b } })
  | .claimReturned port farDown h b => some (port, { farDown := farDown, msg := some { hdr := h, body := .claim b } })
  | .confirmReceived port farDown h mode => some (port, { farDown := farDown, msg := some { hdr := h, body := .confirm mode } })
  | .abandonReceived port farDown h mode => some (port, { farDown := farDown, msg := some { hdr := h, body := .abandon mode } })
  | .withdrawReceived port farDown h winEnd => some (port, { farDown := farDown, msg := some { hdr := h, body := .withdraw winEnd } })
  | .holdlostReceived port farDown h key mode station =>
    some (port, { farDown := farDown, msg := some { hdr := h, body := .holdlost key mode station } })
  | .switchreqReceived port farDown h key station on =>
    some (port, { farDown := farDown, msg := some { hdr := h, body := .switchreq key station on } })
  | .bridgeOnReceived port farDown h key drops =>
    some (port, { farDown := farDown, msg := some { hdr := h, body := .bridge key true drops } })
  | .bridgeOffReceived port farDown h key => some (port, { farDown := farDown, msg := some { hdr := h, body := .bridge key false 0 } })
  | .spanstateReceived port farDown h side up =>
    some (port, { farDown := farDown, msg := some { hdr := h, body := .spanstate side up } })
  | .queryReceived port farDown h target matchId =>
    some (port, { farDown := farDown, msg := some { hdr := h, body := .query target matchId } })
  | .answerReceived port farDown h querier seq matchId copy =>
    some (port, { farDown := farDown, msg := some { hdr := h, body := .answer querier seq matchId copy } })
  | .recallReceived port farDown h => some (port, { farDown := farDown, msg := some { hdr := h, body := .recallReq } })
  | .recallReturned port farDown h => some (port, { farDown := farDown, msg := some { hdr := h, body := .recallReq } })
  | .reannounceReceived port farDown h r => some (port, { farDown := farDown, msg := some { hdr := h, body := .reannounce r } })
  | _ => none

/-- The slot last put out on a side. -/
def outOf (s : State) : Dir → Slot
  | .east => s.lane.outEast
  | .west => s.lane.outWest

/-- Neither side is wrapped once a slot with the indication clear has arrived on a port of a station in normal running (R18). That a slot which
itself clears the port's indication is handled under the new state is the model's choice (log 7). -/
def bothOpen (s : State) (port : Dir) : Prop :=
  s.phase = .normal ∧ (s.span port).up = true ∧ (s.span (opp port)).up = true ∧ s.far (opp port) = false

/-- The stamp of a message moves nothing: it is flagged, or not above the ring seconds of a Synced clock (R25, R26). -/
def stampOld (s : State) (h : Header) : Prop := h.unsynced = true ∨ (s.clock.synced = true ∧ h.stamp ≤ s.clock.seconds)

/-- A message of another station passes at first sight: no side wrapped, an old stamp, the hop limit not reached, never turned (R14 to R17). -/
def passes (s : State) (port : Dir) (h : Header) : Prop :=
  bothOpen s port ∧ stampOld s h ∧ h.origin ≠ s.self ∧ h.hops + 1 < 2 * s.ring ∧ h.wraps = 0

/-- A message of this station's own comes back in its sent direction (R14). -/
def comesBack (s : State) (port : Dir) (h : Header) : Prop :=
  bothOpen s port ∧ stampOld s h ∧ h.origin = s.self ∧ h.sentDir = opp port

/-- The lane controllers of t are those of s but for the indication noted on the port, the slot put out on the other side, and the two queues
with the message counter. -/
def slotLeaves (s t : State) (port : Dir) (m : Option Msg) : Prop :=
  t.far port = false ∧ t.far (opp port) = s.far (opp port) ∧ outOf t (opp port) = { farDown := false, msg := m }
    ∧ outOf t port = outOf s port ∧ t.lane.lastServed = s.lane.lastServed

/-- The message has left on the other side with its hop count raised and nothing else of it changed (R15, R17). -/
def passedOn (s t : State) (port : Dir) (h : Header) (b : Body) : Prop :=
  slotLeaves s t port (some { hdr := { h with hops := h.hops + 1 }, body := b })

/-- A slot with the indication clear arrives on a side that is not wrapped then, and its message's stamp moves nothing (R18, R25, R26). -/
def arrivesOpen (s : State) (port : Dir) (h : Header) : Prop := s.phase = .normal ∧ (s.span port).up = true ∧ stampOld s h

/-- The side that a slot from the port travels to is wrapped (R18). -/
def farWrapped (s : State) (port : Dir) : Prop := (s.span (opp port)).up = false ∨ s.far (opp port) = true

/-- The message is not stripped here: another station's, or travelling against its sent direction (R14). -/
def notStripped (s : State) (port : Dir) (h : Header) : Prop := h.origin ≠ s.self ∨ h.sentDir ≠ opp port

/-- A once-turned message back at its first wrap station, travelling against its sent direction (R21). -/
def circled (s : State) (port : Dir) (h : Header) : Prop := h.wraps = 1 ∧ h.firstWrap = some s.self ∧ h.sentDir ≠ opp port

/-- The queues, the held-over list and the message counter are as in s. -/
def queuesKept (s t : State) : Prop :=
  t.lane.qEast = s.lane.qEast ∧ t.lane.qWest = s.lane.qWest ∧ t.lane.heldOver = s.lane.heldOver ∧ t.lane.counter = s.lane.counter

/-- The message has been turned: it leaves on the side it came in on with its hop and wrap counts raised, this station written in at the first
turn, and the far output carries an empty slot that the station generates (R5, R15, R17, R19, R20). -/
def turnedBack (s t : State) (port : Dir) (h : Header) (b : Body) : Prop :=
  t.far port = false ∧ t.far (opp port) = s.far (opp port) ∧ t.lane.lastServed = s.lane.lastServed
    ∧ outOf t port = { farDown := false, msg := some { body := b, hdr := { h with
        hops := h.hops + 1, wraps := h.wraps + 1, firstWrap := if h.wraps = 0 then some s.self else h.firstWrap } } }
    ∧ outOf t (opp port) = { farDown := !(s.span (opp port)).up, msg := none }

/-- The message is gone, and its slot goes on as an empty slot that arrives there, which the station may fill (R13). -/
def goesOnEmpty (s : State) (port : Dir) (c : Instr) : Prop := ∃ t, exec c s = .next t ∧ exec (.emptySlotArrival port false) s = .next t

/-- A message of this station's has joined the tail of a queue, the other queue being as in s (R10). -/
def joins (s t : State) (d : Dir) (seq : Nat) (b : Body) : Prop :=
  t.queue d = s.queue d ++ [newMsg s d seq b] ∧ t.queue (opp d) = s.queue (opp d)

/-- The held-over HOLDLOST that joins the queue of a direction when its head has left it and `rest` stays there (R12). -/
def heldJoins (s : State) (d : Dir) (rest : List Msg) : List Msg := if d = .east ∧ rest.length < 16 then s.lane.heldOver.take 1 else []

/-- The head of a direction's queue has left: `rest` stays, the oldest held-over HOLDLOST has taken the place that frees in the east queue and
has left its list, and the other queue is as in s (R12, R13). -/
def headLeft (s t : State) (d : Dir) (rest : List Msg) : Prop :=
  t.queue d = rest ++ heldJoins s d rest ∧ heldJoins s d rest ++ t.lane.heldOver = s.lane.heldOver ∧ t.queue (opp d) = s.queue (opp d)

/-- A message that a warm reset itself queues: a SWITCHREQ, a BRIDGE or the RECALL of this station (R202). -/
def warmMessage (s : State) (m : Msg) : Prop :=
  m.hdr.origin = s.self ∧ ((∃ k st on, m.body = .switchreq k st on) ∨ (∃ k on drops, m.body = .bridge k on drops) ∨ m.body = .recallReq)

/-! ### Local time -/

/-- The local time of t is that of s brought up to a deadline, and the running second has had those milliseconds too; synced and the seconds are
as in s (R24, R29). That a timer command brings the local time up to its deadline is the model's choice (log 2). -/
def timeCame (s t : State) (d : Nat) : Prop :=
  t.nowMs = max s.nowMs d ∧ t.clock.synced = s.clock.synced ∧ t.clock.seconds = s.clock.seconds
    ∧ t.clock.ran = s.clock.ran + (if clockRuns s then d - s.nowMs else 0)

/-! ### Lane frames -/

/-- A fill frame of a content: tag none, no payload, a correct check (R102). -/
def isFill (f : LaneFrame) (content : Byte) : Prop :=
  readTag f.tag = none ∧ f.content = content ∧ f.payload = [] ∧ checkFails f = false

/-- The six cases of R121 for an owner key: what each frame on a lane is judged. -/
def judgesBySix (k : Key) (keys : List Key) : Prop :=
  (∀ up, judge k keys up none = .fail) ∧ (∀ x, judge k keys false x = .fail) ∧ (∀ tag, judge k keys true (some (tag, .fail)) = .fail)
    ∧ ∀ content : Content, content ≠ .fail →
      (∀ g, g ≠ k → g ∈ keys → judge k keys true (some (some g, content)) = .bridged g)
      ∧ (∀ g, g ≠ k → g ∉ keys → judge k keys true (some (some g, content)) = .foreign g)
      ∧ judge k keys true (some (none, content)) = .noTag
      ∧ judge k keys true (some (some k, content)) = (if content = .noFeed then .noFeed else .clean)

/-! ### Second boundaries -/

/-- The six counts of a meter beside A: F, X, Z, B, P, G (Table 9-1). -/
def Meter.tally (m : Meter) : List Nat := [m.f, m.x, m.z, m.b, m.p, m.g]

/-- A meter n is m with one second more, counted under the heading that Table 9-2 gives for a selected-path record and m's latches (R159,
R161). -/
def countedAs (m n : Meter) (isExtra : Bool) (r : SecondRec) : Prop :=
  n.a = m.a + 1
    ∧ (isExtra = true → m.preLatch = some true → n.tally = [m.f, m.x + 1, m.z, m.b, m.p, m.g])
    ∧ (isExtra = false ∨ m.preLatch ≠ some true →
        (r.cond = .fail ∨ r.cond = .noTag ∨ (∃ g, r.cond = .foreign g) → n.tally = [m.f + 1, m.x, m.z, m.b, m.p, m.g])
        ∧ (∀ g, r.cond = .bridged g → isExtra = true → n.tally = [m.f, m.x + 1, m.z, m.b, m.p, m.g])
        ∧ (∀ g, r.cond = .bridged g → isExtra = false → n.tally = [m.f + 1, m.x, m.z, m.b, m.p, m.g])
        ∧ (r.cond = .noFeed → n.tally = [m.f, m.x, m.z + 1, m.b, m.p, m.g])
        ∧ (r.cond = .clean → n.tally = [m.f, m.x, m.z, m.b + 1, m.p + m.protLatch.toNat, m.g + r.overlay.toNat]))

/-- An Active drop's latches are at its selector and at its Preempted flag, as at the start of a second (R160). That it holds too
where one boundary both set and cleared the flag is the model's choice (log 23). -/
def latchesFollow (s : State) (e : Entry) (m : Meter) : Prop :=
  (∀ p, entryOut s e = some p → (m.protLatch = true ↔ (s.output p).selector = .protection))
    ∧ (∀ b, m.preLatch = some b → (b = true ↔ e.preempted = some true))

/-- Every other Held entry with the same start works on other lanes, or in the other direction, and delivers on another output, as the occupancy
test has it (R44, R46). -/
def startsApart (s : State) (i : Nat) (e : Entry) : Prop :=
  ∀ j f, j ≠ i → s.entry j = some f → f.state = .held → f.bk.winStart = e.bk.winStart →
    f.bk.first + f.bk.count ≤ Config.laneCount
    ∧ (f.bk.dir ≠ e.bk.dir ∨ f.bk.first + f.bk.count ≤ e.bk.first ∨ e.bk.first + e.bk.count ≤ f.bk.first)
    ∧ (outPort f.bk s.self = none ∨ outPort f.bk s.self ≠ outPort e.bk s.self)

/-- Nothing ends at a second: no Active entry has it as its end, and no WITHDRAW waits to be sent. -/
def nothingEnds (s : State) (second : Nat) : Prop :=
  ∀ i e, s.entry i = some e → e.marker = none ∧ (e.state = .active → e.bk.winEnd ≠ second)

/-- A watched lane monitor n after the boundary that found it as m: the runs and the overlay by the count of check-failed frames of the second,
as they stood after a second without a period, and the count from 0 again (R124). -/
def overlayTaken (threshold : Nat) (m n : LaneMon) : Prop :=
  n.checkFailed = 0
    ∧ (0 < m.periods → threshold ≤ m.checkFailed →
        n.degradeRun = min 3 (m.degradeRun + 1) ∧ n.clearRun = 0 ∧ n.overlay = (m.overlay || decide (2 ≤ m.degradeRun)))
    ∧ (0 < m.periods → m.checkFailed < threshold →
        n.degradeRun = 0 ∧ n.clearRun = min 10 (m.clearRun + 1) ∧ n.overlay = (m.overlay && decide (m.clearRun < 9)))
    ∧ (m.periods = 0 → n.degradeRun = m.degradeRun ∧ n.clearRun = m.clearRun ∧ n.overlay = m.overlay)

/-! ### Protection at a boundary -/

/-- The classes of the two path records (R138). -/
def classesByTable : Prop :=
  (∀ r : SecondRec, classOf r = if r.settle = true then .settling else if r.cond = .clean ∨ r.cond = .noFeed then .good else .failed)
    ∧ protClassOf none = .failed ∧ ∀ r, protClassOf (some r) = classOf r

/-- A drop in Bridging asks again at a boundary at which it stays: bridge flag Off, request announced On, no resend still waiting, below three
resends (R140). That a standing marker counts as a waiting resend, whatever set it, is the model's reading (log 38). -/
def bridgingAsks (e : Entry) (n : Nat) : Prop :=
  e.bridgeFlag ≠ some true ∧ e.request = some { announced := true, toSend := false } ∧ n < 3

/-- A drop in Protected or Forced asks again after a failed protection record: request announced On, below three resends (R142). -/
def failedAsks (e : Entry) (prot : PathClass) (n : Nat) : Prop :=
  prot = .failed ∧ (e.request.map Request.announced) = some true ∧ n < 3

/-- The protection part q of a drop after a boundary at local time ms that found it in p, by the classes of its working and its protection record,
row by row (R138), with the deadlines that R139 and R141 start, and n resends or one more (R140, R142). -/
def tableRow (cfg : Cfg) (ms : Nat) (e : Entry) (work prot : PathClass) (n : Nat) (p q : ProtPart) : Prop :=
  match p.state with
  | .working =>
    (work = .failed → 0 < cfg.holdOff → q = { state := .holdOff, holdOff := some (ms + cfg.holdOff * 100), restoreWait := none, resends := n })
      ∧ (work = .failed → cfg.holdOff = 0 →
          q = { state := if e.bridgeFlag = some true then .protecting else .bridging, holdOff := none, restoreWait := none, resends := 0 })
      ∧ (work ≠ .failed → q = { p with resends := n })
  | .holdOff =>
    (work = .good → q = { state := .working, holdOff := none, restoreWait := none, resends := n })
      ∧ (work ≠ .good → q = { p with resends := n })
  | .bridging =>
    (work = .good → q = { state := .working, holdOff := none, restoreWait := none, resends := n })
      ∧ (work ≠ .good → bridgingAsks e n → q = { p with resends := n + 1 })
      ∧ (work ≠ .good → ¬ bridgingAsks e n → q = { p with resends := n })
  | .protecting =>
    (work = .good → prot ≠ .failed →
        q = { state := .restoreWait, holdOff := none, restoreWait := some (ms + cfg.restoreWait * 60000), resends := n })
      ∧ (work = .good → prot = .failed → q = { state := .working, holdOff := none, restoreWait := none, resends := n })
      ∧ (work ≠ .good → failedAsks e prot n → q = { p with resends := n + 1 })
      ∧ (work ≠ .good → ¬ failedAsks e prot n → q = { p with resends := n })
  | .restoreWait =>
    (work = .failed → q = { state := .protecting, holdOff := none, restoreWait := none, resends := n })
      ∧ (work ≠ .failed → prot = .failed → q = { state := .working, holdOff := none, restoreWait := none, resends := n })
      ∧ (work ≠ .failed → prot ≠ .failed → q = { p with resends := n })
  | .forced =>
    (failedAsks e prot n → q = { p with resends := n + 1 })
      ∧ (¬ failedAsks e prot n → q = { p with resends := n })
  | .lockout => q = { p with resends := n }

/-- A drop's request has been sent again: a SWITCHREQ on stands in the queue, or the marker stands (R140, R142, R143). -/
def askedAgain (t : State) (i : Nat) (e : Entry) : Prop :=
  (t.entry i).bind Entry.request = some { announced := true, toSend := true }
    ∨ ((t.entry i).bind Entry.request = some { announced := true, toSend := false }
      ∧ ∃ m ∈ t.queue e.bk.dir, m.body = .switchreq e.key t.self true)

/-! ### Pre-emption -/

/-- A lane of a booking's group. -/
def inGroup (bk : Booking) (x : Nat) : Prop := bk.first ≤ x ∧ x < bk.first + bk.count

/-- The Active Extra entry f works, on the span that e's protection path leaves by, on a lane of e's group (R154). -/
def worksUnder (s : State) (e f : Entry) : Prop :=
  f.state = .active ∧ f.key ≠ e.key ∧ f.bk.dir = opp e.bk.dir ∧ f.bk.first + f.bk.count ≤ Config.laneCount
    ∧ ∃ x, inGroup e.bk x ∧ inGroup f.bk x ∧ ownedBy (s.cell f.bk.dir x).working f.key = true

/-- The step from s to t has written v to the selector of entry e's output by the owner's key: one that the entry owns takes it, one without sources
records it, and one of another owner stays as it was (R108). -/
def selectorWritten (s t : State) (e : Entry) (v : Selector) : Prop :=
  ∀ p, entryOut s e = some p →
    (outputOwner (s.output p) = some e.key → (t.output p).selector = v)
    ∧ (outputOwner (s.output p) = none → p < s.switch.outputs.length → (t.output p).selector = v)
    ∧ (∀ k, outputOwner (s.output p) = some k → k ≠ e.key → t.output p = s.output p)

/-- No protection layer stands on f's lanes. -/
def uncovered (s : State) (f : Entry) : Prop := ∀ x, inGroup f.bk x → (s.cell f.bk.dir x).protection = none

/-- Every protection layer on f's lanes is one that e has written there. -/
def coveredBy (s : State) (e f : Entry) : Prop :=
  ∀ x l, inGroup f.bk x → (s.cell f.bk.dir x).protection = some l → l.owner = e.key ∧ inGroup e.bk x

/-- The Preempted flag of the entry of index j has changed to `set`, with its PreemptState notice that names the layer's key; a set flag has set
the meter's latch (R154, R157, R160). -/
def preemptTold (t : State) (j : Nat) (f : Entry) (set : Bool) (layer : Key) : Prop :=
  (t.entry j).bind Entry.preempted = some set
    ∧ noticeAt t (sourceEntry j) = some (.preemptState f.key set layer)
    ∧ (set = true → ∀ m, f.meter = some m → m.preLatch ≠ none → ((t.entry j).bind Entry.meter).bind Meter.preLatch = some true)

/-! ### Match records -/

/-- Record y is record x with line l added, `left` lines pending after it, at a ring second (R182). -/
def lineAdded (x y : MatchRecord) (l : Line) (left now : Nat) : Prop :=
  y.matchId = x.matchId ∧ y.total = min 4294967295 (x.total + l.charge) ∧ y.contributions = min 65535 (x.contributions + 1) ∧ y.pending = left
    ∧ (x.lines.length < 8 → y.lines = x.lines ++ [l] ∧ y.folded = x.folded ∧ y.foldedCharge = x.foldedCharge)
    ∧ (8 ≤ x.lines.length → y.lines = x.lines ∧ y.folded = min 65535 (x.folded + 1)
        ∧ y.foldedCharge = min 4294967295 (x.foldedCharge + l.charge))
    ∧ (∀ bit, bit < 7 → y.flags.getLsbD bit = (x.flags.getLsbD bit || l.flags.getLsbD bit))
    ∧ (y.flags.getLsbD 7 = true ↔ x.flags.getLsbD 7 = true ∨ l.flags.getLsbD 7 = true ∨ 4294967295 < x.total + l.charge ∨ 65535 ≤ x.contributions)
    ∧ y.firstActivation = x.firstActivation ∧ y.lastCharge = some now

/-- The MatchFlag notice of record n: raised with the flags that are newly set and enabled, where there are any (R188). -/
def flagsTold (s t : State) (n : Nat) (x y : MatchRecord) (l : Line) : Prop :=
  (y.flags &&& ~~~ x.flags &&& s.cfg.billMask ≠ 0 →
      noticeAt t (sourceRecord n) = some (.matchFlag x.matchId (y.flags &&& ~~~ x.flags &&& s.cfg.billMask) y.flags y.total l.key))
    ∧ (y.flags &&& ~~~ x.flags &&& s.cfg.billMask = 0 → noticeAt t (sourceRecord n) = noticeAt s (sourceRecord n))

/-- The match binding of the entry of an index. -/
def bindingAt (t : State) (i : Nat) : Option Binding := ((t.entry i).bind Entry.meter).map Meter.binding

/-- The entry of index i has found a place for its line in record p, which holds x but for it: an Active or Closing entry is bound, with pending
raised and the first activation time lowered to its own; the line of a Charged one is added and the entry freed (R177, R179, R181, R182). -/
def placedIn (s t : State) (i : Nat) (f : Entry) (m : Meter) (p : Nat) (x : MatchRecord) : Prop :=
  (f.state = .active ∨ f.state = .closing →
      bindingAt t i = some (.bound p)
      ∧ t.record p = some { x with pending := x.pending + 1, firstActivation := min x.firstActivation (m.firstActive.getD 0) })
    ∧ (∀ l, f.state = .charged → m.charged = some l →
      t.entry i = none
      ∧ ∃ y, t.record p = some y ∧ y.state = .opened
        ∧ lineAdded { x with firstActivation := min x.firstActivation (m.firstActive.getD 0) } y l x.pending s.now
        ∧ flagsTold s t p x y l)

/-- The entry of index i stays unbound with a cause: the records are as they were, and MatchUnplaced is raised where the cause is new (R179 to
R181). -/
def leftUnbound (s t : State) (i : Nat) (f : Entry) (m : Meter) (cause : UnboundCause) : Prop :=
  bindingAt t i = some (.unbound cause) ∧ t.bill.records = s.bill.records
    ∧ (m.binding ≠ .unbound cause → noticeAt t (sourceEntry i) = some (.matchUnplaced f.key f.bk.matchId cause f.state))
    ∧ (m.binding = .unbound cause → noticeAt t (sourceEntry i) = noticeAt s (sourceEntry i))

/-- What a binding or a placement finds in the records of s for entry f with meter m, row by row, and what stands in t after it (R179, R181). -/
def placedByTable (s t : State) (i : Nat) (f : Entry) (m : Meter) : Prop :=
  (∀ p x, findRecord s f.bk.matchId = some p → s.record p = some x →
      (x.state = .opened → placedIn s t i f m p x) ∧ (x.state ≠ .opened → leftUnbound s t i f m .matchClosed))
    ∧ (findRecord s f.bk.matchId = none →
      (∀ p, firstFree s.bill.records = some p → placedIn s t i f m p {
          matchId := f.bk.matchId, state := .opened, total := 0, contributions := 0, pending := 0, flags := 0, lines := [], folded := 0,
          foldedCharge := 0, firstActivation := m.firstActive.getD 0, lastCharge := none })
      ∧ (firstFree s.bill.records = none → leftUnbound s t i f m .tableFull))

/-- No entry but that of index i waits, unbound, for the record of a match id (R181). -/
def onlyWaiting (s : State) (i matchId : Nat) : Prop :=
  ∀ j g, j ≠ i → s.entry j = some g → isUnplaced g = true → g.bk.matchId ≠ matchId

/-! ### Occupancy -/

/-- What a booking uses at a station: its roles there, its lanes and ports, over the seconds lo to hi − 1 (R43, R44). -/
structure Use where
  roles : List Role
  bk    : Booking
  lo    : Nat
  hi    : Nat
  deriving DecidableEq, Repr

/-- A use covers second v. -/
def Use.covers (u : Use) (v : Nat) : Prop := u.lo ≤ v ∧ v < u.hi

/-- A use has a working reservation of a span-lane at a second (R43). -/
def Use.works (u : Use) (d : Dir) (x v : Nat) : Prop := hasWorkSpan u.roles = true ∧ d = u.bk.dir ∧ inGroup u.bk x ∧ u.covers v

/-- A use has a protection reservation of a span-lane at a second (R43). -/
def Use.protects (u : Use) (d : Dir) (x v : Nat) : Prop := hasProtSpan u.roles = true ∧ d = opp u.bk.dir ∧ inGroup u.bk x ∧ u.covers v

/-- A use delivers on an output port of station n (R44). -/
def Use.delivers (u : Use) (n p : Nat) : Prop := (hasDropRole u.roles = true ∨ hasProtDrop u.roles = true) ∧ outPort u.bk n = some p

/-- Two uses conflict on a span-lane at a second: two working, two protection, or working of another class than Extra with protection (Table
3-5). -/
def laneClash (a b : Use) : Prop :=
  ∃ d x v, (a.works d x v ∧ b.works d x v) ∨ (a.protects d x v ∧ b.protects d x v)
    ∨ (a.works d x v ∧ a.bk.cls ≠ .extra ∧ b.protects d x v) ∨ (a.protects d x v ∧ b.works d x v ∧ b.bk.cls ≠ .extra)

/-- Two uses have an input port or an output port in common at a second (R44, R45). -/
def portClash (n : Nat) (a b : Use) : Prop :=
  ∃ v, a.covers v ∧ b.covers v ∧ ((Role.origin ∈ a.roles ∧ Role.origin ∈ b.roles ∧ a.bk.input = b.bk.input)
    ∨ ∃ p, a.delivers n p ∧ b.delivers n p)

/-- An entry's use over its window, and that of its pending extension part. -/
def windowUse (e : Entry) : Use := { roles := e.roles, bk := e.bk, lo := e.bk.winStart, hi := e.bk.winEnd }
def extensionUse (e : Entry) (x : ExtPart) : Use := { roles := e.roles, bk := e.bk, lo := x.oldEnd, hi := x.newEnd }

/-- The entry is Held or Active. -/
def standsFast (e : Entry) : Prop := e.state = .held ∨ e.state = .active

/-- The entry of index i, whose key is not the one skipped, has a property. -/
def metAt (s : State) (skip : Option Key) (P : Entry → Prop) (i : Nat) : Prop :=
  i < Config.entryCount ∧ ∃ e, s.entry i = some e ∧ skip ≠ some e.key ∧ P e

/-- The first index at which a property holds. -/
def firstAt (P : Nat → Prop) (i : Nat) : Prop := P i ∧ ∀ j, j < i → ¬ P j

/-- The conflicts that give LaneBusy and PortBusy (R46). -/
def givesLaneBusy (u : Use) (e : Entry) : Prop := standsFast e ∧ laneClash (windowUse e) u
def givesPortBusy (n : Nat) (u : Use) (e : Entry) : Prop := standsFast e ∧ portClash n (windowUse e) u

/-- The conflicts that give Contested: with a Tentative entry, with a pending extension part, or an entry with the candidate's key (R46). -/
def givesContested (n : Nat) (key : Option Key) (u : Use) (e : Entry) : Prop :=
  (e.state = .tentative ∧ (laneClash (windowUse e) u ∨ portClash n (windowUse e) u))
    ∨ (standsFast e ∧ ∃ x, e.ext = some x ∧ (laneClash (extensionUse e x) u ∨ portClash n (extensionUse e x) u))
    ∨ key = some e.key

/-- A result of the occupancy test by the precedence of R46: LaneBusy, PortBusy, Contested, TableFull, Pass. -/
def judgedByPrecedence (s : State) (skip key : Option Key) (u : Use) (needsPlace : Bool) (r : TestResult) : Prop :=
  (∀ i, firstAt (metAt s skip (givesLaneBusy u)) i → r = .fails .laneBusy (some i))
    ∧ ((∀ i, ¬ metAt s skip (givesLaneBusy u) i) →
      (∀ i, firstAt (metAt s skip (givesPortBusy s.self u)) i → r = .fails .portBusy (some i))
      ∧ ((∀ i, ¬ metAt s skip (givesPortBusy s.self u) i) →
        (∀ i, firstAt (metAt s skip (givesContested s.self key u)) i → r = .fails .contested (some i))
        ∧ ((∀ i, ¬ metAt s skip (givesContested s.self key u) i) →
          r = if needsPlace = true ∧ firstFree s.entries = none then .fails .tableFull none else .pass)))

/-! ### Laws -/

/-- The notice queue's law: at most one notice per source (R196). -/
def noticeLaw (s : State) : Prop := (s.site.notices.map Notice.source).Nodup

/-- Three parts of the meter's law, of one meter: A = F + X + Z + B, P within B, G within B (R162). The fourth, A at most the entry's current
end minus its start, is not among them. -/
def Meter.lawful (m : Meter) : Prop := m.a = m.f + m.x + m.z + m.b ∧ m.p ≤ m.b ∧ m.g ≤ m.b

/-- Every meter keeps those three parts of the meter's law (R162). -/
def meterLaw (s : State) : Prop := ∀ (i : Nat) (e : Entry) (m : Meter), s.entry i = some e → e.meter = some m → m.lawful

/-- The entry of an index is in Closing. -/
def closingAt (s : State) (i : Nat) : Prop := ∃ e, s.entry i = some e ∧ e.state = .closing

/-- The close queue's law: each index at most once, only indexes of entries in Closing (R165); the entry in the charge unit's hands is in Closing and
not in the queue (R167). -/
def closeQueueLaw (s : State) : Prop :=
  s.bill.closeQueue.Nodup ∧ (∀ i ∈ s.bill.closeQueue, closingAt s i)
    ∧ (∀ i, s.bill.charge = some i → closingAt s i ∧ i ∉ s.bill.closeQueue)

/-- The calendar's law of identity: no two entries with one booking key (R47), in a calendar of 64 places (R34). -/
def identityLaw (s : State) : Prop :=
  s.entries.length = Config.entryCount
    ∧ ∀ (i j : Nat) (e f : Entry), s.entry i = some e → s.entry j = some f → e.key = f.key → i = j

/-- The ring clock's law: Unsynced it stands at 0 with its MARK timer stopped, at its limit the fraction is 0, and the fraction is below 1,000
(R23, R24, R30). The local milliseconds beyond the 999th, which the model counts apart, are there only with a full fraction (log 2). -/
def clockLaw (s : State) : Prop :=
  (s.clock.synced = false → s.clock.seconds = 0 ∧ s.clock.fraction = 0 ∧ s.clock.markDeadline = none)
    ∧ (s.clock.synced = false ∨ 4294967295 ≤ s.clock.seconds → s.clock.fraction = 0 ∧ s.clock.late = 0)
    ∧ s.clock.fraction < 1000 ∧ (0 < s.clock.late → s.clock.fraction = 999)

/-- The bridged-key set's law: at most 32 keys, none twice, each the key of an entry of this station (R150). -/
def bridgedLaw (s : State) : Prop :=
  s.bridged.keys.Nodup ∧ s.bridged.keys.length ≤ 32 ∧ ∀ k ∈ s.bridged.keys, (lookup s k).isSome

end Sys2Proof.Machine
end

