-- ==== Sys2Proof/Certificates/Slice0/Obligations.lean ====
section
/-! DEFINITION. The statements for the provers. -/

open Sys2Proof Sys2Proof.Machine

/-! ### The step, resets, laws -/

/-- A step takes the command at the front of the queue and runs it with the queue's rest. -/
def Obligations.StepRunsFrontCommand : Prop :=
  ∀ (c : Instr) (rest : List Instr) (s : State), step { s with pending := c :: rest } = exec c { s with pending := rest }

/-- What reset leaves (R7, R10, R12, R20, R23, R34, R53 to R55, R85, R98, R105, R119, R134, R150, R165, R167, R177, R189, R193, R196, R199), and
COLD_RESET comes back to it. That the pins, the local time, the count of free values and the command queue stay is the model's choice
(log 10). -/
def Obligations.ResetIsCold : Prop :=
  State.reset.phase = .inReset
  ∧ State.reset.clock = { synced := false, seconds := 0, fraction := 0, late := 0, markDeadline := none }
  ∧ (State.reset.lane.qEast = [] ∧ State.reset.lane.qWest = [] ∧ State.reset.lane.heldOver = [] ∧ State.reset.lane.counter = 0
    ∧ State.reset.lane.lastServed = .west)
  ∧ (∀ i, State.reset.entry i = none)
  ∧ (∀ n, State.reset.slot n = none) ∧ State.reset.claims.seqCounter = 0 ∧ State.reset.claims.recent = []
  ∧ (State.reset.recov.state = .awaitingSync ∧ State.reset.recov.kind = .cold ∧ State.reset.recov.sends = 0
    ∧ State.reset.recov.lastSeq = none ∧ State.reset.recov.returned = false ∧ State.reset.recov.resend = none
    ∧ State.reset.recov.quiet = none ∧ State.reset.recov.limit = none ∧ State.reset.recov.pendingSet = 0
    ∧ State.reset.recov.walk = none)
  ∧ (∀ d lane, State.reset.cell d lane = { standing := .through, working := none, protection := none })
  ∧ (∀ p, (State.reset.output p).working = none ∧ (State.reset.output p).protection = none ∧ (State.reset.output p).selector = .working)
  ∧ (∀ port lane, (State.reset.mon port lane).working = none ∧ (State.reset.mon port lane).protection = none
    ∧ (State.reset.mon port lane).displaced = none ∧ (State.reset.mon port lane).checkFailed = 0
    ∧ (State.reset.mon port lane).overlay = false ∧ (State.reset.mon port lane).last = none)
  ∧ (∀ side, State.reset.span side = { up := false, confirm := none })
  ∧ State.reset.bridged = { keys := [], overflow := 0 }
  ∧ State.reset.bill.closeQueue = [] ∧ State.reset.bill.charge = none ∧ State.reset.bill.query = none
  ∧ (∀ r, State.reset.record r = none)
  ∧ (State.reset.site.rx = .off ∧ State.reset.site.reply = none ∧ State.reset.site.shorts = [] ∧ State.reset.site.discards = 0
    ∧ State.reset.site.notices = [])
  ∧ ∀ s : State, exec .coldReset s = .next { State.reset with
      pins := s.pins, nowMs := s.nowMs, freeCount := s.freeCount, pending := s.pending }

/-- The laws hold right after reset. -/
def Obligations.ResetMeetsLaws : Prop :=
  noticeLaw State.reset ∧ meterLaw State.reset ∧ closeQueueLaw State.reset ∧ identityLaw State.reset ∧ clockLaw State.reset
    ∧ bridgedLaw State.reset

/-- No command touches the queue of waiting commands. -/
def Obligations.ExecKeepsQueue : Prop := ∀ (c : Instr) (s t : State), exec c s = .next t → t.pending = s.pending

/-- Nothing after the configuration load reaches the part's copy of it, and start-up moves one way until the next cold reset (R199, R201). -/
def Obligations.ConfigurationFixed : Prop :=
  ∀ (c : Instr) (s t : State), exec c s = .next t → c ≠ .coldReset → s.phase ≠ .loading →
    t.cfg = s.cfg ∧ (t.phase = s.phase ∨ (s.phase = .inReset ∧ t.phase = .loading))

/-- The notice queue's law is kept by every step (R196). -/
def Obligations.NoticeLawKept : Prop := ∀ s t : State, noticeLaw s → step s = .next t → noticeLaw t

/-- Three parts of the meter's law are kept by every step: A = F + X + Z + B, P within B, G within B (R159, R161, R162). That A is at most the current end minus the
start is not stated here. -/
def Obligations.MeterLawKept : Prop := ∀ s t : State, meterLaw s → step s = .next t → meterLaw t

/-- The close queue's law is kept by every step (R165), in a calendar that keeps its law of identity. -/
def Obligations.CloseQueueLawKept : Prop :=
  ∀ s t : State, identityLaw s → closeQueueLaw s → step s = .next t → closeQueueLaw t

/-- The calendar's law of identity is kept by every step (R47). -/
def Obligations.IdentityLawKept : Prop := ∀ s t : State, identityLaw s → step s = .next t → identityLaw t

/-- The ring clock's law is kept by every step (R23, R24, R30); its clause on the milliseconds of a waiting boundary is the model's (log 2). -/
def Obligations.ClockLawKept : Prop := ∀ s t : State, clockLaw s → step s = .next t → clockLaw t

/-- The bridged-key set's law is kept by every step (R150), in a calendar that keeps its law of identity. -/
def Obligations.BridgedLawKept : Prop := ∀ s t : State, identityLaw s → bridgedLaw s → step s = .next t → bridgedLaw t

/-- Ring seconds never decrease, and a Synced clock stays Synced, but through a cold reset (R23, R24). -/
def Obligations.RingSecondsNeverDecrease : Prop :=
  ∀ (c : Instr) (s t : State), clockLaw s → exec c s = .next t → c ≠ .coldReset →
    s.clock.seconds ≤ t.clock.seconds ∧ (s.clock.synced = true → t.clock.synced = true)

/-! ### Layouts -/

/-- A CLAIM read back from its bytes is the CLAIM, for every well-formed header and body: each field at every value that the manual gives it (Table 11-6). -/
def Obligations.ClaimRoundTrip : Prop :=
  ∀ (h : Header) (b : ClaimBody), h.wf = true → b.wf = true →
    (encodeClaim h b).length = 43 ∧ decodeClaim (encodeClaim h b) = some (h, b)

/-- A Book request's 24 parameter bytes give back the booking that they spell, for every booking that passes R57 (Table 11-8). -/
def Obligations.BookParamsRoundTrip : Prop :=
  ∀ (n origin : Nat) (b : Booking), b.wf = true → bookingOk n origin b = true →
    (bookBytes b).length = 24 ∧ bookParams n origin (bookBytes b) = some b

/-- The receiver finds the body of a frame behind any bytes that are no start byte, and a frame with another check is bad. The frame of every request spells
its command, with the host tag, the request code and the parameters from byte 6; the frame of any other body spells UNKNOWN_REQUEST (R192, Table 11-5). -/
def Obligations.SiteFrameRoundTrip : Prop :=
  (∀ (noise : List Byte) (c : Instr) (tag code : Byte) (params : List Byte), (0x7E#8 : Byte) ∉ noise →
    requestOf c = some (tag, code, params) → params.length ≤ 2045 →
    readFrame (noise ++ siteFrame (0x01#8 :: tag :: code :: params)) = some c)
  ∧ (∀ (noise : List Byte) (bodyType tag code : Byte) (rest : List Byte), (0x7E#8 : Byte) ∉ noise → rest.length ≤ 2045 →
    bodyType ≠ 0x01#8 ∨ code.toNat < 0x10 ∨ 0x1D < code.toNat →
    readFrame (noise ++ siteFrame (bodyType :: tag :: code :: rest)) = some (.unknownRequest bodyType tag code))
  ∧ ∀ (noise body : List Byte), (0x7E#8 : Byte) ∉ noise → 3 ≤ body.length → body.length ≤ 2048 →
    receive (noise ++ siteFrame body) = .body body
    ∧ ∀ check : Half, check ≠ crc16 (bytes2 body.length ++ body) →
      receive (noise ++ 0x7E#8 :: (bytes2 body.length ++ body ++ bytes2 check.toNat)) = .bad

/-! ### Site requests -/

/-- A request that meets a full reply place, or a Restart under way, is answered Busy through the short-reply list of four, or discarded and
counted; nothing else changes (R193). That it is answered so before its parameters are checked is the model's reading (log 20). -/
def Obligations.OccupiedPortBusy : Prop :=
  ∀ (c : Instr) (s : State) (tag code : Byte) (params : List Byte), requestOf c = some (tag, code, params) → s.site.rx ≠ .off →
    (s.site.reply ≠ none ∨ s.site.restart ≠ .none) →
    (s.site.shorts.length < 4 → exec c s = .next { s with site := { s.site with
        shorts := s.site.shorts ++ [{ tag := tag, code := code, status := .busy, data := .none }] } })
    ∧ (4 ≤ s.site.shorts.length → exec c s = .next { s with site := { s.site with discards := min 255 (s.site.discards + 1) } })

/-- A request whose parameters have the wrong count is answered BadRequest before any other check, and in bypass every request but ReadMonitor is
answered NotConfigured after it; nothing else changes (R194, Table 11-8). -/
def Obligations.EarlyRefusals : Prop :=
  (∀ n, lengthOk codeBook n = (n == 24) ∧ lengthOk codeWithdraw n = (n == 3 || n == 7) ∧ lengthOk codeExtend n = (n == 7)
    ∧ lengthOk codeSetClock n = (n == 4) ∧ lengthOk codeForce n = (n == 3) ∧ lengthOk codeLockout n = (n == 3)
    ∧ lengthOk codeClearSwitch n = (n == 3) ∧ lengthOk codeReadEntry n = (n == 1 || n == 3) ∧ lengthOk codeReadMonitor n = (n == 0)
    ∧ lengthOk codeReadMatch n = (n == 3) ∧ lengthOk codeCloseMatch n = (n == 3) ∧ lengthOk codeTakeStatement n = (n == 3)
    ∧ lengthOk codeRemoteRead n = (n == 4) ∧ lengthOk codeRestart n = (n == 0))
  ∧ ∀ (c : Instr) (s : State) (tag code : Byte) (params : List Byte), requestOf c = some (tag, code, params) → portFree s →
    (lengthOk code params.length = false → exec c s = .next (onlyReply s tag code .badRequest .none))
    ∧ (lengthOk code params.length = true → code ≠ codeReadMonitor → (∃ cause, s.phase = .bypass cause) →
        exec c s = .next (onlyReply s tag code .notConfigured .none))

/-- A Book that passes every check takes a sequence, a Tentative entry without lifetime in the lowest free place, the lowest free claim slot in Awaiting
return, queues its CLAIM, and is answered Accepted with the key (R58, R59). -/
def Obligations.BookTakesBooking : Prop :=
  ∀ (s : State) (tag : Byte) (params : List Byte) (b : Booking) (n i : Nat), portReady s → params.length = 24 →
    bookParams s.ring s.self params = some b → s.clock.synced = true → s.recov.state ≠ .recovering → windowOk s.now b = true →
    firstFree s.claims.slots = some n → firstFree s.entries = some i →
    testNew s none (newCandidate s (nextKey s) b) = .pass → canJoinSite s b.dir = true →
    ∃ t, exec (.book tag params) s = .next t
      ∧ t.entries = s.entries.set i (some (freshEntry (nextKey s) b (rolesOf s.ring (nextKey s) b s.self) .tentative none false))
      ∧ t.claims = { s.claims with
          seqCounter := ((nextKey s).seq + 1) % 65536,
          slots := s.claims.slots.set n (some {
            state := .awaiting (s.nowMs + 500), mode := .new, key := nextKey s,
            firstKey := nextKey s, req := b, oldEnd := b.winEnd, attempt := 1 }) }
      ∧ joins s t b.dir (nextKey s).seq (.claim { mode := .new, bk := b, verdict := .clear, assessed := stationBit s.self })
      ∧ t.lane.counter = s.lane.counter ∧ t.site.notices = s.site.notices
      ∧ repliesWith s t tag codeBook .accepted (.key (nextKey s))
      ∧ changesOnly [.lane, .entries, .claims, .site] s t

/-- A Book that fails a check is answered as R57 and R58 order the checks, and changes nothing but the reply place. -/
def Obligations.BookTurnedDown : Prop :=
  ∀ (s : State) (tag : Byte) (params : List Byte), portReady s → params.length = 24 →
    (bookParams s.ring s.self params = none → exec (.book tag params) s = .next (onlyReply s tag codeBook .badRequest .none))
    ∧ ∀ b : Booking, bookParams s.ring s.self params = some b →
      (s.clock.synced = false → exec (.book tag params) s = .next (onlyReply s tag codeBook .notSynced .none))
      ∧ (s.clock.synced = true → s.recov.state = .recovering →
          exec (.book tag params) s = .next (onlyReply s tag codeBook .recovering .none))
      ∧ (s.clock.synced = true → s.recov.state ≠ .recovering →
          ¬ (s.now + 10 ≤ b.winStart ∧ b.winStart ≤ s.now + 1209600 ∧ b.winStart + 60 ≤ b.winEnd ∧ b.winEnd ≤ b.winStart + 28800) →
          exec (.book tag params) s = .next (onlyReply s tag codeBook (.refused .badWindow) .none))
      ∧ (s.clock.synced = true → s.recov.state ≠ .recovering → windowOk s.now b = true → firstFree s.claims.slots = none →
          exec (.book tag params) s = .next (onlyReply s tag codeBook .busy .none))
      ∧ (∀ n r first, s.clock.synced = true → s.recov.state ≠ .recovering → windowOk s.now b = true →
          firstFree s.claims.slots = some n → testNew s none (newCandidate s (nextKey s) b) = .fails r first →
          exec (.book tag params) s = .next (onlyReply s tag codeBook (.refused r) .none))
      ∧ (∀ n, s.clock.synced = true → s.recov.state ≠ .recovering → windowOk s.now b = true →
          firstFree s.claims.slots = some n → testNew s none (newCandidate s (nextKey s) b) = .pass → canJoinSite s b.dir = false →
          exec (.book tag params) s = .next (onlyReply s tag codeBook .busy .none))

/-- A Withdraw of this station's own booking joins its WITHDRAW and applies the end in the same step: a Held entry is trimmed, or freed at or before its
start, with EntryWithdrawn at a drop and at the origin; without an end an Active origin entry ends now (R79, R80, R113). That the end is written at this station as it is sent is the model's reading (log 22). -/
def Obligations.WithdrawLowersEnd : Prop :=
  ∀ (s : State) (tag : Byte) (params : List Byte) (i : Nat) (e : Entry), portReady s → findEntry s (keyAt params 0) = some (i, e) →
    e.key.origin = s.self → slotHolds s e.key = false → e.marker = none → e.ext = none → canJoinSite s e.bk.dir = true →
    (params.length = 7 → e.state = .held → fieldAt params 3 4 < e.bk.winEnd →
      ∃ t, exec (.withdraw tag params) s = .next t
        ∧ joins s t e.bk.dir e.key.seq (.withdraw (fieldAt params 3 4))
        ∧ repliesWith s t tag codeWithdraw .done .none
        ∧ (e.bk.winStart < fieldAt params 3 4 →
            t.entry i = some { e with bk := { e.bk with winEnd := fieldAt params 3 4 } }
            ∧ (reportsWithdraw e = true → noticeAt t (sourceEntry i) = some (.entryWithdrawn e.key (fieldAt params 3 4) .trimmed)))
        ∧ (fieldAt params 3 4 ≤ e.bk.winStart →
            t.entry i = none
            ∧ (reportsWithdraw e = true → noticeAt t (sourceEntry i) = some (.entryWithdrawn e.key (fieldAt params 3 4) .freed)))
        ∧ (reportsWithdraw e = false → t.site.notices = s.site.notices)
        ∧ (∀ j, j ≠ i → t.entry j = s.entry j)
        ∧ changesOnly [.lane, .entries, .bridged, .site] s t)
    ∧ (params.length = 3 → e.state = .active → e.meter = none →
      ∃ t, exec (.withdraw tag params) s = .next t
        ∧ (∃ rest, t.queue e.bk.dir = s.queue e.bk.dir ++ newMsg s e.bk.dir e.key.seq (.withdraw s.now) :: rest)
        ∧ repliesWith s t tag codeWithdraw .done .none
        ∧ t.entry i = none
        ∧ changesOnly [.lane, .entries, .switch, .mons, .bridged, .site] s t)

/-- An Extend that passes every check adds an extension part without lifetime, fills the lowest free claim slot, queues a CLAIM in mode Extend, and is
answered Accepted with the key (R77). -/
def Obligations.ExtendTakesExtension : Prop :=
  ∀ (s : State) (tag : Byte) (params : List Byte) (i n : Nat) (e : Entry), portReady s → params.length = 7 →
    findEntry s (keyAt params 0) = some (i, e) → e.key.origin = s.self → (e.state = .held ∨ e.state = .active) →
    s.recov.state ≠ .recovering → slotHolds s e.key = false → e.marker = none → e.bk.winEnd < fieldAt params 3 4 →
    fieldAt params 3 4 ≤ e.bk.winStart + 28800 → firstFree s.claims.slots = some n →
    testExtend s e.key (extendCandidate s e (fieldAt params 3 4)) = .pass → canJoinSite s e.bk.dir = true →
    ∃ t, exec (.extend tag params) s = .next t
      ∧ t.entries = s.entries.set i (some { e with
          ext := some { oldEnd := e.bk.winEnd, newEnd := fieldAt params 3 4, lifetime := none } })
      ∧ t.claims = { s.claims with slots := s.claims.slots.set n (some {
          state := .awaiting (s.nowMs + 500), mode := .extend,
          key := e.key, firstKey := e.key, req := { e.bk with winEnd := fieldAt params 3 4 }, oldEnd := e.bk.winEnd, attempt := 1 }) }
      ∧ joins s t e.bk.dir e.key.seq (.claim {
          mode := .extend, bk := { e.bk with winEnd := fieldAt params 3 4 }, verdict := .clear,
          assessed := stationBit s.self })
      ∧ t.site.notices = s.site.notices
      ∧ repliesWith s t tag codeExtend .accepted (.key e.key)
      ∧ changesOnly [.lane, .entries, .claims, .site] s t

/-- SetClock on an Unsynced clock: the value, fraction 0, Synced, the MARK timer started, ClockSynced raised, recall begun, no boundary delivered; on a
Synced clock WrongState (R25, R31, R86). -/
def Obligations.SetClockSyncs : Prop :=
  ∀ (s : State) (tag : Byte) (params : List Byte), portReady s → params.length = 4 →
    (s.clock.synced = false →
      ∃ t, exec (.setClock tag params) s = .next t
        ∧ t.clock = { synced := true, seconds := fieldAt params 0 4, fraction := 0, late := 0, markDeadline := some (s.nowMs + 10000) }
        ∧ noticeAt t sourceClock = some (.clockSynced (fieldAt params 0 4) .setClock)
        ∧ repliesWith s t tag codeSetClock .done .none
        ∧ (s.recov.state = .awaitingSync → t.recov.state = .recovering ∧ t.recov.sends = 1 ∧ t.recov.returned = false
            ∧ t.recov.resend = some (s.nowMs + 500) ∧ t.recov.limit = some (s.nowMs + 10000))
        ∧ changesOnly [.clock, .lane, .recov, .mons, .site] s t)
    ∧ (s.clock.synced = true → exec (.setClock tag params) s = .next (onlyReply s tag codeSetClock .wrongState .none))

/-- Force and Lockout of an Active drop (R146, R147): the state, both deadlines gone, resend count 0, the selector write addressed to the drop's output, which an
output of another owner does not take (R108), the meter's protection latch set where it moves the drop's own selector to Protection (R160), the request
record following with its SWITCHREQ, ProtectionState raised, Done; and the states in which they change nothing. That a marker which already stands waits for the next second boundary is the model's reading (log 38). -/
def Obligations.ForceAndLockoutMoveDrop : Prop :=
  ∀ (s : State) (tag : Byte) (params : List Byte) (i : Nat) (e : Entry) (p : ProtPart), portReady s → params.length = 3 →
    findEntry s (keyAt params 0) = some (i, e) → e.state = .active → e.prot = some p →
    (p.state ≠ .forced → p.state ≠ .lockout →
      ∃ t, exec (.force tag params) s = .next t
        ∧ (t.entry i).bind Entry.prot = some { state := .forced, holdOff := none, restoreWait := none, resends := 0 }
        ∧ selectorWritten s t e .protection
        ∧ (∀ q m, entryOut s e = some q → outputOwner (s.output q) = some e.key → (s.output q).selector = .working → e.meter = some m →
            ((t.entry i).bind Entry.meter).map Meter.protLatch = some true)
        ∧ (∀ r, e.request = some r → r.announced = false → p.state.wants = false → canJoinProt s e.bk.dir = true →
            joins s t e.bk.dir e.key.seq (.switchreq e.key s.self true)
            ∧ (t.entry i).bind Entry.request = some { announced := true, toSend := false })
        ∧ (∀ r, e.request = some r → (r.announced = true ∨ p.state.wants = true) → queuesKept s t)
        ∧ noticeAt t (sourceEntry i) = some (.protectionState e.key p.state .forced .force .protection s.now)
        ∧ repliesWith s t tag codeForce .done .none
        ∧ (∀ j, j ≠ i → t.entry j = s.entry j)
        ∧ changesOnly [.lane, .entries, .switch, .site] s t)
    ∧ (p.state = .forced → exec (.force tag params) s = .next (onlyReply s tag codeForce .done .none))
    ∧ (p.state = .lockout → exec (.force tag params) s = .next (onlyReply s tag codeForce .lockedOut .none))
    ∧ (p.state ≠ .lockout →
      ∃ t, exec (.lockout tag params) s = .next t
        ∧ (t.entry i).bind Entry.prot = some { state := .lockout, holdOff := none, restoreWait := none, resends := 0 }
        ∧ selectorWritten s t e .working
        ∧ (∀ r, e.request = some r → r.announced = true → p.state.wants = true → canJoinProt s e.bk.dir = true →
            joins s t e.bk.dir e.key.seq (.switchreq e.key s.self false)
            ∧ (t.entry i).bind Entry.request = some { announced := false, toSend := false })
        ∧ (∀ r, e.request = some r → (r.announced = false ∨ p.state.wants = false) → queuesKept s t)
        ∧ noticeAt t (sourceEntry i) = some (.protectionState e.key p.state .lockout .lockout .working s.now)
        ∧ repliesWith s t tag codeLockout .done .none
        ∧ (∀ j, j ≠ i → t.entry j = s.entry j)
        ∧ changesOnly [.lane, .entries, .switch, .site] s t)
    ∧ (p.state = .lockout → exec (.lockout tag params) s = .next (onlyReply s tag codeLockout .done .none))

/-- ClearSwitch places a Forced or Lockout drop by the class of its most recent closed working record and is answered Done; an automatic state answers
WrongState (R148). That the resend count stays is the model's reading (log 26). -/
def Obligations.ClearSwitchReturnsDrop : Prop :=
  ∀ (s : State) (tag : Byte) (params : List Byte) (i : Nat) (e : Entry) (p : ProtPart), portReady s → params.length = 3 →
    findEntry s (keyAt params 0) = some (i, e) → e.state = .active → e.prot = some p →
    ((p.state = .forced ∨ p.state = .lockout) →
      ∃ t q, exec (.clearSwitch tag params) s = .next t
        ∧ (t.entry i).bind Entry.prot = some q
        ∧ (p.state = .forced → lastWorkClass e = .failed → q.state = .protecting ∧ q.restoreWait = none ∧ q.resends = p.resends)
        ∧ (p.state = .forced → lastWorkClass e ≠ .failed →
            q.state = .restoreWait ∧ q.restoreWait = some (s.nowMs + s.cfg.restoreWait * 60000) ∧ q.resends = p.resends)
        ∧ (p.state = .lockout → lastWorkClass e = .failed → 0 < s.cfg.holdOff →
            q.state = .holdOff ∧ q.holdOff = some (s.nowMs + s.cfg.holdOff * 100) ∧ q.resends = p.resends)
        ∧ (p.state = .lockout → lastWorkClass e ≠ .failed → q.state = .working ∧ q.holdOff = none ∧ q.resends = p.resends)
        ∧ repliesWith s t tag codeClearSwitch .done .none
        ∧ (∀ j, j ≠ i → t.entry j = s.entry j)
        ∧ changesOnly [.lane, .entries, .switch, .site] s t)
    ∧ (p.state ≠ .forced → p.state ≠ .lockout →
        exec (.clearSwitch tag params) s = .next (onlyReply s tag codeClearSwitch .wrongState .none))

/-- ReadEntry by index and by key, and ReadMonitor, answer with a copy taken at the moment and change nothing but the reply place; the entry view shows the input
port at the origin alone (R35, R52, R195). That it shows the path records in every state of the entry is the model's choice (log 41). -/
def Obligations.ReadsCopy : Prop :=
  (∀ (s : State) (tag x : Byte), portReady s →
    (63 < x.toNat → exec (.readEntry tag [x]) s = .next (onlyReply s tag codeReadEntry .badRequest .none))
    ∧ (x.toNat ≤ 63 → s.entry x.toNat = none → exec (.readEntry tag [x]) s = .next (onlyReply s tag codeReadEntry .done .freeSlot))
    ∧ (∀ e, x.toNat ≤ 63 → s.entry x.toNat = some e →
        exec (.readEntry tag [x]) s = .next (onlyReply s tag codeReadEntry .done (.entry (viewEntry s x.toNat e)))
        ∧ (viewEntry s x.toNat e).index = x.toNat
        ∧ (viewEntry s x.toNat e).base = {
            key := e.key, matchId := e.bk.matchId, rateClass := e.bk.rateClass, cls := e.bk.cls, isProtected := e.bk.isProtected,
            dir := e.bk.dir, first := e.bk.first, count := e.bk.count, winStart := e.bk.winStart, winEnd := e.bk.winEnd,
            input := if e.roles.contains .origin then some e.bk.input else none, drops := e.bk.drops, roles := e.roles, state := e.state,
            lifetime := e.lifetime, installed := e.installed }
        ∧ (viewEntry s x.toNat e).parts = {
            meter := e.meter, prot := e.prot, request := e.request, bridgeFlag := e.bridgeFlag, bridge := e.bridge, ext := e.ext,
            preempted := e.preempted, preExtEnd := e.preExtEnd, marker := e.marker, paths := e.paths }))
  ∧ (∀ (s : State) (tag : Byte) (params : List Byte), portReady s → params.length = 3 →
    (findEntry s (keyAt params 0) = none → exec (.readEntry tag params) s = .next (onlyReply s tag codeReadEntry .notFound .none))
    ∧ (∀ i e, findEntry s (keyAt params 0) = some (i, e) →
        exec (.readEntry tag params) s = .next (onlyReply s tag codeReadEntry .done (.entry (viewEntry s i e)))))
  ∧ (∀ (s : State) (tag : Byte), portFree s →
    exec (.readMonitor tag []) s = .next (onlyReply s tag codeReadMonitor .done (.station (viewStation s)))
    ∧ (viewStation s).cfg = s.cfg ∧ (viewStation s).phase = s.phase ∧ (viewStation s).seconds = s.clock.seconds
    ∧ (viewStation s).lanes = s.mons.lanes ∧ (viewStation s).bridged = s.bridged ∧ (viewStation s).closeQueue = s.bill.closeQueue
    ∧ (viewStation s).notices = s.site.notices.length ∧ (viewStation s).discards = s.site.discards)

/-- ReadMatch answers Done with a copy of the record in any state and its number, and changes no state (R186). -/
def Obligations.ReadMatchCopies : Prop :=
  ∀ (s : State) (tag : Byte) (params : List Byte) (n : Nat) (r : MatchRecord), portReady s → params.length = 3 →
    fieldAt params 0 3 ≠ 0 → findRecord s (fieldAt params 0 3) = some n → s.record n = some r →
    exec (.readMatch tag params) s = .next (onlyReply s tag codeReadMatch .done (.statement { number := n, record := r }))

/-- The three requests on records answer BadRequest for match id 0 and NotFound for an id that names no record (R184); CloseMatch closes an Open record, at
once or when its pending lines are in, and answers WrongState otherwise (R185, R188). That the WrongState reply carries the state and count too is the
model's reading (log 27). -/
def Obligations.CloseMatchCloses : Prop :=
  (∀ (s : State) (c : Instr) (tag code : Byte) (params : List Byte), portReady s → requestOf c = some (tag, code, params) →
    (code = codeReadMatch ∨ code = codeCloseMatch ∨ code = codeTakeStatement) → params.length = 3 →
    (fieldAt params 0 3 = 0 → exec c s = .next (onlyReply s tag code .badRequest .none))
    ∧ (fieldAt params 0 3 ≠ 0 → findRecord s (fieldAt params 0 3) = none → exec c s = .next (onlyReply s tag code .notFound .none)))
  ∧ ∀ (s : State) (tag : Byte) (params : List Byte) (n : Nat) (r : MatchRecord), portReady s → params.length = 3 →
    fieldAt params 0 3 ≠ 0 → findRecord s (fieldAt params 0 3) = some n → s.record n = some r →
    (r.state = .opened → r.pending = 0 →
      ∃ t, exec (.closeMatch tag params) s = .next t
        ∧ t.record n = some { r with state := .closed }
        ∧ repliesWith s t tag codeCloseMatch .done (.matchState .closed 0)
        ∧ ((∀ i e, s.entry i = some e → isUnplaced e = false) →
            noticeAt t (sourceRecord n) = some (.matchReady r.matchId r.total r.contributions r.folded r.flags)
            ∧ changesOnly [.bill, .site] s t)
        ∧ changesOnly [.entries, .bridged, .bill, .site] s t)
    ∧ (r.state = .opened → 0 < r.pending →
      ∃ t, exec (.closeMatch tag params) s = .next t
        ∧ t.record n = some { r with state := .closing }
        ∧ repliesWith s t tag codeCloseMatch .done (.matchState .closing r.pending)
        ∧ changesOnly [.entries, .bridged, .bill, .site] s t)
    ∧ (r.state ≠ .opened →
      exec (.closeMatch tag params) s = .next (onlyReply s tag codeCloseMatch .wrongState (.matchState r.state r.pending)))

/-- TakeStatement of a Closed record answers Done with the statement and frees the record; the placement scan that follows finds a record for an unbound entry, or
leaves it unbound with its cause: an Active or Closing one is bound, the line of a Charged one is added and the entry freed. An Open or Closing record answers
WrongState (R180 to R182, R187, R188). The scan is stated with one entry that waits; it never finds the
table full, for a record has just gone free. -/
def Obligations.TakeStatementFrees : Prop :=
  ∀ (s : State) (tag : Byte) (params : List Byte) (n : Nat) (r : MatchRecord), portReady s → params.length = 3 →
    fieldAt params 0 3 ≠ 0 → findRecord s (fieldAt params 0 3) = some n → s.record n = some r →
    (r.state = .closed →
      ∃ t, exec (.takeStatement tag params) s = .next t
        ∧ repliesWith s t tag codeTakeStatement .done (.statement { number := n, record := r })
        ∧ ((∀ i e, s.entry i = some e → isUnplaced e = false) →
            t.bill = { s.bill with records := s.bill.records.set n none } ∧ t.site.notices = s.site.notices ∧ changesOnly [.bill, .site] s t)
        ∧ (∀ j f m, j < 64 → s.entry j = some f → f.meter = some m → isUnplaced f = true →
            (∀ k g, k ≠ j → s.entry k = some g → isUnplaced g = false) →
            placedByTable { s with bill := { s.bill with records := s.bill.records.set n none } } t j f m
            ∧ (∀ k, k ≠ j → t.entry k = s.entry k))
        ∧ changesOnly [.entries, .bridged, .bill, .site] s t)
    ∧ (r.state ≠ .closed → exec (.takeStatement tag params) s = .next (onlyReply s tag codeTakeStatement .wrongState .none))

/-- RemoteRead queues a QUERY east with the message counter's value, writes the pending query with its deadline 500 ms later, and is answered Accepted; a
second one is answered QueryPending (R7, R189). That the Accepted reply carries the QUERY's sequence is the model's choice (log 39). -/
def Obligations.RemoteReadQueries : Prop :=
  ∀ (s : State) (tag : Byte) (params : List Byte), portReady s → params.length = 4 → fieldAt params 0 1 < s.ring →
    fieldAt params 0 1 ≠ s.self → fieldAt params 1 3 ≠ 0 → s.clock.synced = true →
    (s.bill.query = none → canJoinSite s .east = true →
      ∃ t, exec (.remoteRead tag params) s = .next t
        ∧ joins s t .east s.lane.counter (.query (fieldAt params 0 1) (fieldAt params 1 3))
        ∧ t.lane.counter = (s.lane.counter + 1) % 65536
        ∧ t.bill = { s.bill with query := some {
            target := fieldAt params 0 1, matchId := fieldAt params 1 3, seq := s.lane.counter,
            deadline := s.nowMs + 500 } }
        ∧ t.site.notices = s.site.notices
        ∧ repliesWith s t tag codeRemoteRead .accepted (.query s.lane.counter)
        ∧ changesOnly [.lane, .bill, .site] s t)
    ∧ (s.bill.query ≠ none → exec (.remoteRead tag params) s = .next (onlyReply s tag codeRemoteRead .queryPending .none))
    ∧ (s.bill.query = none → canJoinSite s .east = false →
        exec (.remoteRead tag params) s = .next (onlyReply s tag codeRemoteRead .busy .none))

/-- Restart is answered Done with the warm reset to follow; the transmitter takes the reply first, else the oldest short reply, else the head notice, and
the Restart reply's leaving lets the warm reset follow (R193, R198, R202). -/
def Obligations.RestartAndFrameSent : Prop :=
  (∀ (s : State) (tag : Byte), portReady s →
    exec (.restart tag []) s = .next { s with site := { s.site with
      restart := .taken, reply := some { tag := tag, code := codeRestart, status := .done, data := .none } } })
  ∧ (∀ (s : State) (r : Reply), s.site.rx ≠ .off → s.site.reply = some r →
    exec .frameSent s = .next { s with site := { s.site with
      reply := none, restart := s.site.restart.afterReply, lastFrame := some (.reply r) } })
  ∧ (∀ (s : State) (r : Reply) (rest : List Reply), s.site.rx ≠ .off → s.site.reply = none → s.site.shorts = r :: rest →
    exec .frameSent s = .next { s with site := { s.site with shorts := rest, lastFrame := some (.reply r) } })
  ∧ (∀ (s : State) (n : Notice) (rest : List Notice), s.site.rx ≠ .off → s.site.reply = none → s.site.shorts = [] →
      s.site.notices = n :: rest →
    exec .frameSent s = .next { s with site := { s.site with notices := rest, lastFrame := some (.notice n) } })

/-- UNKNOWN_REQUEST is answered BadRequest with its host tag; BAD_FRAME and INTER_BYTE_TIMEOUT are answered BadFrame with host tag 0 through the short-reply
list, and the receiver returns to Hunting (R192, R193). The request code of the answer is a free value (log 5), and UNKNOWN_REQUEST in bypass is answered
BadRequest by the model's reading (log 18). -/
def Obligations.FramesNotRequests : Prop :=
  (∀ (s : State) (bodyType tag code : Byte), portFree s → isRequest bodyType code = false →
    exec (.unknownRequest bodyType tag code) s = .next (onlyReply s tag code .badRequest .none))
  ∧ ∀ (s : State) (bytes : List Byte), s.site.rx ≠ .off →
    (s.site.shorts.length < 4 → ∃ code,
      (receive bytes = .bad → exec (.badFrame bytes) s = .next { s with
        freeCount := s.freeCount + 1, site := { s.site with
          rx := .hunting, shorts := s.site.shorts ++ [{ tag := 0, code := code, status := .badFrame, data := .none }] } })
      ∧ (receive bytes = .receiving → exec (.interByteTimeout bytes) s = .next { s with
        freeCount := s.freeCount + 1, site := { s.site with
          rx := .hunting, shorts := s.site.shorts ++ [{ tag := 0, code := code, status := .badFrame, data := .none }] } }))
    ∧ (4 ≤ s.site.shorts.length → receive bytes = .bad → exec (.badFrame bytes) s = .next { s with
        freeCount := s.freeCount + 1, site := { s.site with rx := .hunting, discards := min 255 (s.site.discards + 1) } })

/-- WARM_RESET, once the Restart reply has been sent: what it clears, what it keeps, and what starts again. The messages queued before it have left both transmit
queues and the held-over list and leave no trace; what stands queued after it, the reset itself has queued (R10, R12, R50, R84 to R86, R166, R202). -/
def Obligations.WarmResetClears : Prop :=
  ∀ s : State, s.site.restart = .sent →
    ∃ t, exec .warmReset s = .next t
      ∧ (∀ n, t.slot n = none) ∧ t.claims.seqCounter = s.claims.seqCounter ∧ t.claims.recent = s.claims.recent
      ∧ (∀ i e, i < 64 → s.entry i = some e → e.state = .tentative → t.entry i = none)
      ∧ (∀ i e, i < 64 → s.entry i = some e → e.state ≠ .tentative →
          ∃ f, t.entry i = some f ∧ f.key = e.key ∧ f.bk = e.bk ∧ f.state = e.state ∧ f.meter = e.meter ∧ f.prot = e.prot
            ∧ f.bridgeFlag = e.bridgeFlag ∧ f.marker = e.marker ∧ f.preExtEnd = e.preExtEnd ∧ f.ext = none)
      ∧ t.bill = { s.bill with
          query := none, charge := none,
          closeQueue := (List.range 64).filter (fun i => (s.entry i).any (fun e => e.state == .closing)) }
      ∧ t.site = { s.site with notices := [], restart := .none }
      ∧ t.clock.synced = s.clock.synced ∧ t.clock.seconds = s.clock.seconds ∧ t.clock.fraction = s.clock.fraction
      ∧ (s.clock.synced = true → t.clock.markDeadline = some (s.nowMs + 10000))
      ∧ t.recov.pendingSet = s.recov.pendingSet ∧ t.recov.walk = none
      ∧ t.recov.state = (if s.clock.synced then .recovering else .awaitingSync)
      ∧ t.lane.heldOver = []
      ∧ (∀ d, ∀ m ∈ t.queue d, warmMessage s m)
      ∧ (∀ qEast qWest heldOver : List Msg,
          exec .warmReset { s with lane := { s.lane with qEast := qEast, qWest := qWest, heldOver := heldOver } } = .next t)
      ∧ changesOnly [.clock, .lane, .entries, .claims, .recov, .bridged, .bill, .site] s t

/-- Start-up: the release of the reset pin starts the load; a good load starts normal running with the image as used and both spans Down, so both outputs carry
empty slots that the station generates, with the indication set; a failed test gives bypass with its cause, the outputs as they were (R5, R18, R20, R22, R134,
R199 to R201); the configuration then stays as it was, by the model's choice (log 1). That an image which fails more than one test
gives the cause of the first is the model's reading (log 21), and so is that the generated slots stand on the outputs as the load ends (log 29). -/
def Obligations.StartUp : Prop :=
  (∀ s : State, s.phase = .inReset → exec .resetPinRelease s = .next { s with phase := .loading })
  ∧ (∀ (s : State) (image : List Byte), s.phase = .loading → loadTest image = none →
    ∃ t, exec (.configurationLoad image) s = .next t
      ∧ t.phase = .normal ∧ t.cfg = loadCfg image ∧ t.site = { s.site with rx := .hunting }
      ∧ (t.span .east).up = false ∧ (t.span .west).up = false
      ∧ (t.span .east).confirm = (if s.pins.lightEast && s.pins.framingEast then some (s.nowMs + 2000) else none)
      ∧ (t.span .west).confirm = (if s.pins.lightWest && s.pins.framingWest then some (s.nowMs + 2000) else none)
      ∧ (∀ d, outOf t d = { farDown := true, msg := none } ∧ t.far d = s.far d) ∧ queuesKept s t ∧ t.lane.lastServed = s.lane.lastServed
      ∧ changesOnly [.phase, .cfg, .lane, .mons, .site] s t)
  ∧ (∀ (s : State) (image : List Byte) (cause : BypassCause), s.phase = .loading → loadTest image = some cause →
    ∃ t, exec (.configurationLoad image) s = .next t
      ∧ t.phase = .bypass cause ∧ t.site = { s.site with rx := .hunting } ∧ changesOnly [.phase, .mons, .site] s t)
  ∧ (∀ image : List Byte, loadTest image = none →
    (loadCfg image).station < (loadCfg image).ringSize ∧ 2 ≤ (loadCfg image).ringSize ∧ (loadCfg image).ringSize ≤ 16
    ∧ (loadCfg image).holdOff ≤ 100 ∧ 1 ≤ (loadCfg image).restoreWait ∧ (loadCfg image).restoreWait ≤ 30
    ∧ 1 ≤ (loadCfg image).threshold ∧ (loadCfg image).threshold ≤ 8000 ∧ (loadCfg image).tariffs.length = 8
    ∧ ∀ x ∈ (loadCfg image).tariffs, x.minimum ≤ 100)
  ∧ loadTest (List.replicate 74 0xFF) = some .sumMismatch ∧ loadTest (List.replicate 74 0x00) = some .sumMismatch

/-! ### Slots -/

/-- Outside normal running every slot that arrives leaves on the opposite output as it arrived, and nothing else changes (R22, R199). That the far-end Down
indications last received are not recorded then is the model's choice (log 4). -/
def Obligations.TransparentForwarding : Prop :=
  ∀ (c : Instr) (s : State) (port : Dir) (slot : Slot), slotOf c = some (port, slot) → s.phase ≠ .normal →
    ∃ t, exec c s = .next t ∧ outOf t (opp port) = slot ∧ outOf t port = outOf s port ∧ queuesKept s t
      ∧ t.far .east = s.far .east ∧ t.far .west = s.far .west ∧ t.lane.lastServed = s.lane.lastServed ∧ changesOnly [.lane] s t

/-- A full slot that arrives on a wrapped side is dropped: its indication is noted, no stamp is passed on, no block acts, and the side's own output carries an empty
slot (R18).
That the slot which brings the indication is itself dropped is the model's choice (log 7); that a dropped slot does not continue on the other output and serves no
queue is its reading (log 13). -/
def Obligations.WrappedSideDrops : Prop :=
  ∀ (c : Instr) (s : State) (port : Dir) (slot : Slot) (m : Msg), slotOf c = some (port, slot) → slot.msg = some m → s.phase = .normal →
    ((s.span port).up = false ∨ slot.farDown = true) →
    ∃ t, exec c s = .next t ∧ t.far port = slot.farDown ∧ t.far (opp port) = s.far (opp port) ∧ queuesKept s t
      ∧ t.lane.lastServed = s.lane.lastServed ∧ outOf t (opp port) = outOf s (opp port)
      ∧ outOf t port = { farDown := !(s.span port).up, msg := none } ∧ changesOnly [.lane] s t

/-- An empty slot with no side wrapped takes the head of its direction's queue, stamped at that moment, or continues empty; with the far side wrapped it
serves the two queues in turn, or the only one that has a message, a message of the wrapped side's queue turned at placement, and continues empty with both
empty. The place that frees in the east queue goes to the oldest held-over HOLDLOST, and the MARK timer starts again (R8, R12, R13, R19, R20, R30). That the
HOLDLOST joins in the very step that frees the place is the model's reading (log 11). A slot that clears its side's indication is handled under the new state by
the model's choice (log 7). -/
def Obligations.EmptySlotServes : Prop :=
  (∀ (s : State) (port : Dir) (m : Msg) (rest : List Msg), bothOpen s port → s.queue (opp port) = m :: rest →
    ∃ t, exec (.emptySlotArrival port false) s = .next t
      ∧ slotLeaves s t port (some { m with hdr := { m.hdr with
          stamp := s.clock.seconds, unsynced := !s.clock.synced, hops := 0, wraps := 0, firstWrap := none } })
      ∧ headLeft s t (opp port) rest
      ∧ (s.clock.synced = true → t.clock = { s.clock with markDeadline := some (s.nowMs + 10000) })
      ∧ changesOnly [.lane, .clock] s t)
  ∧ (∀ (s : State) (port : Dir), bothOpen s port → s.queue (opp port) = [] →
    ∃ t, exec (.emptySlotArrival port false) s = .next t ∧ slotLeaves s t port none ∧ queuesKept s t ∧ changesOnly [.lane] s t)
  ∧ (∀ (s : State) (port d : Dir) (m : Msg) (rest : List Msg), s.phase = .normal → (s.span port).up = true →
      ((s.span (opp port)).up = false ∨ s.far (opp port) = true) → s.queue d = m :: rest →
      (d = opp s.lane.lastServed ∨ (d = s.lane.lastServed ∧ s.queue (opp s.lane.lastServed) = [])) →
    ∃ t, exec (.emptySlotArrival port false) s = .next t
      ∧ t.lane.lastServed = d
      ∧ headLeft s t d rest
      ∧ outOf t (opp port) = { farDown := !(s.span (opp port)).up, msg := none }
      ∧ outOf t port = { farDown := false, msg := some { m with hdr := { m.hdr with
          stamp := s.clock.seconds, unsynced := !s.clock.synced, hops := 0,
          wraps := if d = port then 0 else 1,
          firstWrap := if d = port then none else some s.self } } }
      ∧ (s.clock.synced = true → t.clock = { s.clock with markDeadline := some (s.nowMs + 10000) })
      ∧ changesOnly [.lane, .clock] s t)
  ∧ (∀ (s : State) (port : Dir), s.phase = .normal → (s.span port).up = true →
      ((s.span (opp port)).up = false ∨ s.far (opp port) = true) → s.queue .east = [] → s.queue .west = [] →
    ∃ t, exec (.emptySlotArrival port false) s = .next t
      ∧ t.lane.lastServed = s.lane.lastServed ∧ queuesKept s t
      ∧ outOf t (opp port) = { farDown := !(s.span (opp port)).up, msg := none }
      ∧ outOf t port = { farDown := false, msg := none }
      ∧ changesOnly [.lane] s t)

/-- A MARK with an old stamp and a message of unknown kind pass this station: hop count raised, body unchanged, nothing else happens (R15, R17, R30, R203).
A message of any kind that is not stripped: at the hop limit, back at its first wrap station against its sent direction, or at a third wrap it is
discarded, and its slot goes on as an empty slot that arrives does (R13, R15, R19, R21); at a wrapped far side it is turned (R17, R19); turned once, it is acted
on off the arc from its origin to its first wrap station just as a message never turned is, and passes without effect on that arc; turned twice, it passes
without effect (R16). For a slot that clears its side's far-end Down indication this rests on the model's choice (log 7); that the discarded message's
slot is filled as an arriving empty one is its reading (log 12). -/
def Obligations.PassingWithoutEffect : Prop :=
  (∀ (s : State) (port : Dir) (h : Header), passes s port h →
    (∃ t, exec (.markReceived port false h) s = .next t ∧ passedOn s t port h .mark ∧ queuesKept s t ∧ changesOnly [.lane] s t)
    ∧ ∀ (kind : Byte) (bytes : List Byte),
      ∃ t, exec (.unknownKindMessage port false h kind bytes) s = .next t ∧ passedOn s t port h (.unknown kind bytes) ∧ queuesKept s t
        ∧ changesOnly [.lane] s t)
  ∧ (∀ (s : State) (port : Dir) (c : Instr) (m : Msg), slotOf c = some (port, { farDown := false, msg := some m }) →
      arrivesOpen s port m.hdr → notStripped s port m.hdr →
    (2 * s.ring ≤ m.hdr.hops + 1 → goesOnEmpty s port c)
    ∧ (m.hdr.hops + 1 < 2 * s.ring →
      (circled s port m.hdr → goesOnEmpty s port c)
      ∧ (farWrapped s port → m.hdr.wraps = 2 → goesOnEmpty s port c)
      ∧ (farWrapped s port → m.hdr.wraps < 2 → ¬ circled s port m.hdr → (m.body = .mark ∨ ∃ kind bytes, m.body = .unknown kind bytes) →
          ∃ t, exec c s = .next t ∧ turnedBack s t port m.hdr m.body ∧ queuesKept s t ∧ changesOnly [.lane] s t)
      ∧ (bothOpen s port → ¬ circled s port m.hdr →
          (m.hdr.wraps = 2 ∨ ∃ w, m.hdr.wraps = 1 ∧ m.hdr.firstWrap = some w ∧ onArc s.ring m.hdr.sentDir m.hdr.origin w s.self = true) →
          ∃ t, exec c s = .next t ∧ passedOn s t port m.hdr m.body ∧ queuesKept s t ∧ changesOnly [.lane] s t)
      ∧ (∀ c₀ w, bothOpen s port → m.hdr.wraps = 1 → m.hdr.firstWrap = some w →
          onArc s.ring m.hdr.sentDir m.hdr.origin w s.self = false →
          slotOf c₀ = some (port, { farDown := false, msg := some { m with hdr := { m.hdr with wraps := 0, firstWrap := none } } }) →
          ∃ t t₀ b, exec c s = .next t ∧ exec c₀ s = .next t₀
            ∧ outOf t (opp port) = { farDown := false, msg := some { hdr := { m.hdr with hops := m.hdr.hops + 1 }, body := b } }
            ∧ outOf t₀ (opp port) = { farDown := false, msg := some {
                hdr := { m.hdr with hops := m.hdr.hops + 1, wraps := 0, firstWrap := none }, body := b } }
            ∧ t = putSlot t₀ (opp port) (outOf t (opp port)))))

/-- What a stamp does to the clock (R25, R26): an Unsynced clock adopts it; a Synced one jumps by 1 to 4 seconds, or ignores 5 or more with ClockSkew. The MARK
itself passes on.
For a slot that clears its side's far-end Down indication this rests on the model's choice (log 7). -/
def Obligations.StampTaken : Prop :=
  ∀ (s : State) (port : Dir) (h : Header), bothOpen s port → h.origin ≠ s.self → h.hops + 1 < 2 * s.ring → h.wraps = 0 →
    h.unsynced = false →
    (s.clock.synced = false →
      ∃ t, exec (.markReceived port false h) s = .next t
        ∧ t.clock = { synced := true, seconds := h.stamp, fraction := 0, late := 0, markDeadline := some (s.nowMs + 10000) }
        ∧ noticeAt t sourceClock = some (.clockSynced h.stamp (.stamp h.origin 1))
        ∧ (s.recov.state = .awaitingSync → t.recov.state = .recovering)
        ∧ passedOn s t port h .mark
        ∧ changesOnly [.clock, .lane, .recov, .mons, .site] s t)
    ∧ (s.clock.synced = true → s.clock.seconds < h.stamp → h.stamp ≤ s.clock.seconds + 4 →
      ∃ t, exec (.markReceived port false h) s = .next t
        ∧ t.clock = { s.clock with seconds := h.stamp, fraction := 0, late := 0 }
        ∧ passedOn s t port h .mark
        ∧ changesOnly [.clock, .lane, .entries, .claims, .switch, .mons, .bridged, .bill, .site] s t)
    ∧ (s.clock.synced = true → s.clock.seconds + 5 ≤ h.stamp →
      ∃ t, exec (.markReceived port false h) s = .next t
        ∧ t.clock = s.clock
        ∧ noticeAt t sourceClock = some (.clockSkew h.stamp s.clock.seconds h.origin 1)
        ∧ passedOn s t port h .mark ∧ queuesKept s t
        ∧ changesOnly [.lane, .site] s t)

/-- A New CLAIM that passes with verdict Clear is assessed by the occupancy test: on Pass a Tentative entry with a 2,000 ms lifetime, an Open record, the assessed
bit; otherwise this station's refusal is written into it; an Extend CLAIM on a committed entry adds a pending extension part (R62 to R64). The test of a new
booking and of an extension gives LaneBusy, PortBusy, Contested, TableFull or Pass by the conflicts of Table 3-5 and the precedence of R46, over what each entry
and each pending extension part uses (R43 to R46); which of several conflicting entries it names, and that TableFull names none, are the model's choices (log
32, log 54). For a slot that clears its side's far-end Down indication this rests on the model's choice (log 7). -/
def Obligations.ClaimAssessed : Prop :=
  (∀ (s : State) (port : Dir) (h : Header) (b : ClaimBody), passes s port h → b.verdict = .clear → s.clock.synced = true →
    s.recov.state ≠ .recovering → rolesOf s.ring { origin := h.origin, seq := h.seq } b.bk s.self ≠ [] →
    (∀ i, b.mode = .new → firstFree s.entries = some i →
      testNew s (some { origin := h.origin, seq := h.seq }) (newCandidate s { origin := h.origin, seq := h.seq } b.bk) = .pass →
      ∃ t, exec (.claimReceived port false h b) s = .next t
        ∧ t.entries = s.entries.set i (some (freshEntry { origin := h.origin, seq := h.seq } b.bk
            (rolesOf s.ring { origin := h.origin, seq := h.seq } b.bk s.self) .tentative (some (s.nowMs + 2000)) false))
        ∧ findRecent t { origin := h.origin, seq := h.seq } .new = some {
            key := { origin := h.origin, seq := h.seq }, mode := .new,
            limit := none, mark := .opened, age := s.nowMs + 5000 }
        ∧ t.claims.slots = s.claims.slots ∧ t.claims.seqCounter = s.claims.seqCounter
        ∧ passedOn s t port h (.claim { b with assessed := stationAdd b.assessed s.self }) ∧ queuesKept s t
        ∧ changesOnly [.lane, .entries, .claims] s t)
    ∧ (∀ r first, b.mode = .new →
      testNew s (some { origin := h.origin, seq := h.seq }) (newCandidate s { origin := h.origin, seq := h.seq } b.bk) = .fails r first →
      ∃ t, exec (.claimReceived port false h b) s = .next t
        ∧ passedOn s t port h (.claim { b with verdict := .refused r s.self, assessed := stationAdd b.assessed s.self }) ∧ queuesKept s t
        ∧ changesOnly [.lane] s t)
    ∧ (∀ i e, b.mode = .extend → findEntry s { origin := h.origin, seq := h.seq } = some (i, e) → isCommitted e = true → e.ext = none →
      testExtend s { origin := h.origin, seq := h.seq } (extendCandidate s e b.bk.winEnd) = .pass →
      ∃ t, exec (.claimReceived port false h b) s = .next t
        ∧ t.entries = s.entries.set i (some { e with
            ext := some { oldEnd := e.bk.winEnd, newEnd := b.bk.winEnd, lifetime := some (s.nowMs + 2000) } })
        ∧ passedOn s t port h (.claim { b with assessed := stationAdd b.assessed s.self }) ∧ queuesKept s t
        ∧ changesOnly [.lane, .entries, .claims] s t))
  ∧ (∀ s : State, (∀ i e, s.entry i = some e → 0 < e.bk.count) →
    (∀ (key : Option Key) (k : Key) (bk : Booking), 0 < bk.count →
      judgedByPrecedence s none key { roles := rolesOf s.ring k bk s.self, bk := bk, lo := bk.winStart, hi := bk.winEnd } true
        (testNew s key (newCandidate s k bk)))
    ∧ (∀ (e : Entry) (newEnd : Nat), 0 < e.bk.count →
      judgedByPrecedence s (some e.key) none { roles := e.roles, bk := e.bk, lo := e.bk.winEnd, hi := newEnd } false
        (testExtend s e.key (extendCandidate s e newEnd))))

/-- A CLAIM that comes back Clear and complete to its Awaiting slot, with room in the queue, commits the origin's side: the CONFIRM joins, the entry becomes Held,
the slot is freed with Committed. Any other result frees the entry and joins the ABANDON: a refusal for a final reason, a third Contested, an incomplete assessed
set and a start that has come free the slot with their outcome; a first or second Contested puts it into RetryWait for (this station + 1) × 150 ms (R66 to R69,
R72).
For a slot that clears its side's far-end Down indication this rests on the model's choice (log 7). -/
def Obligations.ClaimReturned : Prop :=
  ∀ (s : State) (port : Dir) (h : Header) (b : ClaimBody) (n i : Nat) (c : ClaimSlot) (e : Entry), comesBack s port h →
    b.mode = .new → awaitingSlot s { origin := h.origin, seq := h.seq } .new = some n → s.slot n = some c →
    findEntry s { origin := h.origin, seq := h.seq } = some (i, e) → e.state = .tentative → canJoin s c.req.dir = true →
    (b.verdict = .clear → s.now < e.bk.winStart → missingFrom s c b.assessed = 0 →
      ∃ t, exec (.claimReturned port false h b) s = .next t
        ∧ t.entries = s.entries.set i (some { e with state := .held })
        ∧ t.slot n = none
        ∧ joins s t c.req.dir h.seq (.confirm .new)
        ∧ noticeAt t (sourceSlot n) = some (.bookingOutcome .new c.firstKey c.key c.attempt .committed)
        ∧ slotLeaves s t port none
        ∧ changesOnly [.lane, .entries, .claims, .site] s t)
    ∧ (∀ r station, b.verdict = .refused r station → r ≠ .contested →
      ∃ t, exec (.claimReturned port false h b) s = .next t
        ∧ t.entry i = none ∧ (∀ j, j ≠ i → t.entry j = s.entry j)
        ∧ t.slot n = none
        ∧ joins s t c.req.dir h.seq (.abandon .new)
        ∧ noticeAt t (sourceSlot n) = some (.bookingOutcome .new c.firstKey c.key c.attempt (.refused r station))
        ∧ slotLeaves s t port none
        ∧ changesOnly [.lane, .entries, .claims, .bridged, .site] s t)
    ∧ (∀ station, b.verdict = .refused .contested station →
      ∃ t, exec (.claimReturned port false h b) s = .next t
        ∧ t.entry i = none ∧ (∀ j, j ≠ i → t.entry j = s.entry j)
        ∧ joins s t c.req.dir h.seq (.abandon .new)
        ∧ (c.attempt < 3 → t.slot n = some { c with state := .retryWait (s.nowMs + (s.self + 1) * 150) } ∧ t.site = s.site)
        ∧ (3 ≤ c.attempt → t.slot n = none
            ∧ noticeAt t (sourceSlot n) = some (.bookingOutcome .new c.firstKey c.key c.attempt (.contested station)))
        ∧ (∀ x, x ≠ n → t.slot x = s.slot x) ∧ t.claims.seqCounter = s.claims.seqCounter ∧ t.claims.recent = s.claims.recent
        ∧ slotLeaves s t port none
        ∧ changesOnly [.lane, .entries, .claims, .bridged, .site] s t)
    ∧ (∀ missing : StationSet, b.verdict = .clear → missing ≠ 0 → s.ring ≤ 16 →
      (∀ x, x < 16 → (stationIn missing x = true ↔ x < s.ring ∧ rolesOf s.ring c.key c.req x ≠ [] ∧ stationIn b.assessed x = false)) →
      ∃ t, exec (.claimReturned port false h b) s = .next t
        ∧ t.entry i = none ∧ (∀ j, j ≠ i → t.entry j = s.entry j)
        ∧ t.slot n = none
        ∧ joins s t c.req.dir h.seq (.abandon .new)
        ∧ noticeAt t (sourceSlot n) = some (.bookingOutcome .new c.firstKey c.key c.attempt (.unreachable (some missing)))
        ∧ slotLeaves s t port none
        ∧ changesOnly [.lane, .entries, .claims, .bridged, .site] s t)
    ∧ (b.verdict = .clear → missingFrom s c b.assessed = 0 → e.bk.winStart ≤ s.now →
      ∃ t, exec (.claimReturned port false h b) s = .next t
        ∧ t.entry i = none ∧ (∀ j, j ≠ i → t.entry j = s.entry j)
        ∧ t.slot n = none
        ∧ joins s t c.req.dir h.seq (.abandon .new)
        ∧ noticeAt t (sourceSlot n) = some (.bookingOutcome .new c.firstKey c.key c.attempt (.refused .badWindow s.self))
        ∧ slotLeaves s t port none
        ∧ changesOnly [.lane, .entries, .claims, .bridged, .site] s t)

/-- A CONFIRM commits the tentative it names, marks its record Confirmed, and raises EntryCommitted at a drop; a late CONFIRM with an Open record queues a HOLDLOST
and marks the record Lost (R73, R74).
For a slot that clears its side's far-end Down indication this rests on the model's choice (log 7). -/
def Obligations.ConfirmTaken : Prop :=
  ∀ (s : State) (port : Dir) (h : Header), passes s port h →
    (∀ i e, findEntry s { origin := h.origin, seq := h.seq } = some (i, e) → e.state = .tentative → s.now < e.bk.winStart →
      ∃ t, exec (.confirmReceived port false h .new) s = .next t
        ∧ t.entries = s.entries.set i (some { e with state := .held, lifetime := none })
        ∧ (∀ r, findRecent s { origin := h.origin, seq := h.seq } .new = some r →
            findRecent t { origin := h.origin, seq := h.seq } .new = some { r with mark := .confirmed })
        ∧ (isDropEntry e = true →
            noticeAt t (sourceEntry i) = some (.entryCommitted e.key .new e.bk.winStart e.bk.winEnd))
        ∧ (isDropEntry e = false → t.site = s.site)
        ∧ passedOn s t port h (.confirm .new) ∧ queuesKept s t
        ∧ changesOnly [.lane, .entries, .claims, .site] s t)
    ∧ (∀ r mode, findEntry s { origin := h.origin, seq := h.seq } = none →
      findRecent s { origin := h.origin, seq := h.seq } mode = some r → r.mark = .opened → s.lane.qEast.length < 16 → s.lane.heldOver = [] →
      ∃ t, exec (.confirmReceived port false h mode) s = .next t
        ∧ joins s t .east h.seq (.holdlost { origin := h.origin, seq := h.seq } mode s.self)
        ∧ findRecent t { origin := h.origin, seq := h.seq } mode = some { r with mark := .lost }
        ∧ passedOn s t port h (.confirm mode)
        ∧ changesOnly [.lane, .claims] s t)

/-- An ABANDON removes the tentative it names and the recently-assessed record of its key and mode, raises no notice, and does nothing to an entry that has no such
tentative (R75). That the record goes even when no tentative is found is the model's reading (log 17).
For a slot that clears its side's far-end Down indication this rests on the model's choice (log 7). -/
def Obligations.AbandonTaken : Prop :=
  ∀ (s : State) (port : Dir) (h : Header) (mode : Mode), passes s port h →
    ∃ t, exec (.abandonReceived port false h mode) s = .next t
      ∧ t.claims = { s.claims with recent := s.claims.recent.filter (fun r =>
          !(r.key == { origin := h.origin, seq := h.seq } && r.mode == mode)) }
      ∧ (∀ i e, findEntry s { origin := h.origin, seq := h.seq } = some (i, e) → mode = .new → e.state = .tentative →
          t.entry i = none ∧ (∀ j, j ≠ i → t.entry j = s.entry j))
      ∧ (∀ i e, findEntry s { origin := h.origin, seq := h.seq } = some (i, e) → mode = .extend →
          t.entries = s.entries.set i (some { e with ext := none }))
      ∧ ((findEntry s { origin := h.origin, seq := h.seq } = none
          ∨ ∃ i e, findEntry s { origin := h.origin, seq := h.seq } = some (i, e)
            ∧ ((mode = .new ∧ e.state ≠ .tentative) ∨ (mode = .extend ∧ e.ext = none))) →
          t.entries = s.entries ∧ t.bridged = s.bridged)
      ∧ passedOn s t port h (.abandon mode) ∧ queuesKept s t
      ∧ changesOnly [.lane, .entries, .claims, .bridged] s t

/-- A WITHDRAW at a holder: a Held entry trimmed or freed, an Active one trimmed or ended at once into Closing without a count; EntryWithdrawn at a drop and at the
origin, and nothing reported at a station that only passes the feed (R80, R113, R165).
That the end written is then the ring second of the moment is the model's reading (log 22).
For a slot that clears its side's far-end Down indication this rests on the model's choice (log 7). -/
def Obligations.WithdrawTaken : Prop :=
  ∀ (s : State) (port : Dir) (h : Header) (v i : Nat) (e : Entry), passes s port h →
    findEntry s { origin := h.origin, seq := h.seq } = some (i, e) → e.ext = none →
    ((e.state = .held ∧ e.bk.winStart < v ∨ e.state = .active ∧ s.now < v) → v < e.bk.winEnd →
      ∃ t, exec (.withdrawReceived port false h v) s = .next t
        ∧ t.entries = s.entries.set i (some { e with bk := { e.bk with winEnd := v } })
        ∧ (reportsWithdraw e = true → noticeAt t (sourceEntry i) = some (.entryWithdrawn e.key v .trimmed))
        ∧ (reportsWithdraw e = false → t.site = s.site)
        ∧ passedOn s t port h (.withdraw v) ∧ queuesKept s t ∧ changesOnly [.lane, .entries, .site] s t)
    ∧ (e.state = .held → v ≤ e.bk.winStart → v < e.bk.winEnd →
      ∃ t, exec (.withdrawReceived port false h v) s = .next t
        ∧ t.entry i = none ∧ (∀ j, j ≠ i → t.entry j = s.entry j)
        ∧ (reportsWithdraw e = true → noticeAt t (sourceEntry i) = some (.entryWithdrawn e.key v .freed))
        ∧ (reportsWithdraw e = false → t.site = s.site)
        ∧ passedOn s t port h (.withdraw v) ∧ queuesKept s t ∧ changesOnly [.lane, .entries, .bridged, .site] s t)
    ∧ (∀ m, e.state = .active → v ≤ s.now → e.meter = some m →
      ∃ t f, exec (.withdrawReceived port false h v) s = .next t
        ∧ t.entry i = some f ∧ f.key = e.key ∧ f.state = .closing ∧ f.bk.winEnd = s.now ∧ f.meter.map Meter.a = some m.a
        ∧ t.bill = { s.bill with closeQueue := s.bill.closeQueue ++ [i] }
        ∧ passedOn s t port h (.withdraw v)
        ∧ changesOnly [.lane, .entries, .switch, .mons, .bridged, .bill, .site] s t)

/-- A HOLDLOST at its key's origin: the marker is set with HoldLost raised; while a claim slot holds the key no WITHDRAW is tried; otherwise the WITHDRAW joins and
the origin applies it, which frees a Held entry not yet started (R76, R80, R81).
For a slot that clears its side's far-end Down indication this rests on the model's choice (log 7). -/
def Obligations.HoldlostTaken : Prop :=
  ∀ (s : State) (port : Dir) (h : Header) (k : Key) (station i : Nat) (e : Entry), passes s port h → k.origin = s.self →
    findEntry s k = some (i, e) → isCommitted e = true → e.marker = none →
    (slotHolds s k = true →
      ∃ t, exec (.holdlostReceived port false h k .new station) s = .next t
        ∧ t.entries = s.entries.set i (some { e with marker := some .nowAtJoining })
        ∧ noticeAt t (sourceEntry i) = some (.holdLost k .new station .nowAtJoining)
        ∧ passedOn s t port h (.holdlost k .new station) ∧ queuesKept s t ∧ changesOnly [.lane, .entries, .site] s t)
    ∧ (slotHolds s k = false → e.state = .held → s.now ≤ e.bk.winStart → e.ext = none → canJoin s e.bk.dir = true →
      ∃ t, exec (.holdlostReceived port false h k .new station) s = .next t
        ∧ t.entry i = none ∧ (∀ j, j ≠ i → t.entry j = s.entry j)
        ∧ joins s t e.bk.dir k.seq (.withdraw s.now)
        ∧ passedOn s t port h (.holdlost k .new station) ∧ changesOnly [.lane, .entries, .bridged, .site] s t)

/-- A SWITCHREQ at the origin: the first drop's On brings the bridge on, its Off brings it off again; the bridge set, BridgeState, the protection layers, and the
BRIDGE that joins (R144, R149). An Active Extra entry on the lanes that the protection layers come to is flagged Preempted with PreemptState, and the flag goes
with its notice when those layers go; an entry without the flag stays as it was (R154, R157).
For a slot that clears its side's far-end Down indication this rests on the model's choice (log 7). -/
def Obligations.SwitchreqTaken : Prop :=
  ∀ (s : State) (port : Dir) (h : Header) (k : Key) (station i : Nat) (e : Entry) (b : BridgeSet), passes s port h → k.origin = s.self →
    findEntry s k = some (i, e) → e.state = .active → e.bk.isProtected = true → isDrop e.bk station = true → station < 16 →
    e.bridge = some b → canJoinProt s e.bk.dir = true → s.switch.cells.length = 48 → e.bk.first + e.bk.count ≤ 24 →
    (b.drops = 0 →
      ∃ t, exec (.switchreqReceived port false h k station true) s = .next t
        ∧ (t.entry i).bind Entry.bridge = some { drops := stationBit station, announced := true, toSend := false }
        ∧ noticeAt t (sourceEntry i) = some (.bridgeState e.key true (stationBit station))
        ∧ joins s t e.bk.dir k.seq (.bridge k true (stationBit station))
        ∧ (hasProtSpan e.roles = true → ∀ j, j < e.bk.count → (t.cell (opp e.bk.dir) (e.bk.first + j)).protection
            = some { src := layerSource (e.roles.contains .protOrigin) e.bk.input j, owner := e.key, index := i })
        ∧ (hasProtSpan e.roles = true → ∀ j f, j < 64 → j ≠ i → s.entry j = some f → worksUnder s e f → uncovered s f →
            f.preempted = some false → preemptTold t j f true e.key)
        ∧ (∀ j f, j ≠ i → s.entry j = some f → f.preempted = none → t.entry j = some f)
        ∧ passedOn s t port h (.switchreq k station true)
        ∧ changesOnly [.lane, .entries, .switch, .bridged, .site] s t)
    ∧ (b.drops = stationBit station →
      ∃ t, exec (.switchreqReceived port false h k station false) s = .next t
        ∧ (t.entry i).bind Entry.bridge = some { drops := 0, announced := false, toSend := false }
        ∧ noticeAt t (sourceEntry i) = some (.bridgeState e.key false 0)
        ∧ joins s t e.bk.dir k.seq (.bridge k false 0)
        ∧ (hasProtSpan e.roles = true → ∀ j, j < e.bk.count →
            ownedBy (t.cell (opp e.bk.dir) (e.bk.first + j)).protection e.key = false)
        ∧ k ∉ t.bridged.keys
        ∧ (hasProtSpan e.roles = true → ∀ j f, j < 64 → j ≠ i → s.entry j = some f → worksUnder s e f → coveredBy s e f →
            f.preempted = some true → preemptTold t j f false e.key)
        ∧ (∀ j f, j ≠ i → s.entry j = some f → f.preempted = none → t.entry j = some f)
        ∧ passedOn s t port h (.switchreq k station false)
        ∧ changesOnly [.lane, .entries, .switch, .bridged, .site] s t)

/-- A BRIDGE on at an Active entry of the protection arc records the key, sets the flag, writes the Through layers and the watch places; a BRIDGE off takes all
of that back under the owner test; an Active Extra entry on those lanes is flagged Preempted with PreemptState, and the flag goes with the layers (R154). A drop in
Bridging enters Protected on the BRIDGE on, with resend count 0, its selector on Protection and its notice (R120,
R140, R150 to R152, R157).
For a slot that clears its side's far-end Down indication this rests on the model's choice (log 7). -/
def Obligations.BridgeTaken : Prop :=
  ∀ (s : State) (port : Dir) (h : Header) (k : Key) (drops : StationSet) (i : Nat) (e : Entry), passes s port h →
    findEntry s k = some (i, e) → e.state = .active → s.switch.cells.length = 48 → s.mons.lanes.length = 48 →
    e.bk.first + e.bk.count ≤ 24 →
    (e.bridgeFlag = some false →
      ∃ t, exec (.bridgeOnReceived port false h k drops) s = .next t
        ∧ (t.entry i).bind Entry.bridgeFlag = some true
        ∧ (s.bridged.keys.length < 32 → k ∈ t.bridged.keys)
        ∧ (hasProtSpan e.roles = true → ∀ j, j < e.bk.count → (t.cell (opp e.bk.dir) (e.bk.first + j)).protection
            = some { src := layerSource (e.roles.contains .protOrigin) e.bk.input j, owner := e.key, index := i })
        ∧ (∀ j, j < e.bk.count → (t.mon (inPort (opp e.bk.dir)) (e.bk.first + j)).protection = some (Place.fresh e.key i (s.now + 5)))
        ∧ (hasProtSpan e.roles = true → ∀ j f, j < 64 → j ≠ i → s.entry j = some f → worksUnder s e f → uncovered s f →
            f.preempted = some false → preemptTold t j f true e.key)
        ∧ (∀ j f, j ≠ i → s.entry j = some f → f.preempted = none → t.entry j = some f)
        ∧ passedOn s t port h (.bridge k true drops)
        ∧ changesOnly [.lane, .entries, .switch, .mons, .bridged, .site] s t)
    ∧ (e.bridgeFlag = some true →
      ∃ t, exec (.bridgeOffReceived port false h k) s = .next t
        ∧ (t.entry i).bind Entry.bridgeFlag = some false
        ∧ k ∉ t.bridged.keys
        ∧ (hasProtSpan e.roles = true → ∀ j, j < e.bk.count →
            ownedBy (t.cell (opp e.bk.dir) (e.bk.first + j)).protection e.key = false)
        ∧ (∀ j p, j < e.bk.count → (t.mon (inPort (opp e.bk.dir)) (e.bk.first + j)).protection = some p → p.owner ≠ e.key)
        ∧ (hasProtSpan e.roles = true → ∀ j f, j < 64 → j ≠ i → s.entry j = some f → worksUnder s e f → coveredBy s e f →
            f.preempted = some true → preemptTold t j f false e.key)
        ∧ (∀ j f, j ≠ i → s.entry j = some f → f.preempted = none → t.entry j = some f)
        ∧ passedOn s t port h (.bridge k false 0)
        ∧ changesOnly [.lane, .entries, .switch, .mons, .bridged, .site] s t)
    ∧ (∀ p, e.bridgeFlag ≠ none → e.prot = some p → p.state = .bridging →
      ∃ t q, exec (.bridgeOnReceived port false h k drops) s = .next t
        ∧ (t.entry i).bind Entry.bridgeFlag = some true
        ∧ (t.entry i).bind Entry.prot = some q ∧ q.state = .protecting ∧ q.resends = 0 ∧ q.holdOff = none ∧ q.restoreWait = none
        ∧ selectorWritten s t e .protection
        ∧ noticeAt t (sourceEntry i) = some (.protectionState e.key .bridging .protecting .bridgeSeen .protection s.now)
        ∧ queuesKept s t ∧ passedOn s t port h (.bridge k true drops)
        ∧ changesOnly [.lane, .entries, .switch, .mons, .bridged, .site] s t)

/-- A SPANSTATE of another station raises SpanReport from the span monitor of the side it arrived on and changes no other state (R133).
For a slot that clears its side's far-end Down indication this rests on the model's choice (log 7). -/
def Obligations.SpanstateTaken : Prop :=
  ∀ (s : State) (port : Dir) (h : Header) (side : Dir) (up : Bool), passes s port h →
    ∃ t, exec (.spanstateReceived port false h side up) s = .next t
      ∧ noticeAt t (sourceSpan port) = some (.spanReport h.origin side up h.stamp)
      ∧ (∀ src, src ≠ sourceSpan port → noticeAt t src = noticeAt s src)
      ∧ t.site = { s.site with notices := t.site.notices }
      ∧ passedOn s t port h (.spanstate side up) ∧ queuesKept s t
      ∧ changesOnly [.lane, .site] s t

/-- A QUERY is answered at its target with a copy of the record of its match id, or not found; the ANSWER that meets the pending query clears it with QueryResult
(R190, R191).
For a slot that clears its side's far-end Down indication this rests on the model's choice (log 7). -/
def Obligations.QueryAndAnswerTaken : Prop :=
  (∀ (s : State) (port : Dir) (h : Header) (matchId : Nat), passes s port h → canJoin s .east = true →
    ∃ t copy, exec (.queryReceived port false h s.self matchId) s = .next t
      ∧ joins s t .east s.lane.counter (.answer h.origin h.seq matchId copy) ∧ t.lane.counter = (s.lane.counter + 1) % 65536
      ∧ (findRecord s matchId = none → copy = none)
      ∧ (∀ n r, findRecord s matchId = some n → s.record n = some r → copy = some { number := n, record := r })
      ∧ passedOn s t port h (.query s.self matchId) ∧ changesOnly [.lane] s t)
  ∧ (∀ (s : State) (port : Dir) (h : Header) (q : Query) (copy : Option Statement), passes s port h → s.bill.query = some q →
    q.target = h.origin →
    ∃ t, exec (.answerReceived port false h s.self q.seq q.matchId copy) s = .next t
      ∧ t.bill = { s.bill with query := none }
      ∧ (copy = none → noticeAt t sourceQuery = some (.queryResult q.target q.matchId .notFound))
      ∧ (∀ x, copy = some x → noticeAt t sourceQuery = some (.queryResult q.target q.matchId (.found x)))
      ∧ passedOn s t port h (.answer s.self q.seq q.matchId copy) ∧ queuesKept s t ∧ changesOnly [.lane, .bill, .site] s t)

/-- A RECALL of another station adds its sender to the pending-recall set: a station that is not Normal starts no walk, a Normal one that answers for nothing ends its
walk with the set cleared. This station's own RECALL that comes back and matches starts the quiet deadline (R87, R90, R92).
For a slot that clears its side's far-end Down indication this rests on the model's choice (log 7). -/
def Obligations.RecallTaken : Prop :=
  (∀ (s : State) (port : Dir) (h : Header), passes s port h →
    (s.recov.state ≠ .normal →
      ∃ t, exec (.recallReceived port false h) s = .next t
        ∧ t.recov = { s.recov with pendingSet := stationAdd s.recov.pendingSet h.origin }
        ∧ passedOn s t port h .recallReq ∧ queuesKept s t ∧ changesOnly [.lane, .recov] s t)
    ∧ (s.recov.state = .normal →
      (∀ i e, s.entry i = some e →
        isResponder { s with recov := { s.recov with pendingSet := stationAdd s.recov.pendingSet h.origin } } e = false) →
      ∃ t, exec (.recallReceived port false h) s = .next t
        ∧ t.recov = { s.recov with pendingSet := 0, walk := none }
        ∧ passedOn s t port h .recallReq ∧ queuesKept s t ∧ changesOnly [.lane, .recov] s t))
  ∧ (∀ (s : State) (port : Dir) (h : Header), comesBack s port h → s.recov.state = .recovering → s.recov.lastSeq = some h.seq →
    ∃ t, exec (.recallReturned port false h) s = .next t
      ∧ t.recov = { s.recov with returned := true, resend := none, quiet := some (s.nowMs + 1000) }
      ∧ slotLeaves s t port none ∧ queuesKept s t ∧ changesOnly [.lane, .recov] s t)

/-- A REANNOUNCE at a Recovering station of its target set is a duplicate when the key is present, a conflict when the occupancy test fails, and otherwise installed:
Held before its start, else Active, with its working layers, its output's sources, its watch places, a Partial meter and, at a drop, its match binding (R89, R94
to R96, R109, R111, R120, R179, R180). Which
entry the conflict names, where entries conflict in different ways, is the model's choice (log 32).
For a slot that clears its side's far-end Down indication this rests on the model's choice (log 7). -/
def Obligations.ReannounceTaken : Prop :=
  ∀ (s : State) (port : Dir) (h : Header) (r : Reannounce), passes s port h → s.recov.state = .recovering →
    stationIn r.targets s.self = true →
    ((lookup s r.key).isSome = true →
      ∃ t, exec (.reannounceReceived port false h r) s = .next t
        ∧ t.recov.duplicates = min 255 (s.recov.duplicates + 1)
        ∧ (s.recov.returned = true → t.recov.quiet = some (s.nowMs + 1000))
        ∧ passedOn s t port h (.reannounce r) ∧ queuesKept s t ∧ changesOnly [.lane, .recov] s t)
    ∧ (∀ reason first, lookup s r.key = none → s.now < r.bk.winEnd → rolesOf s.ring r.key r.bk s.self ≠ [] →
      testNew s (some r.key) (newCandidate s r.key r.bk) = .fails reason first →
      ∃ t, exec (.reannounceReceived port false h r) s = .next t
        ∧ t.recov.conflicts = min 255 (s.recov.conflicts + 1)
        ∧ noticeAt t sourceRecall = some (.recallConflict r.key reason first)
        ∧ passedOn s t port h (.reannounce r) ∧ queuesKept s t ∧ changesOnly [.lane, .recov, .site] s t)
    ∧ (∀ i, lookup s r.key = none → s.now < r.bk.winEnd → s.now < r.bk.winStart → rolesOf s.ring r.key r.bk s.self ≠ [] →
      testNew s (some r.key) (newCandidate s r.key r.bk) = .pass → firstFree s.entries = some i →
      ∃ t, exec (.reannounceReceived port false h r) s = .next t
        ∧ t.entries = s.entries.set i (some (freshEntry r.key r.bk (rolesOf s.ring r.key r.bk s.self) .held none true))
        ∧ t.recov.installed = min 255 (s.recov.installed + 1)
        ∧ passedOn s t port h (.reannounce r) ∧ queuesKept s t ∧ changesOnly [.lane, .entries, .recov] s t)
    ∧ (∀ i, lookup s r.key = none → s.now < r.bk.winEnd → r.bk.winStart ≤ s.now → rolesOf s.ring r.key r.bk s.self ≠ [] →
      testNew s (some r.key) (newCandidate s r.key r.bk) = .pass → firstFree s.entries = some i → i < 64 →
      s.switch.cells.length = 48 → s.switch.outputs.length = 8 → s.mons.lanes.length = 48 → r.bk.first + r.bk.count ≤ 24 →
      ∃ t f, exec (.reannounceReceived port false h r) s = .next t
        ∧ t.entry i = some f ∧ f.key = r.key ∧ f.bk = r.bk ∧ f.roles = rolesOf s.ring r.key r.bk s.self ∧ f.state = .active
        ∧ f.installed = true
        ∧ (∀ m, f.meter = some m → m.isPartial = true ∧ m.firstActive = some s.now ∧ m.a = 0 ∧ m.tally = [0, 0, 0, 0, 0, 0])
        ∧ (hasWorkSpan f.roles = true → ∀ j, j < r.bk.count → (t.cell r.bk.dir (r.bk.first + j)).working
            = some { src := layerSource (f.roles.contains .origin) r.bk.input j, owner := r.key, index := i })
        ∧ (∀ p, isDropEntry f = true → outPort r.bk s.self = some p → p < 8 →
            (t.output p).working = some (outSourceOf i f r.bk.dir)
            ∧ (t.output p).protection = (if hasProtDrop f.roles then some (outSourceOf i f (opp r.bk.dir)) else none)
            ∧ (t.output p).selector = .working)
        ∧ (hasWorkWatch f.roles = true → ∀ j, j < r.bk.count →
            (t.mon (inPort r.bk.dir) (r.bk.first + j)).working = some (Place.fresh r.key i (s.now + 5)))
        ∧ (isDropEntry f = true → onlyWaiting s i r.bk.matchId →
            placedByTable s t i f { Meter.fresh (r.bk.cls == .extra) true with firstActive := some s.now })
        ∧ t.recov.installed = min 255 (s.recov.installed + 1)
        ∧ passedOn s t port h (.reannounce r) ∧ queuesKept s t
        ∧ changesOnly [.lane, .entries, .recov, .switch, .mons, .bridged, .bill, .site] s t)

/-! ### Continuations -/

/-- OUTBOUND_JOIN joins the waiting CONFIRM of the lowest slot and commits; HOLDLOST_HELD_OVER_JOIN moves the oldest held-over HOLDLOST; WALK_RESUME queues the
REANNOUNCE at the cursor and goes on (R11, R12, R68, R72, R92). That a responder which is not the origin sends the booking's input port as it was announced to
it is the model's reading (log 14). -/
def Obligations.WaitingMessagesJoin : Prop :=
  (∀ (s : State) (d : Dir) (n i : Nat) (c : ClaimSlot) (e : Entry), waitingSlot s d = some n → s.slot n = some c → c.state = .outConfirm →
    c.mode = .new → findEntry s c.key = some (i, e) → e.state = .tentative → s.now < e.bk.winStart → canJoin s d = true →
    s.phase = .normal →
    ∃ t, exec (.outboundJoin d) s = .next t
      ∧ joins s t d c.key.seq (.confirm .new) ∧ t.entries = s.entries.set i (some { e with state := .held }) ∧ t.slot n = none
      ∧ noticeAt t (sourceSlot n) = some (.bookingOutcome .new c.firstKey c.key c.attempt .committed)
      ∧ changesOnly [.lane, .entries, .claims, .site] s t)
  ∧ (∀ (s : State) (m : Msg) (rest : List Msg), s.lane.heldOver = m :: rest → s.lane.qEast.length < 16 →
    exec .holdlostHeldOverJoin s = .next { s with lane := { s.lane with qEast := s.lane.qEast ++ [m], heldOver := rest } })
  ∧ (∀ (s : State) (i : Nat) (e : Entry), s.recov.walk = some i → i < 64 → s.entry i = some e → isResponder s e = true →
    canJoinSite s e.bk.dir = true →
    ∃ t rest, exec .walkResume s = .next t
      ∧ t.queue e.bk.dir = s.queue e.bk.dir ++ newMsg s e.bk.dir e.key.seq (.reannounce {
          key := e.key, bk := e.bk,
          active := e.state == .active, targets := s.recov.pendingSet &&& holders s.ring e.key e.bk }) :: rest
      ∧ (t.recov.walk = none ∨ ∃ j, i < j ∧ t.recov.walk = some j)
      ∧ changesOnly [.lane, .recov] s t)

/-- CHARGE_TAKE takes the head of the close queue. CHARGE_COMPLETION adds a bound entry's line to its record and frees the entry, or keeps an unbound one's line and
makes it Charged, with LineCharged and an Idle unit. The record takes the line's charge and flags, Saturated where total or contributions are capped, and raises MatchFlag
for the enabled flags that the line sets first; the last pending line of a Closing record makes it Closed with MatchReady (R167, R168, R178, R182, R188). -/
def Obligations.ChargeUnitWorks : Prop :=
  (∀ (s : State) (i : Nat) (rest : List Nat), s.bill.charge = none → s.bill.closeQueue = i :: rest →
    exec .chargeTake s = .next { s with bill := { s.bill with charge := some i, closeQueue := rest } })
  ∧ (∀ (s : State) (i : Nat) (e : Entry) (m : Meter), s.bill.charge = some i → s.entry i = some e → e.state = .closing → e.meter = some m →
    s.phase = .normal →
    (∀ cause, m.binding = .unbound cause →
      ∃ t, exec .chargeCompletion s = .next t
        ∧ t.entries = s.entries.set i (some { e with state := .charged, meter := some { m with charged := some (lineOf s e m) } })
        ∧ t.bill = { s.bill with charge := none }
        ∧ noticeAt t (sourceEntry i) = some (.lineCharged e.key (lineOf s e m).port m.a (lineOf s e m).billable (lineOf s e m).charge
            (lineOf s e m).flags (.charged cause))
        ∧ changesOnly [.entries, .bill, .site] s t)
    ∧ (∀ n r, m.binding = .bound n → s.record n = some r → r.state = .opened →
      ∃ t x, exec .chargeCompletion s = .next t
        ∧ t.entry i = none ∧ (∀ j, j ≠ i → t.entry j = s.entry j) ∧ t.bill.charge = none ∧ t.bill.closeQueue = s.bill.closeQueue
        ∧ t.record n = some x ∧ x.state = .opened ∧ lineAdded r x (lineOf s e m) (r.pending - 1) s.now
        ∧ (i < 64 → flagsTold s t n r x (lineOf s e m))
        ∧ noticeAt t (sourceEntry i) = some (.lineCharged e.key (lineOf s e m).port m.a (lineOf s e m).billable (lineOf s e m).charge
            (lineOf s e m).flags .placed)
        ∧ changesOnly [.entries, .bridged, .bill, .site] s t)
    ∧ (∀ n r, m.binding = .bound n → s.record n = some r → r.state = .closing → i < 64 → n < 16 →
      ∃ t x, exec .chargeCompletion s = .next t
        ∧ t.entry i = none ∧ t.bill.charge = none ∧ t.bill.closeQueue = s.bill.closeQueue
        ∧ t.record n = some x ∧ lineAdded r x (lineOf s e m) (r.pending - 1) s.now
        ∧ (2 ≤ r.pending → x.state = .closing ∧ flagsTold s t n r x (lineOf s e m) ∧ (∀ j, j ≠ i → t.entry j = s.entry j))
        ∧ (r.pending ≤ 1 → x.state = .closed
            ∧ noticeAt t (sourceRecord n) = some (.matchReady r.matchId x.total x.contributions x.folded x.flags))
        ∧ noticeAt t (sourceEntry i) = some (.lineCharged e.key (lineOf s e m).port m.a (lineOf s e m).billable (lineOf s e m).charge
            (lineOf s e m).flags .placed)
        ∧ changesOnly [.entries, .bridged, .bill, .site] s t))

/-- The charge arithmetic: the clean seconds, the floor and the billable seconds (R172), the numerator exactly and its greatest value (R173), the quotient by the
rounding mode (R174), the line charge with its greatest value, and the seven line flags (R175). -/
def Obligations.ChargeStages : Prop :=
  (∀ c : ChargeInput, c.meter.f + c.meter.x + c.meter.z ≤ c.meter.a →
      stageClean c + (c.meter.f + c.meter.x + c.meter.z) = c.meter.a)
  ∧ (∀ c : ChargeInput,
      (0 < c.meter.a → c.meter.isPartial = false → stageFloor c = (c.window - c.meter.f - c.meter.x) * c.tariff.minimum / 100)
      ∧ (c.meter.a = 0 → stageFloor c = 0) ∧ (c.meter.isPartial = true → stageFloor c = 0)
      ∧ (stageClean c ≤ stageFloor c → stageBillable c = stageFloor c) ∧ (stageFloor c ≤ stageClean c → stageBillable c = stageClean c))
  ∧ (∀ c : ChargeInput, (0 < c.meter.a → stageCharge c = stageQuotient c.tariff.rounding (stageNumerator c) + c.tariff.fee)
      ∧ (c.meter.a = 0 → stageCharge c = 0))
  ∧ (∀ c : ChargeInput, c.meter.a ≤ 28800 → c.meter.p ≤ 28800 → c.window ≤ 28800 → c.tariff.minimum ≤ 100 → c.tariff.rate ≤ 65535 →
      c.tariff.surcharge ≤ 65535 → c.tariff.fee ≤ 65535 → c.lanes ≤ 4 → stageBillable c ≤ 28800 ∧ stageCharge c ≤ 157349535)
  ∧ (∀ (k : Key) (port : Nat) (c : ChargeInput),
      (chargeLine k port c).key = k ∧ (chargeLine k port c).port = port
      ∧ (chargeLine k port c).billable = stageBillable c ∧ (chargeLine k port c).charge = stageCharge c
      ∧ (List.range 8).map (chargeLine k port c).flags.getLsbD = [
          decide (0 < c.meter.f), decide (0 < c.meter.x), decide (0 < c.meter.z), decide (0 < c.meter.g), c.meter.isPartial,
          decide (stageClean c < stageFloor c), decide (stageNumerator c % 60 ≠ 0), false])
  ∧ (∀ (k : Key) (port : Nat) (c : ChargeInput), c.meter.lawful → c.meter.a = 0 →
      (chargeLine k port c).billable = 0 ∧ stageNumerator c = 0 ∧ (chargeLine k port c).charge = 0
      ∧ (chargeLine k port c).flags = if c.meter.isPartial = true then flagPartial else 0)
  ∧ (∀ c : ChargeInput, stageNumerator c = stageBillable c * c.tariff.rate * c.lanes + c.meter.p * c.tariff.surcharge)
  ∧ (∀ c : ChargeInput, c.meter.a ≤ 28800 → c.meter.p ≤ 28800 → c.window ≤ 28800 → c.tariff.minimum ≤ 100 → c.tariff.rate ≤ 65535 →
      c.tariff.surcharge ≤ 65535 → c.lanes ≤ 4 →
      stageNumerator c ≤ 9437040000 ∧ ∀ mode, stageQuotient mode (stageNumerator c) ≤ 157284000)
  ∧ (∃ c : ChargeInput, c.meter.a ≤ 28800 ∧ c.meter.p ≤ 28800 ∧ c.window ≤ 28800 ∧ c.tariff.minimum ≤ 100 ∧ c.tariff.rate ≤ 65535 ∧
      c.tariff.surcharge ≤ 65535 ∧ c.lanes ≤ 4 ∧ stageNumerator c = 9437040000)
  ∧ (∀ n, stageQuotient .down n = n / 60)
  ∧ (∀ n, stageQuotient .up n = if n % 60 = 0 then n / 60 else n / 60 + 1)
  ∧ (∀ n, (n % 60 < 30 → stageQuotient .nearest n = n / 60) ∧ (30 < n % 60 → stageQuotient .nearest n = n / 60 + 1)
      ∧ (n % 60 = 30 → stageQuotient .nearest n % 2 = 0
          ∧ (stageQuotient .nearest n = n / 60 ∨ stageQuotient .nearest n = n / 60 + 1)))

/-! ### Timers -/

/-- MARK_TIMER_EXPIRY queues one MARK east unless one waits, and starts the timer again from its deadline, to which it brings the local time (log 2). SECOND_BOUNDARY completes 1,000 ms of local time and advances ring seconds by one with fraction 0; a Held entry whose
start it is becomes Active with its working layers and its output's sources written and, at a drop, its match binding taken, an Active entry whose end it is has its
layers and its output cleared, a drop among them becoming Closing in the close queue, an Active drop's protection state, deadlines and resend count follow the table
of R138 on its two closed records, with its selector and its notice, a drop's meter counts the second that ended under the heading of Table 9-2 and a drop still Active begins the next
second with its latches at its selector and its Preempted flag as the boundary leaves them, and a watched lane's overlay follows its
check-failed frames (R24, R28, R30, R109, R112, R124, R125, R138 to R142, R159 to R161, R164, R179, R180). Three points are the model's choice and rest on no rule: a marker that already stands in Bridging, whatever
set it, counts as a resend that waits and does not raise the resend count (log 38, in tableRow); a Preempted flag both set and cleared at
one boundary leaves the latch of the next second clear (log 23, in latchesFollow); and where R28 leaves the order of the station's work within a boundary
open, it is that of log 6. The match binding is stated where no other entry starts and no other waits for its record. -/
def Obligations.MarkAndBoundary : Prop :=
  (∀ (s : State) (d : Nat), s.clock.markDeadline = some d → s.clock.synced = true →
    (markWaits s = false → canJoin s .east = true →
      ∃ t, exec .markTimerExpiry s = .next t
        ∧ joins s t .east s.lane.counter .mark ∧ t.lane.counter = (s.lane.counter + 1) % 65536
        ∧ timeCame s t d ∧ t.clock.markDeadline = some (max s.nowMs d + 10000)
        ∧ changesOnly [.nowMs, .clock, .lane] s t)
    ∧ (markWaits s = true →
      ∃ t, exec .markTimerExpiry s = .next t
        ∧ timeCame s t d ∧ t.clock.markDeadline = some (max s.nowMs d + 10000) ∧ changesOnly [.nowMs, .clock] s t))
  ∧ (∀ s : State, s.clock.synced = true → s.clock.seconds < 4294967295 →
    ∃ t, exec .secondBoundary s = .next t
      ∧ t.clock.synced = true ∧ t.clock.seconds = s.clock.seconds + 1 ∧ t.clock.markDeadline = s.clock.markDeadline
      ∧ t.nowMs = s.nowMs + (1000 - s.clock.ran)
      ∧ (s.clock.ran ≤ 1000 → t.clock.fraction = 0 ∧ t.clock.late = 0)
      ∧ (1000 ≤ s.clock.ran → s.clock.seconds + 1 < 4294967295 → t.clock.ran + 1000 = s.clock.ran)
      ∧ (s.clock.seconds + 1 = 4294967295 → t.clock.fraction = 0 ∧ t.clock.late = 0)
      ∧ (∀ i e, i < 64 → s.entry i = some e → e.state = .held → e.bk.winStart = s.clock.seconds + 1 → e.marker = none →
          (t.entry i).map Entry.state = some .active)
      ∧ (∀ i e, i < 64 → s.entry i = some e → e.state = .active → e.bk.winEnd = s.clock.seconds + 1 → e.meter ≠ none →
          (t.entry i).map Entry.state = some .closing ∧ i ∈ t.bill.closeQueue)
      ∧ (identityLaw s → s.switch.cells.length = 48 → s.switch.outputs.length = 8 → ∀ i e, i < 64 → s.entry i = some e →
          e.state = .held → e.bk.winStart = s.clock.seconds + 1 → e.marker = none → e.bk.first + e.bk.count ≤ 24 → startsApart s i e →
          (hasWorkSpan e.roles = true → ∀ j, j < e.bk.count → (t.cell e.bk.dir (e.bk.first + j)).working
            = some { src := layerSource (e.roles.contains .origin) e.bk.input j, owner := e.key, index := i })
          ∧ (∀ p, isDropEntry e = true → outPort e.bk s.self = some p → p < 8 →
            (t.output p).working = some (outSourceOf i e e.bk.dir)
            ∧ (t.output p).protection = (if hasProtDrop e.roles then some (outSourceOf i e (opp e.bk.dir)) else none)))
      ∧ (identityLaw s → ∀ i e, i < 64 → s.entry i = some e → e.state = .active → e.bk.winEnd = s.clock.seconds + 1 →
          (hasWorkSpan e.roles = true → ∀ j, j < e.bk.count → ownedBy (t.cell e.bk.dir (e.bk.first + j)).working e.key = false)
          ∧ (hasProtSpan e.roles = true → ∀ j, j < e.bk.count →
              ownedBy (t.cell (opp e.bk.dir) (e.bk.first + j)).protection e.key = false)
          ∧ (∀ p, entryOut s e = some p → outputOwner (t.output p) ≠ some e.key))
      ∧ (∀ i e m p, i < 64 → s.entry i = some e → e.state = .active → e.paths = some p → e.meter = some m →
          m.countsAt (s.clock.seconds + 1) = true →
          ∃ f n r, t.entry i = some f ∧ f.meter = some n ∧ f.paths.bind Paths.selected = some r
            ∧ countedAs m n (e.bk.cls == .extra) r ∧ (∀ c, p.selOpen = some c → r.cond = c))
      ∧ (∀ i f n, i < 64 → t.entry i = some f → f.state = .active → f.meter = some n → latchesFollow t f n)
      ∧ classesByTable
      ∧ (∀ i e p, i < 64 → s.entry i = some e → e.state = .active → e.bk.winEnd ≠ s.clock.seconds + 1 → e.marker = none → e.prot = some p →
          e.paths ≠ none →
          ∃ f w r q, t.entry i = some f ∧ f.paths.bind Paths.working = some w ∧ f.paths.bind Paths.protection = r ∧ f.prot = some q
            ∧ tableRow s.cfg t.nowMs e (classOf w) (protClassOf r) (if protClassOf r = .good then 0 else p.resends) p q
            ∧ (q.resends = (if protClassOf r = .good then 0 else p.resends) + 1 → askedAgain t i e)
            ∧ (q.state ≠ p.state → identityLaw s → ∀ x, entryOut s e = some x → outputOwner (t.output x) = some e.key →
                (t.output x).selector = q.state.selector)
            ∧ (q.state ≠ p.state → s.phase = .normal → e.preempted = none → ∃ before cause,
                noticeAt t (sourceEntry i)
                  = some (.protectionState e.key before q.state cause q.state.selector (s.clock.seconds + 1))))
      ∧ (∀ i e m, i < 64 → s.entry i = some e → e.state = .held → e.bk.winStart = s.clock.seconds + 1 → e.marker = none →
          e.paths.bind Paths.working = none → e.meter = some m → m.binding = .none → s.phase = .normal → onlyWaiting s i e.bk.matchId → nothingEnds s (s.clock.seconds + 1) →
          (∀ j g, j ≠ i → s.entry j = some g → g.state = .held → g.bk.winStart ≠ s.clock.seconds + 1) →
          placedByTable s t i { e with state := .active } { m with firstActive := some (s.clock.seconds + 1) })
      ∧ (nothingEnds s (s.clock.seconds + 1) → s.mons.lanes.length = 48 → ∀ port lane, lane < 24 → (s.mon port lane).watched = true →
          overlayTaken s.cfg.threshold (s.mon port lane) (t.mon port lane))
      ∧ changesOnly [.nowMs, .clock, .lane, .entries, .claims, .switch, .mons, .bridged, .bill, .site] s t)

/-- Timers take their effect at their deadline (log 2). CIRCUIT_TIMEOUT makes the result Unreachable; the two lifetime expiries free a Tentative entry and remove an extension part, with TentativeLapsed; AGE_DEADLINE
discards its record (R55, R65, R69, R71). -/
def Obligations.ClaimTimers : Prop :=
  (∀ (s : State) (n i d : Nat) (c : ClaimSlot) (e : Entry), s.phase = .normal → s.slot n = some c → c.state = .awaiting d → c.mode = .new →
    findEntry s c.key = some (i, e) → e.state = .tentative → canJoin s c.req.dir = true →
    ∃ t, exec (.circuitTimeout n) s = .next t
      ∧ t.entry i = none ∧ (∀ j, j ≠ i → t.entry j = s.entry j) ∧ t.slot n = none
      ∧ joins s t c.req.dir c.key.seq (.abandon .new)
      ∧ noticeAt t (sourceSlot n) = some (.bookingOutcome .new c.firstKey c.key c.attempt (.unreachable none))
      ∧ timeCame s t d ∧ t.clock.markDeadline = s.clock.markDeadline
      ∧ changesOnly [.nowMs, .clock, .lane, .entries, .claims, .bridged, .site] s t)
  ∧ (∀ (s : State) (i d : Nat) (e : Entry), s.phase = .normal → s.entry i = some e → e.state = .tentative → e.lifetime = some d →
    ∃ t, exec (.tentativeLifetimeExpiry i) s = .next t
      ∧ t.entry i = none ∧ (∀ j, j ≠ i → t.entry j = s.entry j) ∧ t.claims = s.claims
      ∧ noticeAt t (sourceEntry i) = some (.tentativeLapsed e.key .new)
      ∧ timeCame s t d ∧ t.clock.markDeadline = s.clock.markDeadline
      ∧ changesOnly [.nowMs, .clock, .entries, .bridged, .site] s t)
  ∧ (∀ (s : State) (i d : Nat) (e : Entry) (x : ExtPart), s.phase = .normal → s.entry i = some e → e.ext = some x → x.lifetime = some d →
    ∃ t, exec (.extensionLifetimeExpiry i) s = .next t
      ∧ t.entries = s.entries.set i (some { e with ext := none }) ∧ t.claims = s.claims
      ∧ noticeAt t (sourceEntry i) = some (.tentativeLapsed e.key .extend)
      ∧ timeCame s t d ∧ t.clock.markDeadline = s.clock.markDeadline
      ∧ changesOnly [.nowMs, .clock, .entries, .site] s t)
  ∧ (∀ (s : State) (k : Key) (mode : Mode) (r : Recent), findRecent s k mode = some r →
    ∃ t, exec (.ageDeadline k mode) s = .next t
      ∧ findRecent t k mode = none ∧ t.claims.slots = s.claims.slots
      ∧ (∀ x ∈ s.claims.recent, ¬ (x.key = k ∧ x.mode = mode) → x ∈ t.claims.recent)
      ∧ timeCame s t r.age ∧ t.clock.markDeadline = s.clock.markDeadline ∧ changesOnly [.nowMs, .clock, .claims] s t)

/-- RETRY_DEADLINE: a New claim whose checks pass takes a fresh sequence, a Tentative entry and the next attempt with its CLAIM; a window too near ends it with BadWindow; a
failed test ends it with the test's result (R70). The circuit deadline counts from the retry deadline, to which the command brings the local time (log 2). An Extend
retry and a full queue are not stated here. -/
def Obligations.RetryTries : Prop :=
  ∀ (s : State) (n d : Nat) (c : ClaimSlot), s.phase = .normal → s.slot n = some c → c.state = .retryWait d → c.mode = .new →
    (∀ i, s.now < c.req.winStart → testNew s none (newCandidate s (nextKey s) c.req) = .pass → firstFree s.entries = some i →
      canJoin s c.req.dir = true →
      ∃ t, exec (.retryDeadline n) s = .next t
        ∧ t.entries = s.entries.set i (some (freshEntry (nextKey s) c.req (rolesOf s.ring (nextKey s) c.req s.self) .tentative none false))
        ∧ t.slot n = some { c with state := .awaiting (max s.nowMs d + 500), key := nextKey s, attempt := c.attempt + 1 }
        ∧ t.claims.seqCounter = ((nextKey s).seq + 1) % 65536
        ∧ joins s t c.req.dir (nextKey s).seq (.claim { mode := .new, bk := c.req, verdict := .clear, assessed := stationBit s.self })
        ∧ timeCame s t d ∧ t.clock.markDeadline = s.clock.markDeadline
        ∧ changesOnly [.nowMs, .clock, .lane, .entries, .claims] s t)
    ∧ (c.req.winStart ≤ s.now →
      ∃ t, exec (.retryDeadline n) s = .next t ∧ t.slot n = none
        ∧ noticeAt t (sourceSlot n) = some (.bookingOutcome .new c.firstKey c.key c.attempt (.refused .badWindow s.self))
        ∧ timeCame s t d ∧ t.clock.markDeadline = s.clock.markDeadline ∧ changesOnly [.nowMs, .clock, .claims, .site] s t)
    ∧ (∀ r first, s.now < c.req.winStart → testNew s none (newCandidate s (nextKey s) c.req) = .fails r first →
      ∃ t, exec (.retryDeadline n) s = .next t ∧ t.slot n = none
        ∧ noticeAt t (sourceSlot n) = some (.bookingOutcome .new c.firstKey c.key c.attempt (.refused r s.self))
        ∧ timeCame s t d ∧ t.clock.markDeadline = s.clock.markDeadline ∧ changesOnly [.nowMs, .clock, .claims, .site] s t)

/-- HOLD_OFF_EXPIRY brings a drop to Bridging, or at once to Protected when its bridge flag is On, and asks for the bridge; RESTORE_WAIT_EXPIRY returns it to Working and
withdraws the request (R139, R141, R143). The local time comes up to the deadline by the model's choice (log 2). -/
def Obligations.ProtectionTimers : Prop :=
  (∀ (s : State) (i d : Nat) (e : Entry) (p : ProtPart) (r : Request), s.phase = .normal → s.entry i = some e → e.state = .active →
    e.prot = some p → p.state = .holdOff → p.holdOff = some d → e.request = some r → r.announced = false → canJoinProt s e.bk.dir = true →
    ∃ t q, exec (.holdOffExpiry i) s = .next t
      ∧ (t.entry i).bind Entry.prot = some q ∧ q.holdOff = none ∧ q.resends = 0
      ∧ q.state = (if e.bridgeFlag = some true then .protecting else .bridging)
      ∧ (t.entry i).bind Entry.request = some { announced := true, toSend := false }
      ∧ joins s t e.bk.dir e.key.seq (.switchreq e.key s.self true)
      ∧ (∀ j, j ≠ i → t.entry j = s.entry j)
      ∧ timeCame s t d ∧ t.clock.markDeadline = s.clock.markDeadline
      ∧ changesOnly [.nowMs, .clock, .lane, .entries, .switch, .site] s t)
  ∧ (∀ (s : State) (i d : Nat) (e : Entry) (p : ProtPart) (r : Request), s.phase = .normal → s.entry i = some e → e.state = .active →
    e.prot = some p → p.state = .restoreWait → p.restoreWait = some d → e.request = some r → r.announced = true →
    canJoinProt s e.bk.dir = true →
    ∃ t q, exec (.restoreWaitExpiry i) s = .next t
      ∧ (t.entry i).bind Entry.prot = some q ∧ q.state = .working ∧ q.restoreWait = none
      ∧ selectorWritten s t e .working
      ∧ (t.entry i).bind Entry.request = some { announced := false, toSend := false }
      ∧ joins s t e.bk.dir e.key.seq (.switchreq e.key s.self false)
      ∧ noticeAt t (sourceEntry i) = some (.protectionState e.key .restoreWait .working .restoreExpiry .working s.now)
      ∧ (∀ j, j ≠ i → t.entry j = s.entry j)
      ∧ timeCame s t d ∧ t.clock.markDeadline = s.clock.markDeadline
      ∧ changesOnly [.nowMs, .clock, .lane, .entries, .switch, .site] s t)

/-- RESEND_DEADLINE sends a further RECALL after one or two sends; after three it ends recovery, as QUIET_DEADLINE and RECOVERY_LIMIT do, each with its cause, and after a cold
restart every cell without a layer stands Idle; QUERY_DEADLINE clears the pending query with NoAnswer (R87, R89, R97, R116, R191). The next deadline counts from the
one reached, to which the command brings the local time (log 2). -/
def Obligations.RecoveryAndQueryTimers : Prop :=
  (∀ (s : State) (d : Nat), s.recov.state = .recovering → s.recov.resend = some d → s.recov.sends < 3 → canJoin s .east = true →
    ∃ t, exec .resendDeadline s = .next t
      ∧ joins s t .east s.lane.counter .recallReq ∧ t.lane.counter = (s.lane.counter + 1) % 65536
      ∧ t.recov = { s.recov with
          sends := s.recov.sends + 1, lastSeq := some s.lane.counter, resend := some (max s.nowMs d + 500) }
      ∧ timeCame s t d ∧ t.clock.markDeadline = s.clock.markDeadline ∧ changesOnly [.nowMs, .clock, .lane, .recov] s t)
  ∧ (∀ (s : State) (c : Instr) (cause : EndCause) (d : Nat), s.phase = .normal → s.recov.state = .recovering →
      ((c = .resendDeadline ∧ cause = .incomplete ∧ s.recov.resend = some d ∧ 3 ≤ s.recov.sends)
        ∨ (c = .quietDeadline ∧ cause = .quiet ∧ s.recov.quiet = some d)
        ∨ (c = .recoveryLimit ∧ cause = .timeLimit ∧ s.recov.limit = some d)) →
    ∃ t, exec c s = .next t
      ∧ t.recov.state = .normal ∧ t.recov.resend = none ∧ t.recov.quiet = none ∧ t.recov.limit = none
      ∧ noticeAt t sourceRecall
          = some (.recoveryEnded cause s.recov.kind s.recov.installed s.recov.duplicates s.recov.conflicts)
      ∧ (s.recov.kind = .cold → ∀ x ∈ t.switch.cells, x.working = none → x.protection = none → x.standing = .idle)
      ∧ (s.recov.kind = .warm → t.switch = s.switch)
      ∧ (∀ n, s.recov.highestOwn = some n → t.claims.seqCounter = (n + 1) % 65536)
      ∧ (s.recov.highestOwn = none → t.claims = s.claims)
      ∧ timeCame s t d ∧ t.clock.markDeadline = s.clock.markDeadline
      ∧ changesOnly [.nowMs, .clock, .lane, .claims, .recov, .switch, .site] s t)
  ∧ (∀ (s : State) (q : Query), s.phase = .normal → s.bill.query = some q →
    ∃ t, exec .queryDeadline s = .next t
      ∧ t.bill = { s.bill with query := none } ∧ noticeAt t sourceQuery = some (.queryResult q.target q.matchId .noAnswer)
      ∧ timeCame s t q.deadline ∧ t.clock.markDeadline = s.clock.markDeadline ∧ changesOnly [.nowMs, .clock, .bill, .site] s t)

/-! ### Monitors and frames -/

/-- The span monitors: a loss brings an Up span Down with its report, and stops a confirmation without one; light and framing start 2,000 ms of confirmation, whose end brings the
span Up with its report and brings the local time to its deadline (log 2). An input monitor follows its input and counts its changes (R129, R131, R132). -/
def Obligations.SpanAndInputMonitors : Prop :=
  (∀ (s : State) (side : Dir) (cause : LossCause), s.phase = .normal → (s.span side).up = true →
    ∃ t, exec (.spanLoss side cause) s = .next t
      ∧ t.span side = { up := false, confirm := none } ∧ t.span (opp side) = s.span (opp side)
      ∧ noticeAt t (sourceSpan side) = some (.spanState side false (causeOf cause) s.now)
      ∧ (canJoinProt s .east = true → joins s t .east s.lane.counter (.spanstate side false))
      ∧ (canJoinProt s .east = false → queuesKept s t)
      ∧ changesOnly [.pins, .mons, .lane, .site] s t)
  ∧ (∀ (s : State) (side : Dir) (cause : LossCause), s.phase = .normal → (s.span side).up = false →
    ∃ t, exec (.spanLoss side cause) s = .next t
      ∧ t.span side = { up := false, confirm := none } ∧ queuesKept s t ∧ changesOnly [.pins, .mons, .lane] s t)
  ∧ (∀ (s : State) (side : Dir), s.phase = .normal → s.span side = { up := false, confirm := none } →
    ∃ t, exec (.spanSignalReturn side) s = .next t
      ∧ t.span side = { up := false, confirm := some (s.nowMs + 2000) } ∧ t.span (opp side) = s.span (opp side)
      ∧ changesOnly [.pins, .mons] s t)
  ∧ (∀ (s : State) (side : Dir) (d : Nat), s.phase = .normal → (s.span side).confirm = some d →
    ∃ t, exec (.spanConfirmed side) s = .next t
      ∧ t.span side = { up := true, confirm := none } ∧ t.span (opp side) = s.span (opp side)
      ∧ noticeAt t (sourceSpan side) = some (.spanState side true .confirmed s.now)
      ∧ (canJoinProt s .east = true → joins s t .east s.lane.counter (.spanstate side true))
      ∧ timeCame s t d ∧ t.clock.markDeadline = s.clock.markDeadline
      ∧ changesOnly [.nowMs, .clock, .mons, .lane, .site] s t)
  ∧ (∀ (s : State) (port : Nat) (isPresent : Bool) (m : InputMon), s.phase = .normal → s.mons.inputs[port]? = some m →
    ∃ t, exec (.inputStateChange port isPresent) s = .next t
      ∧ (t.input port).isPresent = isPresent
      ∧ (t.input port).changes = (if m.isPresent = isPresent then m.changes else min 255 (m.changes + 1))
      ∧ changesOnly [.pins, .mons] s t)

/-- LANE_FRAME_PERIOD: each watch place takes the condition of its lane's frame by the six cases of R121; each cell transmits by its layers, else by its standing source,
with fail fill in place of a Through that has no frame or a Down span; an output delivers the payloads of its selected lanes exactly when every one of them carries its
owner's tag with Feed (R99 to R103, R106, R107, R121, R122). That a monitor keeps no frame while a cold reset lasts is the model's reading (log 40). -/
def Obligations.LaneFramePeriodWorks : Prop :=
  (∀ (k : Key) (keys : List Key), judgesBySix k keys)
  ∧ ∀ (s : State) (p : Period), s.mons.lanes.length = 48 →
    ∃ t, exec (.laneFramePeriod p.westIn p.eastIn p.inputs) s = .next t
      ∧ (∀ port lane, lane < 24 →
          (t.mon port lane).framed = (p.frame port lane).isSome
          ∧ (∀ f, s.phase.isCold = false → p.frame port lane = some f → (t.mon port lane).last = some (readTag f.tag, readContent f.content))
          ∧ (s.phase.isCold = true ∨ p.frame port lane = none → (t.mon port lane).last = (s.mon port lane).last)
          ∧ (∀ x, (s.mon port lane).working = some x → ((t.mon port lane).working.bind Place.opened)
              = worseOpen x.opened (judge x.owner s.bridged.keys (s.span port).up (p.seen port lane)))
          ∧ (∀ x, (s.mon port lane).protection = some x → ((t.mon port lane).protection.bind Place.opened)
              = worseOpen x.opened (judge x.owner s.bridged.keys (s.span port).up (p.seen port lane))))
      ∧ (∀ d lane, lane < 24 → ∃ f, t.switch.tx[cellAt d lane]? = some f
          ∧ ((s.cell d lane).protection = none → (s.cell d lane).working = none →
              ((s.cell d lane).standing = .idle → isFill f 1)
              ∧ (∀ g, (s.cell d lane).standing = .through → (s.span (inPort d)).up = true → p.frame (inPort d) lane = some g → f = g)
              ∧ ((s.cell d lane).standing = .through → ((s.span (inPort d)).up = false ∨ p.frame (inPort d) lane = none) → isFill f 2))
          ∧ (∀ l, ((s.cell d lane).protection = some l ∨ ((s.cell d lane).protection = none ∧ (s.cell d lane).working = some l)) →
              (∀ q j, l.src = .add q j → f.tag = tagOf (some l.owner) ∧ f.content = (if (s.input q).isPresent then 0 else 1)
                ∧ f.payload = (if (s.input q).isPresent then p.payload q j else []) ∧ checkFails f = false)
              ∧ (∀ g, l.src = .through → (s.span (inPort d)).up = true → p.frame (inPort d) lane = some g → f = g)
              ∧ (l.src = .through → ((s.span (inPort d)).up = false ∨ p.frame (inPort d) lane = none) → isFill f 2)))
      ∧ (∀ q o x, s.switch.outputs[q]? = some o → o.selected = some x →
          ((t.output q).delivered = true ↔ ∀ j, j < x.count → ∃ f, p.frame (inPort x.dir) (x.first + j) = some f
            ∧ readTag f.tag = some x.owner ∧ readContent f.content = .feed)
          ∧ ((t.output q).delivered = true → (t.output q).payload.length = x.count
            ∧ ∀ j f, j < x.count → p.frame (inPort x.dir) (x.first + j) = some f → (t.output q).payload[j]? = some f.payload)
          ∧ ((t.output q).delivered = false → (t.output q).payload = []))
      ∧ t.switch.cells = s.switch.cells
      ∧ changesOnly [.entries, .switch, .mons] s t
end

