-- ==== Sys2Proof/Laws/State.lean ====
section
/-! SUPPORT. One lemma per field per named update of the state: the updated field has the new value, every other field is kept. -/

namespace Sys2Proof.Machine

@[simp] theorem State.withPhase_phase (s : State) (v : Phase) : (s.withPhase v).phase = v := rfl
@[simp] theorem State.withPhase_cfg (s : State) (v : Phase) : (s.withPhase v).cfg = s.cfg := rfl
@[simp] theorem State.withPhase_nowMs (s : State) (v : Phase) : (s.withPhase v).nowMs = s.nowMs := rfl
@[simp] theorem State.withPhase_pins (s : State) (v : Phase) : (s.withPhase v).pins = s.pins := rfl
@[simp] theorem State.withPhase_clock (s : State) (v : Phase) : (s.withPhase v).clock = s.clock := rfl
@[simp] theorem State.withPhase_lane (s : State) (v : Phase) : (s.withPhase v).lane = s.lane := rfl
@[simp] theorem State.withPhase_entries (s : State) (v : Phase) : (s.withPhase v).entries = s.entries := rfl
@[simp] theorem State.withPhase_claims (s : State) (v : Phase) : (s.withPhase v).claims = s.claims := rfl
@[simp] theorem State.withPhase_recov (s : State) (v : Phase) : (s.withPhase v).recov = s.recov := rfl
@[simp] theorem State.withPhase_switch (s : State) (v : Phase) : (s.withPhase v).switch = s.switch := rfl
@[simp] theorem State.withPhase_mons (s : State) (v : Phase) : (s.withPhase v).mons = s.mons := rfl
@[simp] theorem State.withPhase_bridged (s : State) (v : Phase) : (s.withPhase v).bridged = s.bridged := rfl
@[simp] theorem State.withPhase_bill (s : State) (v : Phase) : (s.withPhase v).bill = s.bill := rfl
@[simp] theorem State.withPhase_site (s : State) (v : Phase) : (s.withPhase v).site = s.site := rfl
@[simp] theorem State.withPhase_freeCount (s : State) (v : Phase) : (s.withPhase v).freeCount = s.freeCount := rfl
@[simp] theorem State.withPhase_pending (s : State) (v : Phase) : (s.withPhase v).pending = s.pending := rfl

@[simp] theorem State.withCfg_phase (s : State) (v : Cfg) : (s.withCfg v).phase = s.phase := rfl
@[simp] theorem State.withCfg_cfg (s : State) (v : Cfg) : (s.withCfg v).cfg = v := rfl
@[simp] theorem State.withCfg_nowMs (s : State) (v : Cfg) : (s.withCfg v).nowMs = s.nowMs := rfl
@[simp] theorem State.withCfg_pins (s : State) (v : Cfg) : (s.withCfg v).pins = s.pins := rfl
@[simp] theorem State.withCfg_clock (s : State) (v : Cfg) : (s.withCfg v).clock = s.clock := rfl
@[simp] theorem State.withCfg_lane (s : State) (v : Cfg) : (s.withCfg v).lane = s.lane := rfl
@[simp] theorem State.withCfg_entries (s : State) (v : Cfg) : (s.withCfg v).entries = s.entries := rfl
@[simp] theorem State.withCfg_claims (s : State) (v : Cfg) : (s.withCfg v).claims = s.claims := rfl
@[simp] theorem State.withCfg_recov (s : State) (v : Cfg) : (s.withCfg v).recov = s.recov := rfl
@[simp] theorem State.withCfg_switch (s : State) (v : Cfg) : (s.withCfg v).switch = s.switch := rfl
@[simp] theorem State.withCfg_mons (s : State) (v : Cfg) : (s.withCfg v).mons = s.mons := rfl
@[simp] theorem State.withCfg_bridged (s : State) (v : Cfg) : (s.withCfg v).bridged = s.bridged := rfl
@[simp] theorem State.withCfg_bill (s : State) (v : Cfg) : (s.withCfg v).bill = s.bill := rfl
@[simp] theorem State.withCfg_site (s : State) (v : Cfg) : (s.withCfg v).site = s.site := rfl
@[simp] theorem State.withCfg_freeCount (s : State) (v : Cfg) : (s.withCfg v).freeCount = s.freeCount := rfl
@[simp] theorem State.withCfg_pending (s : State) (v : Cfg) : (s.withCfg v).pending = s.pending := rfl

@[simp] theorem State.withNowMs_phase (s : State) (v : Nat) : (s.withNowMs v).phase = s.phase := rfl
@[simp] theorem State.withNowMs_cfg (s : State) (v : Nat) : (s.withNowMs v).cfg = s.cfg := rfl
@[simp] theorem State.withNowMs_nowMs (s : State) (v : Nat) : (s.withNowMs v).nowMs = v := rfl
@[simp] theorem State.withNowMs_pins (s : State) (v : Nat) : (s.withNowMs v).pins = s.pins := rfl
@[simp] theorem State.withNowMs_clock (s : State) (v : Nat) : (s.withNowMs v).clock = s.clock := rfl
@[simp] theorem State.withNowMs_lane (s : State) (v : Nat) : (s.withNowMs v).lane = s.lane := rfl
@[simp] theorem State.withNowMs_entries (s : State) (v : Nat) : (s.withNowMs v).entries = s.entries := rfl
@[simp] theorem State.withNowMs_claims (s : State) (v : Nat) : (s.withNowMs v).claims = s.claims := rfl
@[simp] theorem State.withNowMs_recov (s : State) (v : Nat) : (s.withNowMs v).recov = s.recov := rfl
@[simp] theorem State.withNowMs_switch (s : State) (v : Nat) : (s.withNowMs v).switch = s.switch := rfl
@[simp] theorem State.withNowMs_mons (s : State) (v : Nat) : (s.withNowMs v).mons = s.mons := rfl
@[simp] theorem State.withNowMs_bridged (s : State) (v : Nat) : (s.withNowMs v).bridged = s.bridged := rfl
@[simp] theorem State.withNowMs_bill (s : State) (v : Nat) : (s.withNowMs v).bill = s.bill := rfl
@[simp] theorem State.withNowMs_site (s : State) (v : Nat) : (s.withNowMs v).site = s.site := rfl
@[simp] theorem State.withNowMs_freeCount (s : State) (v : Nat) : (s.withNowMs v).freeCount = s.freeCount := rfl
@[simp] theorem State.withNowMs_pending (s : State) (v : Nat) : (s.withNowMs v).pending = s.pending := rfl

@[simp] theorem State.withPins_phase (s : State) (v : Pins) : (s.withPins v).phase = s.phase := rfl
@[simp] theorem State.withPins_cfg (s : State) (v : Pins) : (s.withPins v).cfg = s.cfg := rfl
@[simp] theorem State.withPins_nowMs (s : State) (v : Pins) : (s.withPins v).nowMs = s.nowMs := rfl
@[simp] theorem State.withPins_pins (s : State) (v : Pins) : (s.withPins v).pins = v := rfl
@[simp] theorem State.withPins_clock (s : State) (v : Pins) : (s.withPins v).clock = s.clock := rfl
@[simp] theorem State.withPins_lane (s : State) (v : Pins) : (s.withPins v).lane = s.lane := rfl
@[simp] theorem State.withPins_entries (s : State) (v : Pins) : (s.withPins v).entries = s.entries := rfl
@[simp] theorem State.withPins_claims (s : State) (v : Pins) : (s.withPins v).claims = s.claims := rfl
@[simp] theorem State.withPins_recov (s : State) (v : Pins) : (s.withPins v).recov = s.recov := rfl
@[simp] theorem State.withPins_switch (s : State) (v : Pins) : (s.withPins v).switch = s.switch := rfl
@[simp] theorem State.withPins_mons (s : State) (v : Pins) : (s.withPins v).mons = s.mons := rfl
@[simp] theorem State.withPins_bridged (s : State) (v : Pins) : (s.withPins v).bridged = s.bridged := rfl
@[simp] theorem State.withPins_bill (s : State) (v : Pins) : (s.withPins v).bill = s.bill := rfl
@[simp] theorem State.withPins_site (s : State) (v : Pins) : (s.withPins v).site = s.site := rfl
@[simp] theorem State.withPins_freeCount (s : State) (v : Pins) : (s.withPins v).freeCount = s.freeCount := rfl
@[simp] theorem State.withPins_pending (s : State) (v : Pins) : (s.withPins v).pending = s.pending := rfl

@[simp] theorem State.withClock_phase (s : State) (v : Clock) : (s.withClock v).phase = s.phase := rfl
@[simp] theorem State.withClock_cfg (s : State) (v : Clock) : (s.withClock v).cfg = s.cfg := rfl
@[simp] theorem State.withClock_nowMs (s : State) (v : Clock) : (s.withClock v).nowMs = s.nowMs := rfl
@[simp] theorem State.withClock_pins (s : State) (v : Clock) : (s.withClock v).pins = s.pins := rfl
@[simp] theorem State.withClock_clock (s : State) (v : Clock) : (s.withClock v).clock = v := rfl
@[simp] theorem State.withClock_lane (s : State) (v : Clock) : (s.withClock v).lane = s.lane := rfl
@[simp] theorem State.withClock_entries (s : State) (v : Clock) : (s.withClock v).entries = s.entries := rfl
@[simp] theorem State.withClock_claims (s : State) (v : Clock) : (s.withClock v).claims = s.claims := rfl
@[simp] theorem State.withClock_recov (s : State) (v : Clock) : (s.withClock v).recov = s.recov := rfl
@[simp] theorem State.withClock_switch (s : State) (v : Clock) : (s.withClock v).switch = s.switch := rfl
@[simp] theorem State.withClock_mons (s : State) (v : Clock) : (s.withClock v).mons = s.mons := rfl
@[simp] theorem State.withClock_bridged (s : State) (v : Clock) : (s.withClock v).bridged = s.bridged := rfl
@[simp] theorem State.withClock_bill (s : State) (v : Clock) : (s.withClock v).bill = s.bill := rfl
@[simp] theorem State.withClock_site (s : State) (v : Clock) : (s.withClock v).site = s.site := rfl
@[simp] theorem State.withClock_freeCount (s : State) (v : Clock) : (s.withClock v).freeCount = s.freeCount := rfl
@[simp] theorem State.withClock_pending (s : State) (v : Clock) : (s.withClock v).pending = s.pending := rfl

@[simp] theorem State.withLane_phase (s : State) (v : Lanes) : (s.withLane v).phase = s.phase := rfl
@[simp] theorem State.withLane_cfg (s : State) (v : Lanes) : (s.withLane v).cfg = s.cfg := rfl
@[simp] theorem State.withLane_nowMs (s : State) (v : Lanes) : (s.withLane v).nowMs = s.nowMs := rfl
@[simp] theorem State.withLane_pins (s : State) (v : Lanes) : (s.withLane v).pins = s.pins := rfl
@[simp] theorem State.withLane_clock (s : State) (v : Lanes) : (s.withLane v).clock = s.clock := rfl
@[simp] theorem State.withLane_lane (s : State) (v : Lanes) : (s.withLane v).lane = v := rfl
@[simp] theorem State.withLane_entries (s : State) (v : Lanes) : (s.withLane v).entries = s.entries := rfl
@[simp] theorem State.withLane_claims (s : State) (v : Lanes) : (s.withLane v).claims = s.claims := rfl
@[simp] theorem State.withLane_recov (s : State) (v : Lanes) : (s.withLane v).recov = s.recov := rfl
@[simp] theorem State.withLane_switch (s : State) (v : Lanes) : (s.withLane v).switch = s.switch := rfl
@[simp] theorem State.withLane_mons (s : State) (v : Lanes) : (s.withLane v).mons = s.mons := rfl
@[simp] theorem State.withLane_bridged (s : State) (v : Lanes) : (s.withLane v).bridged = s.bridged := rfl
@[simp] theorem State.withLane_bill (s : State) (v : Lanes) : (s.withLane v).bill = s.bill := rfl
@[simp] theorem State.withLane_site (s : State) (v : Lanes) : (s.withLane v).site = s.site := rfl
@[simp] theorem State.withLane_freeCount (s : State) (v : Lanes) : (s.withLane v).freeCount = s.freeCount := rfl
@[simp] theorem State.withLane_pending (s : State) (v : Lanes) : (s.withLane v).pending = s.pending := rfl

@[simp] theorem State.withEntries_phase (s : State) (v : List (Option Entry)) : (s.withEntries v).phase = s.phase := rfl
@[simp] theorem State.withEntries_cfg (s : State) (v : List (Option Entry)) : (s.withEntries v).cfg = s.cfg := rfl
@[simp] theorem State.withEntries_nowMs (s : State) (v : List (Option Entry)) : (s.withEntries v).nowMs = s.nowMs := rfl
@[simp] theorem State.withEntries_pins (s : State) (v : List (Option Entry)) : (s.withEntries v).pins = s.pins := rfl
@[simp] theorem State.withEntries_clock (s : State) (v : List (Option Entry)) : (s.withEntries v).clock = s.clock := rfl
@[simp] theorem State.withEntries_lane (s : State) (v : List (Option Entry)) : (s.withEntries v).lane = s.lane := rfl
@[simp] theorem State.withEntries_entries (s : State) (v : List (Option Entry)) : (s.withEntries v).entries = v := rfl
@[simp] theorem State.withEntries_claims (s : State) (v : List (Option Entry)) : (s.withEntries v).claims = s.claims := rfl
@[simp] theorem State.withEntries_recov (s : State) (v : List (Option Entry)) : (s.withEntries v).recov = s.recov := rfl
@[simp] theorem State.withEntries_switch (s : State) (v : List (Option Entry)) : (s.withEntries v).switch = s.switch := rfl
@[simp] theorem State.withEntries_mons (s : State) (v : List (Option Entry)) : (s.withEntries v).mons = s.mons := rfl
@[simp] theorem State.withEntries_bridged (s : State) (v : List (Option Entry)) : (s.withEntries v).bridged = s.bridged := rfl
@[simp] theorem State.withEntries_bill (s : State) (v : List (Option Entry)) : (s.withEntries v).bill = s.bill := rfl
@[simp] theorem State.withEntries_site (s : State) (v : List (Option Entry)) : (s.withEntries v).site = s.site := rfl
@[simp] theorem State.withEntries_freeCount (s : State) (v : List (Option Entry)) : (s.withEntries v).freeCount = s.freeCount := rfl
@[simp] theorem State.withEntries_pending (s : State) (v : List (Option Entry)) : (s.withEntries v).pending = s.pending := rfl

@[simp] theorem State.withClaims_phase (s : State) (v : Claims) : (s.withClaims v).phase = s.phase := rfl
@[simp] theorem State.withClaims_cfg (s : State) (v : Claims) : (s.withClaims v).cfg = s.cfg := rfl
@[simp] theorem State.withClaims_nowMs (s : State) (v : Claims) : (s.withClaims v).nowMs = s.nowMs := rfl
@[simp] theorem State.withClaims_pins (s : State) (v : Claims) : (s.withClaims v).pins = s.pins := rfl
@[simp] theorem State.withClaims_clock (s : State) (v : Claims) : (s.withClaims v).clock = s.clock := rfl
@[simp] theorem State.withClaims_lane (s : State) (v : Claims) : (s.withClaims v).lane = s.lane := rfl
@[simp] theorem State.withClaims_entries (s : State) (v : Claims) : (s.withClaims v).entries = s.entries := rfl
@[simp] theorem State.withClaims_claims (s : State) (v : Claims) : (s.withClaims v).claims = v := rfl
@[simp] theorem State.withClaims_recov (s : State) (v : Claims) : (s.withClaims v).recov = s.recov := rfl
@[simp] theorem State.withClaims_switch (s : State) (v : Claims) : (s.withClaims v).switch = s.switch := rfl
@[simp] theorem State.withClaims_mons (s : State) (v : Claims) : (s.withClaims v).mons = s.mons := rfl
@[simp] theorem State.withClaims_bridged (s : State) (v : Claims) : (s.withClaims v).bridged = s.bridged := rfl
@[simp] theorem State.withClaims_bill (s : State) (v : Claims) : (s.withClaims v).bill = s.bill := rfl
@[simp] theorem State.withClaims_site (s : State) (v : Claims) : (s.withClaims v).site = s.site := rfl
@[simp] theorem State.withClaims_freeCount (s : State) (v : Claims) : (s.withClaims v).freeCount = s.freeCount := rfl
@[simp] theorem State.withClaims_pending (s : State) (v : Claims) : (s.withClaims v).pending = s.pending := rfl

@[simp] theorem State.withRecov_phase (s : State) (v : Recall) : (s.withRecov v).phase = s.phase := rfl
@[simp] theorem State.withRecov_cfg (s : State) (v : Recall) : (s.withRecov v).cfg = s.cfg := rfl
@[simp] theorem State.withRecov_nowMs (s : State) (v : Recall) : (s.withRecov v).nowMs = s.nowMs := rfl
@[simp] theorem State.withRecov_pins (s : State) (v : Recall) : (s.withRecov v).pins = s.pins := rfl
@[simp] theorem State.withRecov_clock (s : State) (v : Recall) : (s.withRecov v).clock = s.clock := rfl
@[simp] theorem State.withRecov_lane (s : State) (v : Recall) : (s.withRecov v).lane = s.lane := rfl
@[simp] theorem State.withRecov_entries (s : State) (v : Recall) : (s.withRecov v).entries = s.entries := rfl
@[simp] theorem State.withRecov_claims (s : State) (v : Recall) : (s.withRecov v).claims = s.claims := rfl
@[simp] theorem State.withRecov_recov (s : State) (v : Recall) : (s.withRecov v).recov = v := rfl
@[simp] theorem State.withRecov_switch (s : State) (v : Recall) : (s.withRecov v).switch = s.switch := rfl
@[simp] theorem State.withRecov_mons (s : State) (v : Recall) : (s.withRecov v).mons = s.mons := rfl
@[simp] theorem State.withRecov_bridged (s : State) (v : Recall) : (s.withRecov v).bridged = s.bridged := rfl
@[simp] theorem State.withRecov_bill (s : State) (v : Recall) : (s.withRecov v).bill = s.bill := rfl
@[simp] theorem State.withRecov_site (s : State) (v : Recall) : (s.withRecov v).site = s.site := rfl
@[simp] theorem State.withRecov_freeCount (s : State) (v : Recall) : (s.withRecov v).freeCount = s.freeCount := rfl
@[simp] theorem State.withRecov_pending (s : State) (v : Recall) : (s.withRecov v).pending = s.pending := rfl

@[simp] theorem State.withSwitch_phase (s : State) (v : Switch) : (s.withSwitch v).phase = s.phase := rfl
@[simp] theorem State.withSwitch_cfg (s : State) (v : Switch) : (s.withSwitch v).cfg = s.cfg := rfl
@[simp] theorem State.withSwitch_nowMs (s : State) (v : Switch) : (s.withSwitch v).nowMs = s.nowMs := rfl
@[simp] theorem State.withSwitch_pins (s : State) (v : Switch) : (s.withSwitch v).pins = s.pins := rfl
@[simp] theorem State.withSwitch_clock (s : State) (v : Switch) : (s.withSwitch v).clock = s.clock := rfl
@[simp] theorem State.withSwitch_lane (s : State) (v : Switch) : (s.withSwitch v).lane = s.lane := rfl
@[simp] theorem State.withSwitch_entries (s : State) (v : Switch) : (s.withSwitch v).entries = s.entries := rfl
@[simp] theorem State.withSwitch_claims (s : State) (v : Switch) : (s.withSwitch v).claims = s.claims := rfl
@[simp] theorem State.withSwitch_recov (s : State) (v : Switch) : (s.withSwitch v).recov = s.recov := rfl
@[simp] theorem State.withSwitch_switch (s : State) (v : Switch) : (s.withSwitch v).switch = v := rfl
@[simp] theorem State.withSwitch_mons (s : State) (v : Switch) : (s.withSwitch v).mons = s.mons := rfl
@[simp] theorem State.withSwitch_bridged (s : State) (v : Switch) : (s.withSwitch v).bridged = s.bridged := rfl
@[simp] theorem State.withSwitch_bill (s : State) (v : Switch) : (s.withSwitch v).bill = s.bill := rfl
@[simp] theorem State.withSwitch_site (s : State) (v : Switch) : (s.withSwitch v).site = s.site := rfl
@[simp] theorem State.withSwitch_freeCount (s : State) (v : Switch) : (s.withSwitch v).freeCount = s.freeCount := rfl
@[simp] theorem State.withSwitch_pending (s : State) (v : Switch) : (s.withSwitch v).pending = s.pending := rfl

@[simp] theorem State.withMons_phase (s : State) (v : Monitors) : (s.withMons v).phase = s.phase := rfl
@[simp] theorem State.withMons_cfg (s : State) (v : Monitors) : (s.withMons v).cfg = s.cfg := rfl
@[simp] theorem State.withMons_nowMs (s : State) (v : Monitors) : (s.withMons v).nowMs = s.nowMs := rfl
@[simp] theorem State.withMons_pins (s : State) (v : Monitors) : (s.withMons v).pins = s.pins := rfl
@[simp] theorem State.withMons_clock (s : State) (v : Monitors) : (s.withMons v).clock = s.clock := rfl
@[simp] theorem State.withMons_lane (s : State) (v : Monitors) : (s.withMons v).lane = s.lane := rfl
@[simp] theorem State.withMons_entries (s : State) (v : Monitors) : (s.withMons v).entries = s.entries := rfl
@[simp] theorem State.withMons_claims (s : State) (v : Monitors) : (s.withMons v).claims = s.claims := rfl
@[simp] theorem State.withMons_recov (s : State) (v : Monitors) : (s.withMons v).recov = s.recov := rfl
@[simp] theorem State.withMons_switch (s : State) (v : Monitors) : (s.withMons v).switch = s.switch := rfl
@[simp] theorem State.withMons_mons (s : State) (v : Monitors) : (s.withMons v).mons = v := rfl
@[simp] theorem State.withMons_bridged (s : State) (v : Monitors) : (s.withMons v).bridged = s.bridged := rfl
@[simp] theorem State.withMons_bill (s : State) (v : Monitors) : (s.withMons v).bill = s.bill := rfl
@[simp] theorem State.withMons_site (s : State) (v : Monitors) : (s.withMons v).site = s.site := rfl
@[simp] theorem State.withMons_freeCount (s : State) (v : Monitors) : (s.withMons v).freeCount = s.freeCount := rfl
@[simp] theorem State.withMons_pending (s : State) (v : Monitors) : (s.withMons v).pending = s.pending := rfl

@[simp] theorem State.withBridged_phase (s : State) (v : Bridged) : (s.withBridged v).phase = s.phase := rfl
@[simp] theorem State.withBridged_cfg (s : State) (v : Bridged) : (s.withBridged v).cfg = s.cfg := rfl
@[simp] theorem State.withBridged_nowMs (s : State) (v : Bridged) : (s.withBridged v).nowMs = s.nowMs := rfl
@[simp] theorem State.withBridged_pins (s : State) (v : Bridged) : (s.withBridged v).pins = s.pins := rfl
@[simp] theorem State.withBridged_clock (s : State) (v : Bridged) : (s.withBridged v).clock = s.clock := rfl
@[simp] theorem State.withBridged_lane (s : State) (v : Bridged) : (s.withBridged v).lane = s.lane := rfl
@[simp] theorem State.withBridged_entries (s : State) (v : Bridged) : (s.withBridged v).entries = s.entries := rfl
@[simp] theorem State.withBridged_claims (s : State) (v : Bridged) : (s.withBridged v).claims = s.claims := rfl
@[simp] theorem State.withBridged_recov (s : State) (v : Bridged) : (s.withBridged v).recov = s.recov := rfl
@[simp] theorem State.withBridged_switch (s : State) (v : Bridged) : (s.withBridged v).switch = s.switch := rfl
@[simp] theorem State.withBridged_mons (s : State) (v : Bridged) : (s.withBridged v).mons = s.mons := rfl
@[simp] theorem State.withBridged_bridged (s : State) (v : Bridged) : (s.withBridged v).bridged = v := rfl
@[simp] theorem State.withBridged_bill (s : State) (v : Bridged) : (s.withBridged v).bill = s.bill := rfl
@[simp] theorem State.withBridged_site (s : State) (v : Bridged) : (s.withBridged v).site = s.site := rfl
@[simp] theorem State.withBridged_freeCount (s : State) (v : Bridged) : (s.withBridged v).freeCount = s.freeCount := rfl
@[simp] theorem State.withBridged_pending (s : State) (v : Bridged) : (s.withBridged v).pending = s.pending := rfl

@[simp] theorem State.withBill_phase (s : State) (v : Billing) : (s.withBill v).phase = s.phase := rfl
@[simp] theorem State.withBill_cfg (s : State) (v : Billing) : (s.withBill v).cfg = s.cfg := rfl
@[simp] theorem State.withBill_nowMs (s : State) (v : Billing) : (s.withBill v).nowMs = s.nowMs := rfl
@[simp] theorem State.withBill_pins (s : State) (v : Billing) : (s.withBill v).pins = s.pins := rfl
@[simp] theorem State.withBill_clock (s : State) (v : Billing) : (s.withBill v).clock = s.clock := rfl
@[simp] theorem State.withBill_lane (s : State) (v : Billing) : (s.withBill v).lane = s.lane := rfl
@[simp] theorem State.withBill_entries (s : State) (v : Billing) : (s.withBill v).entries = s.entries := rfl
@[simp] theorem State.withBill_claims (s : State) (v : Billing) : (s.withBill v).claims = s.claims := rfl
@[simp] theorem State.withBill_recov (s : State) (v : Billing) : (s.withBill v).recov = s.recov := rfl
@[simp] theorem State.withBill_switch (s : State) (v : Billing) : (s.withBill v).switch = s.switch := rfl
@[simp] theorem State.withBill_mons (s : State) (v : Billing) : (s.withBill v).mons = s.mons := rfl
@[simp] theorem State.withBill_bridged (s : State) (v : Billing) : (s.withBill v).bridged = s.bridged := rfl
@[simp] theorem State.withBill_bill (s : State) (v : Billing) : (s.withBill v).bill = v := rfl
@[simp] theorem State.withBill_site (s : State) (v : Billing) : (s.withBill v).site = s.site := rfl
@[simp] theorem State.withBill_freeCount (s : State) (v : Billing) : (s.withBill v).freeCount = s.freeCount := rfl
@[simp] theorem State.withBill_pending (s : State) (v : Billing) : (s.withBill v).pending = s.pending := rfl

@[simp] theorem State.withSite_phase (s : State) (v : Site) : (s.withSite v).phase = s.phase := rfl
@[simp] theorem State.withSite_cfg (s : State) (v : Site) : (s.withSite v).cfg = s.cfg := rfl
@[simp] theorem State.withSite_nowMs (s : State) (v : Site) : (s.withSite v).nowMs = s.nowMs := rfl
@[simp] theorem State.withSite_pins (s : State) (v : Site) : (s.withSite v).pins = s.pins := rfl
@[simp] theorem State.withSite_clock (s : State) (v : Site) : (s.withSite v).clock = s.clock := rfl
@[simp] theorem State.withSite_lane (s : State) (v : Site) : (s.withSite v).lane = s.lane := rfl
@[simp] theorem State.withSite_entries (s : State) (v : Site) : (s.withSite v).entries = s.entries := rfl
@[simp] theorem State.withSite_claims (s : State) (v : Site) : (s.withSite v).claims = s.claims := rfl
@[simp] theorem State.withSite_recov (s : State) (v : Site) : (s.withSite v).recov = s.recov := rfl
@[simp] theorem State.withSite_switch (s : State) (v : Site) : (s.withSite v).switch = s.switch := rfl
@[simp] theorem State.withSite_mons (s : State) (v : Site) : (s.withSite v).mons = s.mons := rfl
@[simp] theorem State.withSite_bridged (s : State) (v : Site) : (s.withSite v).bridged = s.bridged := rfl
@[simp] theorem State.withSite_bill (s : State) (v : Site) : (s.withSite v).bill = s.bill := rfl
@[simp] theorem State.withSite_site (s : State) (v : Site) : (s.withSite v).site = v := rfl
@[simp] theorem State.withSite_freeCount (s : State) (v : Site) : (s.withSite v).freeCount = s.freeCount := rfl
@[simp] theorem State.withSite_pending (s : State) (v : Site) : (s.withSite v).pending = s.pending := rfl

@[simp] theorem State.withFreeCount_phase (s : State) (v : Nat) : (s.withFreeCount v).phase = s.phase := rfl
@[simp] theorem State.withFreeCount_cfg (s : State) (v : Nat) : (s.withFreeCount v).cfg = s.cfg := rfl
@[simp] theorem State.withFreeCount_nowMs (s : State) (v : Nat) : (s.withFreeCount v).nowMs = s.nowMs := rfl
@[simp] theorem State.withFreeCount_pins (s : State) (v : Nat) : (s.withFreeCount v).pins = s.pins := rfl
@[simp] theorem State.withFreeCount_clock (s : State) (v : Nat) : (s.withFreeCount v).clock = s.clock := rfl
@[simp] theorem State.withFreeCount_lane (s : State) (v : Nat) : (s.withFreeCount v).lane = s.lane := rfl
@[simp] theorem State.withFreeCount_entries (s : State) (v : Nat) : (s.withFreeCount v).entries = s.entries := rfl
@[simp] theorem State.withFreeCount_claims (s : State) (v : Nat) : (s.withFreeCount v).claims = s.claims := rfl
@[simp] theorem State.withFreeCount_recov (s : State) (v : Nat) : (s.withFreeCount v).recov = s.recov := rfl
@[simp] theorem State.withFreeCount_switch (s : State) (v : Nat) : (s.withFreeCount v).switch = s.switch := rfl
@[simp] theorem State.withFreeCount_mons (s : State) (v : Nat) : (s.withFreeCount v).mons = s.mons := rfl
@[simp] theorem State.withFreeCount_bridged (s : State) (v : Nat) : (s.withFreeCount v).bridged = s.bridged := rfl
@[simp] theorem State.withFreeCount_bill (s : State) (v : Nat) : (s.withFreeCount v).bill = s.bill := rfl
@[simp] theorem State.withFreeCount_site (s : State) (v : Nat) : (s.withFreeCount v).site = s.site := rfl
@[simp] theorem State.withFreeCount_freeCount (s : State) (v : Nat) : (s.withFreeCount v).freeCount = v := rfl
@[simp] theorem State.withFreeCount_pending (s : State) (v : Nat) : (s.withFreeCount v).pending = s.pending := rfl

@[simp] theorem State.withPending_phase (s : State) (v : List Instr) : (s.withPending v).phase = s.phase := rfl
@[simp] theorem State.withPending_cfg (s : State) (v : List Instr) : (s.withPending v).cfg = s.cfg := rfl
@[simp] theorem State.withPending_nowMs (s : State) (v : List Instr) : (s.withPending v).nowMs = s.nowMs := rfl
@[simp] theorem State.withPending_pins (s : State) (v : List Instr) : (s.withPending v).pins = s.pins := rfl
@[simp] theorem State.withPending_clock (s : State) (v : List Instr) : (s.withPending v).clock = s.clock := rfl
@[simp] theorem State.withPending_lane (s : State) (v : List Instr) : (s.withPending v).lane = s.lane := rfl
@[simp] theorem State.withPending_entries (s : State) (v : List Instr) : (s.withPending v).entries = s.entries := rfl
@[simp] theorem State.withPending_claims (s : State) (v : List Instr) : (s.withPending v).claims = s.claims := rfl
@[simp] theorem State.withPending_recov (s : State) (v : List Instr) : (s.withPending v).recov = s.recov := rfl
@[simp] theorem State.withPending_switch (s : State) (v : List Instr) : (s.withPending v).switch = s.switch := rfl
@[simp] theorem State.withPending_mons (s : State) (v : List Instr) : (s.withPending v).mons = s.mons := rfl
@[simp] theorem State.withPending_bridged (s : State) (v : List Instr) : (s.withPending v).bridged = s.bridged := rfl
@[simp] theorem State.withPending_bill (s : State) (v : List Instr) : (s.withPending v).bill = s.bill := rfl
@[simp] theorem State.withPending_site (s : State) (v : List Instr) : (s.withPending v).site = s.site := rfl
@[simp] theorem State.withPending_freeCount (s : State) (v : List Instr) : (s.withPending v).freeCount = s.freeCount := rfl
@[simp] theorem State.withPending_pending (s : State) (v : List Instr) : (s.withPending v).pending = v := rfl

end Sys2Proof.Machine
end

