-- ==== Sys2Proof/Laws/Ops.lean ====
section
/-! SUPPORT. For each shared operation, what it can do: the fields that it keeps, and for the frequent ones what the changed field holds. -/

namespace Sys2Proof.Machine

/-! ### Fields kept -/

@[simp] theorem setEntry_phase (s : State) (i : Nat) (e : Entry) : (setEntry s i e).phase = s.phase := rfl
@[simp] theorem setEntry_cfg (s : State) (i : Nat) (e : Entry) : (setEntry s i e).cfg = s.cfg := rfl
@[simp] theorem setEntry_nowMs (s : State) (i : Nat) (e : Entry) : (setEntry s i e).nowMs = s.nowMs := rfl
@[simp] theorem setEntry_pins (s : State) (i : Nat) (e : Entry) : (setEntry s i e).pins = s.pins := rfl
@[simp] theorem setEntry_clock (s : State) (i : Nat) (e : Entry) : (setEntry s i e).clock = s.clock := rfl
@[simp] theorem setEntry_lane (s : State) (i : Nat) (e : Entry) : (setEntry s i e).lane = s.lane := rfl
@[simp] theorem setEntry_claims (s : State) (i : Nat) (e : Entry) : (setEntry s i e).claims = s.claims := rfl
@[simp] theorem setEntry_recov (s : State) (i : Nat) (e : Entry) : (setEntry s i e).recov = s.recov := rfl
@[simp] theorem setEntry_switch (s : State) (i : Nat) (e : Entry) : (setEntry s i e).switch = s.switch := rfl
@[simp] theorem setEntry_mons (s : State) (i : Nat) (e : Entry) : (setEntry s i e).mons = s.mons := rfl
@[simp] theorem setEntry_bridged (s : State) (i : Nat) (e : Entry) : (setEntry s i e).bridged = s.bridged := rfl
@[simp] theorem setEntry_bill (s : State) (i : Nat) (e : Entry) : (setEntry s i e).bill = s.bill := rfl
@[simp] theorem setEntry_site (s : State) (i : Nat) (e : Entry) : (setEntry s i e).site = s.site := rfl
@[simp] theorem setEntry_freeCount (s : State) (i : Nat) (e : Entry) : (setEntry s i e).freeCount = s.freeCount := rfl
@[simp] theorem setEntry_pending (s : State) (i : Nat) (e : Entry) : (setEntry s i e).pending = s.pending := rfl

@[simp] theorem updEntry_phase (s : State) (i : Nat) (f : Entry → Entry) : (updEntry s i f).phase = s.phase := by unfold updEntry setEntry; (repeat' split) <;> rfl
@[simp] theorem updEntry_cfg (s : State) (i : Nat) (f : Entry → Entry) : (updEntry s i f).cfg = s.cfg := by unfold updEntry setEntry; (repeat' split) <;> rfl
@[simp] theorem updEntry_nowMs (s : State) (i : Nat) (f : Entry → Entry) : (updEntry s i f).nowMs = s.nowMs := by unfold updEntry setEntry; (repeat' split) <;> rfl
@[simp] theorem updEntry_pins (s : State) (i : Nat) (f : Entry → Entry) : (updEntry s i f).pins = s.pins := by unfold updEntry setEntry; (repeat' split) <;> rfl
@[simp] theorem updEntry_clock (s : State) (i : Nat) (f : Entry → Entry) : (updEntry s i f).clock = s.clock := by unfold updEntry setEntry; (repeat' split) <;> rfl
@[simp] theorem updEntry_lane (s : State) (i : Nat) (f : Entry → Entry) : (updEntry s i f).lane = s.lane := by unfold updEntry setEntry; (repeat' split) <;> rfl
@[simp] theorem updEntry_claims (s : State) (i : Nat) (f : Entry → Entry) : (updEntry s i f).claims = s.claims := by unfold updEntry setEntry; (repeat' split) <;> rfl
@[simp] theorem updEntry_recov (s : State) (i : Nat) (f : Entry → Entry) : (updEntry s i f).recov = s.recov := by unfold updEntry setEntry; (repeat' split) <;> rfl
@[simp] theorem updEntry_switch (s : State) (i : Nat) (f : Entry → Entry) : (updEntry s i f).switch = s.switch := by unfold updEntry setEntry; (repeat' split) <;> rfl
@[simp] theorem updEntry_mons (s : State) (i : Nat) (f : Entry → Entry) : (updEntry s i f).mons = s.mons := by unfold updEntry setEntry; (repeat' split) <;> rfl
@[simp] theorem updEntry_bridged (s : State) (i : Nat) (f : Entry → Entry) : (updEntry s i f).bridged = s.bridged := by unfold updEntry setEntry; (repeat' split) <;> rfl
@[simp] theorem updEntry_bill (s : State) (i : Nat) (f : Entry → Entry) : (updEntry s i f).bill = s.bill := by unfold updEntry setEntry; (repeat' split) <;> rfl
@[simp] theorem updEntry_site (s : State) (i : Nat) (f : Entry → Entry) : (updEntry s i f).site = s.site := by unfold updEntry setEntry; (repeat' split) <;> rfl
@[simp] theorem updEntry_freeCount (s : State) (i : Nat) (f : Entry → Entry) : (updEntry s i f).freeCount = s.freeCount := by unfold updEntry setEntry; (repeat' split) <;> rfl
@[simp] theorem updEntry_pending (s : State) (i : Nat) (f : Entry → Entry) : (updEntry s i f).pending = s.pending := by unfold updEntry setEntry; (repeat' split) <;> rfl

/-- What a restart of the latches can do: nothing, or the one entry, which is Active, has its meter's latches changed (R160). -/
theorem restartLatches_cases (s : State) (i : Nat) : restartLatches s i = s ∨ ∃ e, s.entry i = some e ∧ e.state = .active
    ∧ restartLatches s i
      = setEntry s i { e with meter := e.meter.map (Meter.restart (selectorOf s e == .protection) (e.preempted == some true)) } := by
  unfold restartLatches
  split
  · exact .inl rfl
  · split
    · exact .inr ⟨_, ‹_›, ‹_›, rfl⟩
    · exact .inl rfl
@[simp] theorem Meter.restart_a (p b : Bool) (m : Meter) : (m.restart p b).a = m.a := rfl
@[simp] theorem Meter.restart_tally (p b : Bool) (m : Meter) : (m.restart p b).tally = m.tally := rfl
@[simp] theorem Meter.restart_protLatch (p b : Bool) (m : Meter) : (m.restart p b).protLatch = p := rfl
@[simp] theorem Meter.restart_preLatch (p b : Bool) (m : Meter) : (m.restart p b).preLatch = m.preLatch.map (fun _ => b) := rfl

@[simp] theorem setSlot_phase (s : State) (n : Nat) (v : Option ClaimSlot) : (setSlot s n v).phase = s.phase := rfl
@[simp] theorem setSlot_cfg (s : State) (n : Nat) (v : Option ClaimSlot) : (setSlot s n v).cfg = s.cfg := rfl
@[simp] theorem setSlot_nowMs (s : State) (n : Nat) (v : Option ClaimSlot) : (setSlot s n v).nowMs = s.nowMs := rfl
@[simp] theorem setSlot_pins (s : State) (n : Nat) (v : Option ClaimSlot) : (setSlot s n v).pins = s.pins := rfl
@[simp] theorem setSlot_clock (s : State) (n : Nat) (v : Option ClaimSlot) : (setSlot s n v).clock = s.clock := rfl
@[simp] theorem setSlot_lane (s : State) (n : Nat) (v : Option ClaimSlot) : (setSlot s n v).lane = s.lane := rfl
@[simp] theorem setSlot_entries (s : State) (n : Nat) (v : Option ClaimSlot) : (setSlot s n v).entries = s.entries := rfl
@[simp] theorem setSlot_recov (s : State) (n : Nat) (v : Option ClaimSlot) : (setSlot s n v).recov = s.recov := rfl
@[simp] theorem setSlot_switch (s : State) (n : Nat) (v : Option ClaimSlot) : (setSlot s n v).switch = s.switch := rfl
@[simp] theorem setSlot_mons (s : State) (n : Nat) (v : Option ClaimSlot) : (setSlot s n v).mons = s.mons := rfl
@[simp] theorem setSlot_bridged (s : State) (n : Nat) (v : Option ClaimSlot) : (setSlot s n v).bridged = s.bridged := rfl
@[simp] theorem setSlot_bill (s : State) (n : Nat) (v : Option ClaimSlot) : (setSlot s n v).bill = s.bill := rfl
@[simp] theorem setSlot_site (s : State) (n : Nat) (v : Option ClaimSlot) : (setSlot s n v).site = s.site := rfl
@[simp] theorem setSlot_freeCount (s : State) (n : Nat) (v : Option ClaimSlot) : (setSlot s n v).freeCount = s.freeCount := rfl
@[simp] theorem setSlot_pending (s : State) (n : Nat) (v : Option ClaimSlot) : (setSlot s n v).pending = s.pending := rfl

@[simp] theorem setRecord_phase (s : State) (r : Nat) (v : Option MatchRecord) : (setRecord s r v).phase = s.phase := rfl
@[simp] theorem setRecord_cfg (s : State) (r : Nat) (v : Option MatchRecord) : (setRecord s r v).cfg = s.cfg := rfl
@[simp] theorem setRecord_nowMs (s : State) (r : Nat) (v : Option MatchRecord) : (setRecord s r v).nowMs = s.nowMs := rfl
@[simp] theorem setRecord_pins (s : State) (r : Nat) (v : Option MatchRecord) : (setRecord s r v).pins = s.pins := rfl
@[simp] theorem setRecord_clock (s : State) (r : Nat) (v : Option MatchRecord) : (setRecord s r v).clock = s.clock := rfl
@[simp] theorem setRecord_lane (s : State) (r : Nat) (v : Option MatchRecord) : (setRecord s r v).lane = s.lane := rfl
@[simp] theorem setRecord_entries (s : State) (r : Nat) (v : Option MatchRecord) : (setRecord s r v).entries = s.entries := rfl
@[simp] theorem setRecord_claims (s : State) (r : Nat) (v : Option MatchRecord) : (setRecord s r v).claims = s.claims := rfl
@[simp] theorem setRecord_recov (s : State) (r : Nat) (v : Option MatchRecord) : (setRecord s r v).recov = s.recov := rfl
@[simp] theorem setRecord_switch (s : State) (r : Nat) (v : Option MatchRecord) : (setRecord s r v).switch = s.switch := rfl
@[simp] theorem setRecord_mons (s : State) (r : Nat) (v : Option MatchRecord) : (setRecord s r v).mons = s.mons := rfl
@[simp] theorem setRecord_bridged (s : State) (r : Nat) (v : Option MatchRecord) : (setRecord s r v).bridged = s.bridged := rfl
@[simp] theorem setRecord_site (s : State) (r : Nat) (v : Option MatchRecord) : (setRecord s r v).site = s.site := rfl
@[simp] theorem setRecord_freeCount (s : State) (r : Nat) (v : Option MatchRecord) : (setRecord s r v).freeCount = s.freeCount := rfl
@[simp] theorem setRecord_pending (s : State) (r : Nat) (v : Option MatchRecord) : (setRecord s r v).pending = s.pending := rfl

@[simp] theorem passTime_phase (s : State) (ms : Nat) : (passTime s ms).phase = s.phase := by unfold passTime; split <;> rfl
@[simp] theorem passTime_cfg (s : State) (ms : Nat) : (passTime s ms).cfg = s.cfg := by unfold passTime; split <;> rfl
@[simp] theorem passTime_pins (s : State) (ms : Nat) : (passTime s ms).pins = s.pins := by unfold passTime; split <;> rfl
@[simp] theorem passTime_lane (s : State) (ms : Nat) : (passTime s ms).lane = s.lane := by unfold passTime; split <;> rfl
@[simp] theorem passTime_entries (s : State) (ms : Nat) : (passTime s ms).entries = s.entries := by unfold passTime; split <;> rfl
@[simp] theorem passTime_claims (s : State) (ms : Nat) : (passTime s ms).claims = s.claims := by unfold passTime; split <;> rfl
@[simp] theorem passTime_recov (s : State) (ms : Nat) : (passTime s ms).recov = s.recov := by unfold passTime; split <;> rfl
@[simp] theorem passTime_switch (s : State) (ms : Nat) : (passTime s ms).switch = s.switch := by unfold passTime; split <;> rfl
@[simp] theorem passTime_mons (s : State) (ms : Nat) : (passTime s ms).mons = s.mons := by unfold passTime; split <;> rfl
@[simp] theorem passTime_bridged (s : State) (ms : Nat) : (passTime s ms).bridged = s.bridged := by unfold passTime; split <;> rfl
@[simp] theorem passTime_bill (s : State) (ms : Nat) : (passTime s ms).bill = s.bill := by unfold passTime; split <;> rfl
@[simp] theorem passTime_site (s : State) (ms : Nat) : (passTime s ms).site = s.site := by unfold passTime; split <;> rfl
@[simp] theorem passTime_freeCount (s : State) (ms : Nat) : (passTime s ms).freeCount = s.freeCount := by unfold passTime; split <;> rfl
@[simp] theorem passTime_pending (s : State) (ms : Nat) : (passTime s ms).pending = s.pending := by unfold passTime; split <;> rfl
@[simp] theorem passTime_nowMs (s : State) (ms : Nat) : (passTime s ms).nowMs = s.nowMs + ms := by unfold passTime; split <;> rfl

@[simp] theorem reach_phase (s : State) (d : Nat) : (reach s d).phase = s.phase := passTime_phase s _
@[simp] theorem reach_cfg (s : State) (d : Nat) : (reach s d).cfg = s.cfg := passTime_cfg s _
@[simp] theorem reach_pins (s : State) (d : Nat) : (reach s d).pins = s.pins := passTime_pins s _
@[simp] theorem reach_lane (s : State) (d : Nat) : (reach s d).lane = s.lane := passTime_lane s _
@[simp] theorem reach_entries (s : State) (d : Nat) : (reach s d).entries = s.entries := passTime_entries s _
@[simp] theorem reach_claims (s : State) (d : Nat) : (reach s d).claims = s.claims := passTime_claims s _
@[simp] theorem reach_recov (s : State) (d : Nat) : (reach s d).recov = s.recov := passTime_recov s _
@[simp] theorem reach_switch (s : State) (d : Nat) : (reach s d).switch = s.switch := passTime_switch s _
@[simp] theorem reach_mons (s : State) (d : Nat) : (reach s d).mons = s.mons := passTime_mons s _
@[simp] theorem reach_bridged (s : State) (d : Nat) : (reach s d).bridged = s.bridged := passTime_bridged s _
@[simp] theorem reach_bill (s : State) (d : Nat) : (reach s d).bill = s.bill := passTime_bill s _
@[simp] theorem reach_site (s : State) (d : Nat) : (reach s d).site = s.site := passTime_site s _
@[simp] theorem reach_freeCount (s : State) (d : Nat) : (reach s d).freeCount = s.freeCount := passTime_freeCount s _
@[simp] theorem reach_pending (s : State) (d : Nat) : (reach s d).pending = s.pending := passTime_pending s _

@[simp] theorem raiseNotice_phase (s : State) (src : Nat) (c : NoticeBody) : (raiseNotice s src c).phase = s.phase := by unfold raiseNotice; (repeat' split) <;> rfl
@[simp] theorem raiseNotice_cfg (s : State) (src : Nat) (c : NoticeBody) : (raiseNotice s src c).cfg = s.cfg := by unfold raiseNotice; (repeat' split) <;> rfl
@[simp] theorem raiseNotice_nowMs (s : State) (src : Nat) (c : NoticeBody) : (raiseNotice s src c).nowMs = s.nowMs := by unfold raiseNotice; (repeat' split) <;> rfl
@[simp] theorem raiseNotice_pins (s : State) (src : Nat) (c : NoticeBody) : (raiseNotice s src c).pins = s.pins := by unfold raiseNotice; (repeat' split) <;> rfl
@[simp] theorem raiseNotice_clock (s : State) (src : Nat) (c : NoticeBody) : (raiseNotice s src c).clock = s.clock := by unfold raiseNotice; (repeat' split) <;> rfl
@[simp] theorem raiseNotice_lane (s : State) (src : Nat) (c : NoticeBody) : (raiseNotice s src c).lane = s.lane := by unfold raiseNotice; (repeat' split) <;> rfl
@[simp] theorem raiseNotice_entries (s : State) (src : Nat) (c : NoticeBody) : (raiseNotice s src c).entries = s.entries := by unfold raiseNotice; (repeat' split) <;> rfl
@[simp] theorem raiseNotice_claims (s : State) (src : Nat) (c : NoticeBody) : (raiseNotice s src c).claims = s.claims := by unfold raiseNotice; (repeat' split) <;> rfl
@[simp] theorem raiseNotice_recov (s : State) (src : Nat) (c : NoticeBody) : (raiseNotice s src c).recov = s.recov := by unfold raiseNotice; (repeat' split) <;> rfl
@[simp] theorem raiseNotice_switch (s : State) (src : Nat) (c : NoticeBody) : (raiseNotice s src c).switch = s.switch := by unfold raiseNotice; (repeat' split) <;> rfl
@[simp] theorem raiseNotice_mons (s : State) (src : Nat) (c : NoticeBody) : (raiseNotice s src c).mons = s.mons := by unfold raiseNotice; (repeat' split) <;> rfl
@[simp] theorem raiseNotice_bridged (s : State) (src : Nat) (c : NoticeBody) : (raiseNotice s src c).bridged = s.bridged := by unfold raiseNotice; (repeat' split) <;> rfl
@[simp] theorem raiseNotice_bill (s : State) (src : Nat) (c : NoticeBody) : (raiseNotice s src c).bill = s.bill := by unfold raiseNotice; (repeat' split) <;> rfl
@[simp] theorem raiseNotice_freeCount (s : State) (src : Nat) (c : NoticeBody) : (raiseNotice s src c).freeCount = s.freeCount := by unfold raiseNotice; (repeat' split) <;> rfl
@[simp] theorem raiseNotice_pending (s : State) (src : Nat) (c : NoticeBody) : (raiseNotice s src c).pending = s.pending := by unfold raiseNotice; (repeat' split) <;> rfl

@[simp] theorem setQueue_phase (s : State) (d : Dir) (q : List Msg) : (setQueue s d q).phase = s.phase := by unfold setQueue; (repeat' split) <;> rfl
@[simp] theorem setQueue_cfg (s : State) (d : Dir) (q : List Msg) : (setQueue s d q).cfg = s.cfg := by unfold setQueue; (repeat' split) <;> rfl
@[simp] theorem setQueue_nowMs (s : State) (d : Dir) (q : List Msg) : (setQueue s d q).nowMs = s.nowMs := by unfold setQueue; (repeat' split) <;> rfl
@[simp] theorem setQueue_pins (s : State) (d : Dir) (q : List Msg) : (setQueue s d q).pins = s.pins := by unfold setQueue; (repeat' split) <;> rfl
@[simp] theorem setQueue_clock (s : State) (d : Dir) (q : List Msg) : (setQueue s d q).clock = s.clock := by unfold setQueue; (repeat' split) <;> rfl
@[simp] theorem setQueue_entries (s : State) (d : Dir) (q : List Msg) : (setQueue s d q).entries = s.entries := by unfold setQueue; (repeat' split) <;> rfl
@[simp] theorem setQueue_claims (s : State) (d : Dir) (q : List Msg) : (setQueue s d q).claims = s.claims := by unfold setQueue; (repeat' split) <;> rfl
@[simp] theorem setQueue_recov (s : State) (d : Dir) (q : List Msg) : (setQueue s d q).recov = s.recov := by unfold setQueue; (repeat' split) <;> rfl
@[simp] theorem setQueue_switch (s : State) (d : Dir) (q : List Msg) : (setQueue s d q).switch = s.switch := by unfold setQueue; (repeat' split) <;> rfl
@[simp] theorem setQueue_mons (s : State) (d : Dir) (q : List Msg) : (setQueue s d q).mons = s.mons := by unfold setQueue; (repeat' split) <;> rfl
@[simp] theorem setQueue_bridged (s : State) (d : Dir) (q : List Msg) : (setQueue s d q).bridged = s.bridged := by unfold setQueue; (repeat' split) <;> rfl
@[simp] theorem setQueue_bill (s : State) (d : Dir) (q : List Msg) : (setQueue s d q).bill = s.bill := by unfold setQueue; (repeat' split) <;> rfl
@[simp] theorem setQueue_site (s : State) (d : Dir) (q : List Msg) : (setQueue s d q).site = s.site := by unfold setQueue; (repeat' split) <;> rfl
@[simp] theorem setQueue_freeCount (s : State) (d : Dir) (q : List Msg) : (setQueue s d q).freeCount = s.freeCount := by unfold setQueue; (repeat' split) <;> rfl
@[simp] theorem setQueue_pending (s : State) (d : Dir) (q : List Msg) : (setQueue s d q).pending = s.pending := by unfold setQueue; (repeat' split) <;> rfl

@[simp] theorem join_phase (s : State) (d : Dir) (n : Nat) (b : Body) : (join s d n b).phase = s.phase := by unfold join setQueue; (repeat' split) <;> rfl
@[simp] theorem join_cfg (s : State) (d : Dir) (n : Nat) (b : Body) : (join s d n b).cfg = s.cfg := by unfold join setQueue; (repeat' split) <;> rfl
@[simp] theorem join_nowMs (s : State) (d : Dir) (n : Nat) (b : Body) : (join s d n b).nowMs = s.nowMs := by unfold join setQueue; (repeat' split) <;> rfl
@[simp] theorem join_pins (s : State) (d : Dir) (n : Nat) (b : Body) : (join s d n b).pins = s.pins := by unfold join setQueue; (repeat' split) <;> rfl
@[simp] theorem join_clock (s : State) (d : Dir) (n : Nat) (b : Body) : (join s d n b).clock = s.clock := by unfold join setQueue; (repeat' split) <;> rfl
@[simp] theorem join_entries (s : State) (d : Dir) (n : Nat) (b : Body) : (join s d n b).entries = s.entries := by unfold join setQueue; (repeat' split) <;> rfl
@[simp] theorem join_claims (s : State) (d : Dir) (n : Nat) (b : Body) : (join s d n b).claims = s.claims := by unfold join setQueue; (repeat' split) <;> rfl
@[simp] theorem join_recov (s : State) (d : Dir) (n : Nat) (b : Body) : (join s d n b).recov = s.recov := by unfold join setQueue; (repeat' split) <;> rfl
@[simp] theorem join_switch (s : State) (d : Dir) (n : Nat) (b : Body) : (join s d n b).switch = s.switch := by unfold join setQueue; (repeat' split) <;> rfl
@[simp] theorem join_mons (s : State) (d : Dir) (n : Nat) (b : Body) : (join s d n b).mons = s.mons := by unfold join setQueue; (repeat' split) <;> rfl
@[simp] theorem join_bridged (s : State) (d : Dir) (n : Nat) (b : Body) : (join s d n b).bridged = s.bridged := by unfold join setQueue; (repeat' split) <;> rfl
@[simp] theorem join_bill (s : State) (d : Dir) (n : Nat) (b : Body) : (join s d n b).bill = s.bill := by unfold join setQueue; (repeat' split) <;> rfl
@[simp] theorem join_site (s : State) (d : Dir) (n : Nat) (b : Body) : (join s d n b).site = s.site := by unfold join setQueue; (repeat' split) <;> rfl
@[simp] theorem join_freeCount (s : State) (d : Dir) (n : Nat) (b : Body) : (join s d n b).freeCount = s.freeCount := by unfold join setQueue; (repeat' split) <;> rfl
@[simp] theorem join_pending (s : State) (d : Dir) (n : Nat) (b : Body) : (join s d n b).pending = s.pending := by unfold join setQueue; (repeat' split) <;> rfl

@[simp] theorem joinCounted_phase (s : State) (b : Body) : (joinCounted s b).phase = s.phase := by unfold joinCounted join setQueue; (repeat' split) <;> rfl
@[simp] theorem joinCounted_cfg (s : State) (b : Body) : (joinCounted s b).cfg = s.cfg := by unfold joinCounted join setQueue; (repeat' split) <;> rfl
@[simp] theorem joinCounted_nowMs (s : State) (b : Body) : (joinCounted s b).nowMs = s.nowMs := by unfold joinCounted join setQueue; (repeat' split) <;> rfl
@[simp] theorem joinCounted_pins (s : State) (b : Body) : (joinCounted s b).pins = s.pins := by unfold joinCounted join setQueue; (repeat' split) <;> rfl
@[simp] theorem joinCounted_clock (s : State) (b : Body) : (joinCounted s b).clock = s.clock := by unfold joinCounted join setQueue; (repeat' split) <;> rfl
@[simp] theorem joinCounted_entries (s : State) (b : Body) : (joinCounted s b).entries = s.entries := by unfold joinCounted join setQueue; (repeat' split) <;> rfl
@[simp] theorem joinCounted_claims (s : State) (b : Body) : (joinCounted s b).claims = s.claims := by unfold joinCounted join setQueue; (repeat' split) <;> rfl
@[simp] theorem joinCounted_recov (s : State) (b : Body) : (joinCounted s b).recov = s.recov := by unfold joinCounted join setQueue; (repeat' split) <;> rfl
@[simp] theorem joinCounted_switch (s : State) (b : Body) : (joinCounted s b).switch = s.switch := by unfold joinCounted join setQueue; (repeat' split) <;> rfl
@[simp] theorem joinCounted_mons (s : State) (b : Body) : (joinCounted s b).mons = s.mons := by unfold joinCounted join setQueue; (repeat' split) <;> rfl
@[simp] theorem joinCounted_bridged (s : State) (b : Body) : (joinCounted s b).bridged = s.bridged := by unfold joinCounted join setQueue; (repeat' split) <;> rfl
@[simp] theorem joinCounted_bill (s : State) (b : Body) : (joinCounted s b).bill = s.bill := by unfold joinCounted join setQueue; (repeat' split) <;> rfl
@[simp] theorem joinCounted_site (s : State) (b : Body) : (joinCounted s b).site = s.site := by unfold joinCounted join setQueue; (repeat' split) <;> rfl
@[simp] theorem joinCounted_freeCount (s : State) (b : Body) : (joinCounted s b).freeCount = s.freeCount := by unfold joinCounted join setQueue; (repeat' split) <;> rfl
@[simp] theorem joinCounted_pending (s : State) (b : Body) : (joinCounted s b).pending = s.pending := by unfold joinCounted join setQueue; (repeat' split) <;> rfl

@[simp] theorem joinHoldlost_phase (s : State) (k : Key) (m : Mode) : (joinHoldlost s k m).phase = s.phase := by unfold joinHoldlost join setQueue; (repeat' split) <;> rfl
@[simp] theorem joinHoldlost_cfg (s : State) (k : Key) (m : Mode) : (joinHoldlost s k m).cfg = s.cfg := by unfold joinHoldlost join setQueue; (repeat' split) <;> rfl
@[simp] theorem joinHoldlost_nowMs (s : State) (k : Key) (m : Mode) : (joinHoldlost s k m).nowMs = s.nowMs := by unfold joinHoldlost join setQueue; (repeat' split) <;> rfl
@[simp] theorem joinHoldlost_pins (s : State) (k : Key) (m : Mode) : (joinHoldlost s k m).pins = s.pins := by unfold joinHoldlost join setQueue; (repeat' split) <;> rfl
@[simp] theorem joinHoldlost_clock (s : State) (k : Key) (m : Mode) : (joinHoldlost s k m).clock = s.clock := by unfold joinHoldlost join setQueue; (repeat' split) <;> rfl
@[simp] theorem joinHoldlost_entries (s : State) (k : Key) (m : Mode) : (joinHoldlost s k m).entries = s.entries := by unfold joinHoldlost join setQueue; (repeat' split) <;> rfl
@[simp] theorem joinHoldlost_claims (s : State) (k : Key) (m : Mode) : (joinHoldlost s k m).claims = s.claims := by unfold joinHoldlost join setQueue; (repeat' split) <;> rfl
@[simp] theorem joinHoldlost_recov (s : State) (k : Key) (m : Mode) : (joinHoldlost s k m).recov = s.recov := by unfold joinHoldlost join setQueue; (repeat' split) <;> rfl
@[simp] theorem joinHoldlost_switch (s : State) (k : Key) (m : Mode) : (joinHoldlost s k m).switch = s.switch := by unfold joinHoldlost join setQueue; (repeat' split) <;> rfl
@[simp] theorem joinHoldlost_mons (s : State) (k : Key) (m : Mode) : (joinHoldlost s k m).mons = s.mons := by unfold joinHoldlost join setQueue; (repeat' split) <;> rfl
@[simp] theorem joinHoldlost_bridged (s : State) (k : Key) (m : Mode) : (joinHoldlost s k m).bridged = s.bridged := by unfold joinHoldlost join setQueue; (repeat' split) <;> rfl
@[simp] theorem joinHoldlost_bill (s : State) (k : Key) (m : Mode) : (joinHoldlost s k m).bill = s.bill := by unfold joinHoldlost join setQueue; (repeat' split) <;> rfl
@[simp] theorem joinHoldlost_site (s : State) (k : Key) (m : Mode) : (joinHoldlost s k m).site = s.site := by unfold joinHoldlost join setQueue; (repeat' split) <;> rfl
@[simp] theorem joinHoldlost_freeCount (s : State) (k : Key) (m : Mode) : (joinHoldlost s k m).freeCount = s.freeCount := by unfold joinHoldlost join setQueue; (repeat' split) <;> rfl
@[simp] theorem joinHoldlost_pending (s : State) (k : Key) (m : Mode) : (joinHoldlost s k m).pending = s.pending := by unfold joinHoldlost join setQueue; (repeat' split) <;> rfl

@[simp] theorem startMark_phase (s : State) : (startMark s).phase = s.phase := by unfold startMark; (repeat' split) <;> rfl
@[simp] theorem startMark_cfg (s : State) : (startMark s).cfg = s.cfg := by unfold startMark; (repeat' split) <;> rfl
@[simp] theorem startMark_nowMs (s : State) : (startMark s).nowMs = s.nowMs := by unfold startMark; (repeat' split) <;> rfl
@[simp] theorem startMark_pins (s : State) : (startMark s).pins = s.pins := by unfold startMark; (repeat' split) <;> rfl
@[simp] theorem startMark_lane (s : State) : (startMark s).lane = s.lane := by unfold startMark; (repeat' split) <;> rfl
@[simp] theorem startMark_entries (s : State) : (startMark s).entries = s.entries := by unfold startMark; (repeat' split) <;> rfl
@[simp] theorem startMark_claims (s : State) : (startMark s).claims = s.claims := by unfold startMark; (repeat' split) <;> rfl
@[simp] theorem startMark_recov (s : State) : (startMark s).recov = s.recov := by unfold startMark; (repeat' split) <;> rfl
@[simp] theorem startMark_switch (s : State) : (startMark s).switch = s.switch := by unfold startMark; (repeat' split) <;> rfl
@[simp] theorem startMark_mons (s : State) : (startMark s).mons = s.mons := by unfold startMark; (repeat' split) <;> rfl
@[simp] theorem startMark_bridged (s : State) : (startMark s).bridged = s.bridged := by unfold startMark; (repeat' split) <;> rfl
@[simp] theorem startMark_bill (s : State) : (startMark s).bill = s.bill := by unfold startMark; (repeat' split) <;> rfl
@[simp] theorem startMark_site (s : State) : (startMark s).site = s.site := by unfold startMark; (repeat' split) <;> rfl
@[simp] theorem startMark_freeCount (s : State) : (startMark s).freeCount = s.freeCount := by unfold startMark; (repeat' split) <;> rfl
@[simp] theorem startMark_pending (s : State) : (startMark s).pending = s.pending := by unfold startMark; (repeat' split) <;> rfl

@[simp] theorem dropBridged_phase (s : State) (k : Key) : (dropBridged s k).phase = s.phase := rfl
@[simp] theorem dropBridged_cfg (s : State) (k : Key) : (dropBridged s k).cfg = s.cfg := rfl
@[simp] theorem dropBridged_nowMs (s : State) (k : Key) : (dropBridged s k).nowMs = s.nowMs := rfl
@[simp] theorem dropBridged_pins (s : State) (k : Key) : (dropBridged s k).pins = s.pins := rfl
@[simp] theorem dropBridged_clock (s : State) (k : Key) : (dropBridged s k).clock = s.clock := rfl
@[simp] theorem dropBridged_lane (s : State) (k : Key) : (dropBridged s k).lane = s.lane := rfl
@[simp] theorem dropBridged_entries (s : State) (k : Key) : (dropBridged s k).entries = s.entries := rfl
@[simp] theorem dropBridged_claims (s : State) (k : Key) : (dropBridged s k).claims = s.claims := rfl
@[simp] theorem dropBridged_recov (s : State) (k : Key) : (dropBridged s k).recov = s.recov := rfl
@[simp] theorem dropBridged_switch (s : State) (k : Key) : (dropBridged s k).switch = s.switch := rfl
@[simp] theorem dropBridged_mons (s : State) (k : Key) : (dropBridged s k).mons = s.mons := rfl
@[simp] theorem dropBridged_bill (s : State) (k : Key) : (dropBridged s k).bill = s.bill := rfl
@[simp] theorem dropBridged_site (s : State) (k : Key) : (dropBridged s k).site = s.site := rfl
@[simp] theorem dropBridged_freeCount (s : State) (k : Key) : (dropBridged s k).freeCount = s.freeCount := rfl
@[simp] theorem dropBridged_pending (s : State) (k : Key) : (dropBridged s k).pending = s.pending := rfl

@[simp] theorem freeEntry_phase (s : State) (i : Nat) : (freeEntry s i).phase = s.phase := by unfold freeEntry dropBridged; (repeat' split) <;> rfl
@[simp] theorem freeEntry_cfg (s : State) (i : Nat) : (freeEntry s i).cfg = s.cfg := by unfold freeEntry dropBridged; (repeat' split) <;> rfl
@[simp] theorem freeEntry_nowMs (s : State) (i : Nat) : (freeEntry s i).nowMs = s.nowMs := by unfold freeEntry dropBridged; (repeat' split) <;> rfl
@[simp] theorem freeEntry_pins (s : State) (i : Nat) : (freeEntry s i).pins = s.pins := by unfold freeEntry dropBridged; (repeat' split) <;> rfl
@[simp] theorem freeEntry_clock (s : State) (i : Nat) : (freeEntry s i).clock = s.clock := by unfold freeEntry dropBridged; (repeat' split) <;> rfl
@[simp] theorem freeEntry_lane (s : State) (i : Nat) : (freeEntry s i).lane = s.lane := by unfold freeEntry dropBridged; (repeat' split) <;> rfl
@[simp] theorem freeEntry_claims (s : State) (i : Nat) : (freeEntry s i).claims = s.claims := by unfold freeEntry dropBridged; (repeat' split) <;> rfl
@[simp] theorem freeEntry_recov (s : State) (i : Nat) : (freeEntry s i).recov = s.recov := by unfold freeEntry dropBridged; (repeat' split) <;> rfl
@[simp] theorem freeEntry_switch (s : State) (i : Nat) : (freeEntry s i).switch = s.switch := by unfold freeEntry dropBridged; (repeat' split) <;> rfl
@[simp] theorem freeEntry_mons (s : State) (i : Nat) : (freeEntry s i).mons = s.mons := by unfold freeEntry dropBridged; (repeat' split) <;> rfl
@[simp] theorem freeEntry_bill (s : State) (i : Nat) : (freeEntry s i).bill = s.bill := by unfold freeEntry dropBridged; (repeat' split) <;> rfl
@[simp] theorem freeEntry_site (s : State) (i : Nat) : (freeEntry s i).site = s.site := by unfold freeEntry dropBridged; (repeat' split) <;> rfl
@[simp] theorem freeEntry_freeCount (s : State) (i : Nat) : (freeEntry s i).freeCount = s.freeCount := by unfold freeEntry dropBridged; (repeat' split) <;> rfl
@[simp] theorem freeEntry_pending (s : State) (i : Nat) : (freeEntry s i).pending = s.pending := by unfold freeEntry dropBridged; (repeat' split) <;> rfl

@[simp] theorem updCell_phase (s : State) (d : Dir) (l : Nat) (f : Cell → Cell) : (updCell s d l f).phase = s.phase := rfl
@[simp] theorem updCell_cfg (s : State) (d : Dir) (l : Nat) (f : Cell → Cell) : (updCell s d l f).cfg = s.cfg := rfl
@[simp] theorem updCell_nowMs (s : State) (d : Dir) (l : Nat) (f : Cell → Cell) : (updCell s d l f).nowMs = s.nowMs := rfl
@[simp] theorem updCell_pins (s : State) (d : Dir) (l : Nat) (f : Cell → Cell) : (updCell s d l f).pins = s.pins := rfl
@[simp] theorem updCell_clock (s : State) (d : Dir) (l : Nat) (f : Cell → Cell) : (updCell s d l f).clock = s.clock := rfl
@[simp] theorem updCell_lane (s : State) (d : Dir) (l : Nat) (f : Cell → Cell) : (updCell s d l f).lane = s.lane := rfl
@[simp] theorem updCell_entries (s : State) (d : Dir) (l : Nat) (f : Cell → Cell) : (updCell s d l f).entries = s.entries := rfl
@[simp] theorem updCell_claims (s : State) (d : Dir) (l : Nat) (f : Cell → Cell) : (updCell s d l f).claims = s.claims := rfl
@[simp] theorem updCell_recov (s : State) (d : Dir) (l : Nat) (f : Cell → Cell) : (updCell s d l f).recov = s.recov := rfl
@[simp] theorem updCell_mons (s : State) (d : Dir) (l : Nat) (f : Cell → Cell) : (updCell s d l f).mons = s.mons := rfl
@[simp] theorem updCell_bridged (s : State) (d : Dir) (l : Nat) (f : Cell → Cell) : (updCell s d l f).bridged = s.bridged := rfl
@[simp] theorem updCell_bill (s : State) (d : Dir) (l : Nat) (f : Cell → Cell) : (updCell s d l f).bill = s.bill := rfl
@[simp] theorem updCell_site (s : State) (d : Dir) (l : Nat) (f : Cell → Cell) : (updCell s d l f).site = s.site := rfl
@[simp] theorem updCell_freeCount (s : State) (d : Dir) (l : Nat) (f : Cell → Cell) : (updCell s d l f).freeCount = s.freeCount := rfl
@[simp] theorem updCell_pending (s : State) (d : Dir) (l : Nat) (f : Cell → Cell) : (updCell s d l f).pending = s.pending := rfl

@[simp] theorem updOutput_phase (s : State) (p : Nat) (f : Output → Output) : (updOutput s p f).phase = s.phase := rfl
@[simp] theorem updOutput_cfg (s : State) (p : Nat) (f : Output → Output) : (updOutput s p f).cfg = s.cfg := rfl
@[simp] theorem updOutput_nowMs (s : State) (p : Nat) (f : Output → Output) : (updOutput s p f).nowMs = s.nowMs := rfl
@[simp] theorem updOutput_pins (s : State) (p : Nat) (f : Output → Output) : (updOutput s p f).pins = s.pins := rfl
@[simp] theorem updOutput_clock (s : State) (p : Nat) (f : Output → Output) : (updOutput s p f).clock = s.clock := rfl
@[simp] theorem updOutput_lane (s : State) (p : Nat) (f : Output → Output) : (updOutput s p f).lane = s.lane := rfl
@[simp] theorem updOutput_entries (s : State) (p : Nat) (f : Output → Output) : (updOutput s p f).entries = s.entries := rfl
@[simp] theorem updOutput_claims (s : State) (p : Nat) (f : Output → Output) : (updOutput s p f).claims = s.claims := rfl
@[simp] theorem updOutput_recov (s : State) (p : Nat) (f : Output → Output) : (updOutput s p f).recov = s.recov := rfl
@[simp] theorem updOutput_mons (s : State) (p : Nat) (f : Output → Output) : (updOutput s p f).mons = s.mons := rfl
@[simp] theorem updOutput_bridged (s : State) (p : Nat) (f : Output → Output) : (updOutput s p f).bridged = s.bridged := rfl
@[simp] theorem updOutput_bill (s : State) (p : Nat) (f : Output → Output) : (updOutput s p f).bill = s.bill := rfl
@[simp] theorem updOutput_site (s : State) (p : Nat) (f : Output → Output) : (updOutput s p f).site = s.site := rfl
@[simp] theorem updOutput_freeCount (s : State) (p : Nat) (f : Output → Output) : (updOutput s p f).freeCount = s.freeCount := rfl
@[simp] theorem updOutput_pending (s : State) (p : Nat) (f : Output → Output) : (updOutput s p f).pending = s.pending := rfl

@[simp] theorem updMon_phase (s : State) (p : Dir) (l : Nat) (f : LaneMon → LaneMon) : (updMon s p l f).phase = s.phase := rfl
@[simp] theorem updMon_cfg (s : State) (p : Dir) (l : Nat) (f : LaneMon → LaneMon) : (updMon s p l f).cfg = s.cfg := rfl
@[simp] theorem updMon_nowMs (s : State) (p : Dir) (l : Nat) (f : LaneMon → LaneMon) : (updMon s p l f).nowMs = s.nowMs := rfl
@[simp] theorem updMon_pins (s : State) (p : Dir) (l : Nat) (f : LaneMon → LaneMon) : (updMon s p l f).pins = s.pins := rfl
@[simp] theorem updMon_clock (s : State) (p : Dir) (l : Nat) (f : LaneMon → LaneMon) : (updMon s p l f).clock = s.clock := rfl
@[simp] theorem updMon_lane (s : State) (p : Dir) (l : Nat) (f : LaneMon → LaneMon) : (updMon s p l f).lane = s.lane := rfl
@[simp] theorem updMon_entries (s : State) (p : Dir) (l : Nat) (f : LaneMon → LaneMon) : (updMon s p l f).entries = s.entries := rfl
@[simp] theorem updMon_claims (s : State) (p : Dir) (l : Nat) (f : LaneMon → LaneMon) : (updMon s p l f).claims = s.claims := rfl
@[simp] theorem updMon_recov (s : State) (p : Dir) (l : Nat) (f : LaneMon → LaneMon) : (updMon s p l f).recov = s.recov := rfl
@[simp] theorem updMon_switch (s : State) (p : Dir) (l : Nat) (f : LaneMon → LaneMon) : (updMon s p l f).switch = s.switch := rfl
@[simp] theorem updMon_bridged (s : State) (p : Dir) (l : Nat) (f : LaneMon → LaneMon) : (updMon s p l f).bridged = s.bridged := rfl
@[simp] theorem updMon_bill (s : State) (p : Dir) (l : Nat) (f : LaneMon → LaneMon) : (updMon s p l f).bill = s.bill := rfl
@[simp] theorem updMon_site (s : State) (p : Dir) (l : Nat) (f : LaneMon → LaneMon) : (updMon s p l f).site = s.site := rfl
@[simp] theorem updMon_freeCount (s : State) (p : Dir) (l : Nat) (f : LaneMon → LaneMon) : (updMon s p l f).freeCount = s.freeCount := rfl
@[simp] theorem updMon_pending (s : State) (p : Dir) (l : Nat) (f : LaneMon → LaneMon) : (updMon s p l f).pending = s.pending := rfl

@[simp] theorem updInput_phase (s : State) (p : Nat) (f : InputMon → InputMon) : (updInput s p f).phase = s.phase := rfl
@[simp] theorem updInput_cfg (s : State) (p : Nat) (f : InputMon → InputMon) : (updInput s p f).cfg = s.cfg := rfl
@[simp] theorem updInput_nowMs (s : State) (p : Nat) (f : InputMon → InputMon) : (updInput s p f).nowMs = s.nowMs := rfl
@[simp] theorem updInput_pins (s : State) (p : Nat) (f : InputMon → InputMon) : (updInput s p f).pins = s.pins := rfl
@[simp] theorem updInput_clock (s : State) (p : Nat) (f : InputMon → InputMon) : (updInput s p f).clock = s.clock := rfl
@[simp] theorem updInput_lane (s : State) (p : Nat) (f : InputMon → InputMon) : (updInput s p f).lane = s.lane := rfl
@[simp] theorem updInput_entries (s : State) (p : Nat) (f : InputMon → InputMon) : (updInput s p f).entries = s.entries := rfl
@[simp] theorem updInput_claims (s : State) (p : Nat) (f : InputMon → InputMon) : (updInput s p f).claims = s.claims := rfl
@[simp] theorem updInput_recov (s : State) (p : Nat) (f : InputMon → InputMon) : (updInput s p f).recov = s.recov := rfl
@[simp] theorem updInput_switch (s : State) (p : Nat) (f : InputMon → InputMon) : (updInput s p f).switch = s.switch := rfl
@[simp] theorem updInput_bridged (s : State) (p : Nat) (f : InputMon → InputMon) : (updInput s p f).bridged = s.bridged := rfl
@[simp] theorem updInput_bill (s : State) (p : Nat) (f : InputMon → InputMon) : (updInput s p f).bill = s.bill := rfl
@[simp] theorem updInput_site (s : State) (p : Nat) (f : InputMon → InputMon) : (updInput s p f).site = s.site := rfl
@[simp] theorem updInput_freeCount (s : State) (p : Nat) (f : InputMon → InputMon) : (updInput s p f).freeCount = s.freeCount := rfl
@[simp] theorem updInput_pending (s : State) (p : Nat) (f : InputMon → InputMon) : (updInput s p f).pending = s.pending := rfl

@[simp] theorem noteFar_phase (s : State) (p : Dir) (b : Bool) : (noteFar s p b).phase = s.phase := by unfold noteFar; (repeat' split) <;> rfl
@[simp] theorem noteFar_cfg (s : State) (p : Dir) (b : Bool) : (noteFar s p b).cfg = s.cfg := by unfold noteFar; (repeat' split) <;> rfl
@[simp] theorem noteFar_nowMs (s : State) (p : Dir) (b : Bool) : (noteFar s p b).nowMs = s.nowMs := by unfold noteFar; (repeat' split) <;> rfl
@[simp] theorem noteFar_pins (s : State) (p : Dir) (b : Bool) : (noteFar s p b).pins = s.pins := by unfold noteFar; (repeat' split) <;> rfl
@[simp] theorem noteFar_clock (s : State) (p : Dir) (b : Bool) : (noteFar s p b).clock = s.clock := by unfold noteFar; (repeat' split) <;> rfl
@[simp] theorem noteFar_entries (s : State) (p : Dir) (b : Bool) : (noteFar s p b).entries = s.entries := by unfold noteFar; (repeat' split) <;> rfl
@[simp] theorem noteFar_claims (s : State) (p : Dir) (b : Bool) : (noteFar s p b).claims = s.claims := by unfold noteFar; (repeat' split) <;> rfl
@[simp] theorem noteFar_recov (s : State) (p : Dir) (b : Bool) : (noteFar s p b).recov = s.recov := by unfold noteFar; (repeat' split) <;> rfl
@[simp] theorem noteFar_switch (s : State) (p : Dir) (b : Bool) : (noteFar s p b).switch = s.switch := by unfold noteFar; (repeat' split) <;> rfl
@[simp] theorem noteFar_mons (s : State) (p : Dir) (b : Bool) : (noteFar s p b).mons = s.mons := by unfold noteFar; (repeat' split) <;> rfl
@[simp] theorem noteFar_bridged (s : State) (p : Dir) (b : Bool) : (noteFar s p b).bridged = s.bridged := by unfold noteFar; (repeat' split) <;> rfl
@[simp] theorem noteFar_bill (s : State) (p : Dir) (b : Bool) : (noteFar s p b).bill = s.bill := by unfold noteFar; (repeat' split) <;> rfl
@[simp] theorem noteFar_site (s : State) (p : Dir) (b : Bool) : (noteFar s p b).site = s.site := by unfold noteFar; (repeat' split) <;> rfl
@[simp] theorem noteFar_freeCount (s : State) (p : Dir) (b : Bool) : (noteFar s p b).freeCount = s.freeCount := by unfold noteFar; (repeat' split) <;> rfl
@[simp] theorem noteFar_pending (s : State) (p : Dir) (b : Bool) : (noteFar s p b).pending = s.pending := by unfold noteFar; (repeat' split) <;> rfl

@[simp] theorem putSlot_phase (s : State) (p : Dir) (v : Slot) : (putSlot s p v).phase = s.phase := by unfold putSlot; (repeat' split) <;> rfl
@[simp] theorem putSlot_cfg (s : State) (p : Dir) (v : Slot) : (putSlot s p v).cfg = s.cfg := by unfold putSlot; (repeat' split) <;> rfl
@[simp] theorem putSlot_nowMs (s : State) (p : Dir) (v : Slot) : (putSlot s p v).nowMs = s.nowMs := by unfold putSlot; (repeat' split) <;> rfl
@[simp] theorem putSlot_pins (s : State) (p : Dir) (v : Slot) : (putSlot s p v).pins = s.pins := by unfold putSlot; (repeat' split) <;> rfl
@[simp] theorem putSlot_clock (s : State) (p : Dir) (v : Slot) : (putSlot s p v).clock = s.clock := by unfold putSlot; (repeat' split) <;> rfl
@[simp] theorem putSlot_entries (s : State) (p : Dir) (v : Slot) : (putSlot s p v).entries = s.entries := by unfold putSlot; (repeat' split) <;> rfl
@[simp] theorem putSlot_claims (s : State) (p : Dir) (v : Slot) : (putSlot s p v).claims = s.claims := by unfold putSlot; (repeat' split) <;> rfl
@[simp] theorem putSlot_recov (s : State) (p : Dir) (v : Slot) : (putSlot s p v).recov = s.recov := by unfold putSlot; (repeat' split) <;> rfl
@[simp] theorem putSlot_switch (s : State) (p : Dir) (v : Slot) : (putSlot s p v).switch = s.switch := by unfold putSlot; (repeat' split) <;> rfl
@[simp] theorem putSlot_mons (s : State) (p : Dir) (v : Slot) : (putSlot s p v).mons = s.mons := by unfold putSlot; (repeat' split) <;> rfl
@[simp] theorem putSlot_bridged (s : State) (p : Dir) (v : Slot) : (putSlot s p v).bridged = s.bridged := by unfold putSlot; (repeat' split) <;> rfl
@[simp] theorem putSlot_bill (s : State) (p : Dir) (v : Slot) : (putSlot s p v).bill = s.bill := by unfold putSlot; (repeat' split) <;> rfl
@[simp] theorem putSlot_site (s : State) (p : Dir) (v : Slot) : (putSlot s p v).site = s.site := by unfold putSlot; (repeat' split) <;> rfl
@[simp] theorem putSlot_freeCount (s : State) (p : Dir) (v : Slot) : (putSlot s p v).freeCount = s.freeCount := by unfold putSlot; (repeat' split) <;> rfl
@[simp] theorem putSlot_pending (s : State) (p : Dir) (v : Slot) : (putSlot s p v).pending = s.pending := by unfold putSlot; (repeat' split) <;> rfl

@[simp] theorem emit_phase (s : State) (p : Dir) (m : Option Msg) : (emit s p m).phase = s.phase := by unfold emit putSlot; (repeat' split) <;> rfl
@[simp] theorem emit_cfg (s : State) (p : Dir) (m : Option Msg) : (emit s p m).cfg = s.cfg := by unfold emit putSlot; (repeat' split) <;> rfl
@[simp] theorem emit_nowMs (s : State) (p : Dir) (m : Option Msg) : (emit s p m).nowMs = s.nowMs := by unfold emit putSlot; (repeat' split) <;> rfl
@[simp] theorem emit_pins (s : State) (p : Dir) (m : Option Msg) : (emit s p m).pins = s.pins := by unfold emit putSlot; (repeat' split) <;> rfl
@[simp] theorem emit_clock (s : State) (p : Dir) (m : Option Msg) : (emit s p m).clock = s.clock := by unfold emit putSlot; (repeat' split) <;> rfl
@[simp] theorem emit_entries (s : State) (p : Dir) (m : Option Msg) : (emit s p m).entries = s.entries := by unfold emit putSlot; (repeat' split) <;> rfl
@[simp] theorem emit_claims (s : State) (p : Dir) (m : Option Msg) : (emit s p m).claims = s.claims := by unfold emit putSlot; (repeat' split) <;> rfl
@[simp] theorem emit_recov (s : State) (p : Dir) (m : Option Msg) : (emit s p m).recov = s.recov := by unfold emit putSlot; (repeat' split) <;> rfl
@[simp] theorem emit_switch (s : State) (p : Dir) (m : Option Msg) : (emit s p m).switch = s.switch := by unfold emit putSlot; (repeat' split) <;> rfl
@[simp] theorem emit_mons (s : State) (p : Dir) (m : Option Msg) : (emit s p m).mons = s.mons := by unfold emit putSlot; (repeat' split) <;> rfl
@[simp] theorem emit_bridged (s : State) (p : Dir) (m : Option Msg) : (emit s p m).bridged = s.bridged := by unfold emit putSlot; (repeat' split) <;> rfl
@[simp] theorem emit_bill (s : State) (p : Dir) (m : Option Msg) : (emit s p m).bill = s.bill := by unfold emit putSlot; (repeat' split) <;> rfl
@[simp] theorem emit_site (s : State) (p : Dir) (m : Option Msg) : (emit s p m).site = s.site := by unfold emit putSlot; (repeat' split) <;> rfl
@[simp] theorem emit_freeCount (s : State) (p : Dir) (m : Option Msg) : (emit s p m).freeCount = s.freeCount := by unfold emit putSlot; (repeat' split) <;> rfl
@[simp] theorem emit_pending (s : State) (p : Dir) (m : Option Msg) : (emit s p m).pending = s.pending := by unfold emit putSlot; (repeat' split) <;> rfl

@[simp] theorem setSpan_phase (s : State) (p : Dir) (m : SpanMon) : (setSpan s p m).phase = s.phase := by unfold setSpan; (repeat' split) <;> rfl
@[simp] theorem setSpan_cfg (s : State) (p : Dir) (m : SpanMon) : (setSpan s p m).cfg = s.cfg := by unfold setSpan; (repeat' split) <;> rfl
@[simp] theorem setSpan_nowMs (s : State) (p : Dir) (m : SpanMon) : (setSpan s p m).nowMs = s.nowMs := by unfold setSpan; (repeat' split) <;> rfl
@[simp] theorem setSpan_pins (s : State) (p : Dir) (m : SpanMon) : (setSpan s p m).pins = s.pins := by unfold setSpan; (repeat' split) <;> rfl
@[simp] theorem setSpan_clock (s : State) (p : Dir) (m : SpanMon) : (setSpan s p m).clock = s.clock := by unfold setSpan; (repeat' split) <;> rfl
@[simp] theorem setSpan_lane (s : State) (p : Dir) (m : SpanMon) : (setSpan s p m).lane = s.lane := by unfold setSpan; (repeat' split) <;> rfl
@[simp] theorem setSpan_entries (s : State) (p : Dir) (m : SpanMon) : (setSpan s p m).entries = s.entries := by unfold setSpan; (repeat' split) <;> rfl
@[simp] theorem setSpan_claims (s : State) (p : Dir) (m : SpanMon) : (setSpan s p m).claims = s.claims := by unfold setSpan; (repeat' split) <;> rfl
@[simp] theorem setSpan_recov (s : State) (p : Dir) (m : SpanMon) : (setSpan s p m).recov = s.recov := by unfold setSpan; (repeat' split) <;> rfl
@[simp] theorem setSpan_switch (s : State) (p : Dir) (m : SpanMon) : (setSpan s p m).switch = s.switch := by unfold setSpan; (repeat' split) <;> rfl
@[simp] theorem setSpan_bridged (s : State) (p : Dir) (m : SpanMon) : (setSpan s p m).bridged = s.bridged := by unfold setSpan; (repeat' split) <;> rfl
@[simp] theorem setSpan_bill (s : State) (p : Dir) (m : SpanMon) : (setSpan s p m).bill = s.bill := by unfold setSpan; (repeat' split) <;> rfl
@[simp] theorem setSpan_site (s : State) (p : Dir) (m : SpanMon) : (setSpan s p m).site = s.site := by unfold setSpan; (repeat' split) <;> rfl
@[simp] theorem setSpan_freeCount (s : State) (p : Dir) (m : SpanMon) : (setSpan s p m).freeCount = s.freeCount := by unfold setSpan; (repeat' split) <;> rfl
@[simp] theorem setSpan_pending (s : State) (p : Dir) (m : SpanMon) : (setSpan s p m).pending = s.pending := by unfold setSpan; (repeat' split) <;> rfl

@[simp] theorem joinShort_phase (s : State) (r : Reply) : (joinShort s r).phase = s.phase := by unfold joinShort; (repeat' split) <;> rfl
@[simp] theorem joinShort_cfg (s : State) (r : Reply) : (joinShort s r).cfg = s.cfg := by unfold joinShort; (repeat' split) <;> rfl
@[simp] theorem joinShort_nowMs (s : State) (r : Reply) : (joinShort s r).nowMs = s.nowMs := by unfold joinShort; (repeat' split) <;> rfl
@[simp] theorem joinShort_pins (s : State) (r : Reply) : (joinShort s r).pins = s.pins := by unfold joinShort; (repeat' split) <;> rfl
@[simp] theorem joinShort_clock (s : State) (r : Reply) : (joinShort s r).clock = s.clock := by unfold joinShort; (repeat' split) <;> rfl
@[simp] theorem joinShort_lane (s : State) (r : Reply) : (joinShort s r).lane = s.lane := by unfold joinShort; (repeat' split) <;> rfl
@[simp] theorem joinShort_entries (s : State) (r : Reply) : (joinShort s r).entries = s.entries := by unfold joinShort; (repeat' split) <;> rfl
@[simp] theorem joinShort_claims (s : State) (r : Reply) : (joinShort s r).claims = s.claims := by unfold joinShort; (repeat' split) <;> rfl
@[simp] theorem joinShort_recov (s : State) (r : Reply) : (joinShort s r).recov = s.recov := by unfold joinShort; (repeat' split) <;> rfl
@[simp] theorem joinShort_switch (s : State) (r : Reply) : (joinShort s r).switch = s.switch := by unfold joinShort; (repeat' split) <;> rfl
@[simp] theorem joinShort_mons (s : State) (r : Reply) : (joinShort s r).mons = s.mons := by unfold joinShort; (repeat' split) <;> rfl
@[simp] theorem joinShort_bridged (s : State) (r : Reply) : (joinShort s r).bridged = s.bridged := by unfold joinShort; (repeat' split) <;> rfl
@[simp] theorem joinShort_bill (s : State) (r : Reply) : (joinShort s r).bill = s.bill := by unfold joinShort; (repeat' split) <;> rfl
@[simp] theorem joinShort_freeCount (s : State) (r : Reply) : (joinShort s r).freeCount = s.freeCount := by unfold joinShort; (repeat' split) <;> rfl
@[simp] theorem joinShort_pending (s : State) (r : Reply) : (joinShort s r).pending = s.pending := by unfold joinShort; (repeat' split) <;> rfl

@[simp] theorem setSeconds_phase (s : State) (v : Nat) : (setSeconds s v).phase = s.phase := rfl
@[simp] theorem setSeconds_cfg (s : State) (v : Nat) : (setSeconds s v).cfg = s.cfg := rfl
@[simp] theorem setSeconds_nowMs (s : State) (v : Nat) : (setSeconds s v).nowMs = s.nowMs := rfl
@[simp] theorem setSeconds_pins (s : State) (v : Nat) : (setSeconds s v).pins = s.pins := rfl
@[simp] theorem setSeconds_lane (s : State) (v : Nat) : (setSeconds s v).lane = s.lane := rfl
@[simp] theorem setSeconds_entries (s : State) (v : Nat) : (setSeconds s v).entries = s.entries := rfl
@[simp] theorem setSeconds_claims (s : State) (v : Nat) : (setSeconds s v).claims = s.claims := rfl
@[simp] theorem setSeconds_recov (s : State) (v : Nat) : (setSeconds s v).recov = s.recov := rfl
@[simp] theorem setSeconds_switch (s : State) (v : Nat) : (setSeconds s v).switch = s.switch := rfl
@[simp] theorem setSeconds_mons (s : State) (v : Nat) : (setSeconds s v).mons = s.mons := rfl
@[simp] theorem setSeconds_bridged (s : State) (v : Nat) : (setSeconds s v).bridged = s.bridged := rfl
@[simp] theorem setSeconds_bill (s : State) (v : Nat) : (setSeconds s v).bill = s.bill := rfl
@[simp] theorem setSeconds_site (s : State) (v : Nat) : (setSeconds s v).site = s.site := rfl
@[simp] theorem setSeconds_freeCount (s : State) (v : Nat) : (setSeconds s v).freeCount = s.freeCount := rfl
@[simp] theorem setSeconds_pending (s : State) (v : Nat) : (setSeconds s v).pending = s.pending := rfl

@[simp] theorem allocate_phase (s : State) (k : Key) (b : Booking) (st : EntryState) (l : Option Nat) (ins : Bool) : (allocate s k b st l ins).phase = s.phase := by unfold allocate setEntry; (repeat' split) <;> rfl
@[simp] theorem allocate_cfg (s : State) (k : Key) (b : Booking) (st : EntryState) (l : Option Nat) (ins : Bool) : (allocate s k b st l ins).cfg = s.cfg := by unfold allocate setEntry; (repeat' split) <;> rfl
@[simp] theorem allocate_nowMs (s : State) (k : Key) (b : Booking) (st : EntryState) (l : Option Nat) (ins : Bool) : (allocate s k b st l ins).nowMs = s.nowMs := by unfold allocate setEntry; (repeat' split) <;> rfl
@[simp] theorem allocate_pins (s : State) (k : Key) (b : Booking) (st : EntryState) (l : Option Nat) (ins : Bool) : (allocate s k b st l ins).pins = s.pins := by unfold allocate setEntry; (repeat' split) <;> rfl
@[simp] theorem allocate_clock (s : State) (k : Key) (b : Booking) (st : EntryState) (l : Option Nat) (ins : Bool) : (allocate s k b st l ins).clock = s.clock := by unfold allocate setEntry; (repeat' split) <;> rfl
@[simp] theorem allocate_lane (s : State) (k : Key) (b : Booking) (st : EntryState) (l : Option Nat) (ins : Bool) : (allocate s k b st l ins).lane = s.lane := by unfold allocate setEntry; (repeat' split) <;> rfl
@[simp] theorem allocate_claims (s : State) (k : Key) (b : Booking) (st : EntryState) (l : Option Nat) (ins : Bool) : (allocate s k b st l ins).claims = s.claims := by unfold allocate setEntry; (repeat' split) <;> rfl
@[simp] theorem allocate_recov (s : State) (k : Key) (b : Booking) (st : EntryState) (l : Option Nat) (ins : Bool) : (allocate s k b st l ins).recov = s.recov := by unfold allocate setEntry; (repeat' split) <;> rfl
@[simp] theorem allocate_switch (s : State) (k : Key) (b : Booking) (st : EntryState) (l : Option Nat) (ins : Bool) : (allocate s k b st l ins).switch = s.switch := by unfold allocate setEntry; (repeat' split) <;> rfl
@[simp] theorem allocate_mons (s : State) (k : Key) (b : Booking) (st : EntryState) (l : Option Nat) (ins : Bool) : (allocate s k b st l ins).mons = s.mons := by unfold allocate setEntry; (repeat' split) <;> rfl
@[simp] theorem allocate_bridged (s : State) (k : Key) (b : Booking) (st : EntryState) (l : Option Nat) (ins : Bool) : (allocate s k b st l ins).bridged = s.bridged := by unfold allocate setEntry; (repeat' split) <;> rfl
@[simp] theorem allocate_bill (s : State) (k : Key) (b : Booking) (st : EntryState) (l : Option Nat) (ins : Bool) : (allocate s k b st l ins).bill = s.bill := by unfold allocate setEntry; (repeat' split) <;> rfl
@[simp] theorem allocate_site (s : State) (k : Key) (b : Booking) (st : EntryState) (l : Option Nat) (ins : Bool) : (allocate s k b st l ins).site = s.site := by unfold allocate setEntry; (repeat' split) <;> rfl
@[simp] theorem allocate_freeCount (s : State) (k : Key) (b : Booking) (st : EntryState) (l : Option Nat) (ins : Bool) : (allocate s k b st l ins).freeCount = s.freeCount := by unfold allocate setEntry; (repeat' split) <;> rfl
@[simp] theorem allocate_pending (s : State) (k : Key) (b : Booking) (st : EntryState) (l : Option Nat) (ins : Bool) : (allocate s k b st l ins).pending = s.pending := by unfold allocate setEntry; (repeat' split) <;> rfl

@[simp] theorem setBinding_phase (s : State) (i : Nat) (b : Binding) : (setBinding s i b).phase = s.phase := by unfold setBinding updEntry setEntry; (repeat' split) <;> rfl
@[simp] theorem setBinding_cfg (s : State) (i : Nat) (b : Binding) : (setBinding s i b).cfg = s.cfg := by unfold setBinding updEntry setEntry; (repeat' split) <;> rfl
@[simp] theorem setBinding_nowMs (s : State) (i : Nat) (b : Binding) : (setBinding s i b).nowMs = s.nowMs := by unfold setBinding updEntry setEntry; (repeat' split) <;> rfl
@[simp] theorem setBinding_pins (s : State) (i : Nat) (b : Binding) : (setBinding s i b).pins = s.pins := by unfold setBinding updEntry setEntry; (repeat' split) <;> rfl
@[simp] theorem setBinding_clock (s : State) (i : Nat) (b : Binding) : (setBinding s i b).clock = s.clock := by unfold setBinding updEntry setEntry; (repeat' split) <;> rfl
@[simp] theorem setBinding_lane (s : State) (i : Nat) (b : Binding) : (setBinding s i b).lane = s.lane := by unfold setBinding updEntry setEntry; (repeat' split) <;> rfl
@[simp] theorem setBinding_claims (s : State) (i : Nat) (b : Binding) : (setBinding s i b).claims = s.claims := by unfold setBinding updEntry setEntry; (repeat' split) <;> rfl
@[simp] theorem setBinding_recov (s : State) (i : Nat) (b : Binding) : (setBinding s i b).recov = s.recov := by unfold setBinding updEntry setEntry; (repeat' split) <;> rfl
@[simp] theorem setBinding_switch (s : State) (i : Nat) (b : Binding) : (setBinding s i b).switch = s.switch := by unfold setBinding updEntry setEntry; (repeat' split) <;> rfl
@[simp] theorem setBinding_mons (s : State) (i : Nat) (b : Binding) : (setBinding s i b).mons = s.mons := by unfold setBinding updEntry setEntry; (repeat' split) <;> rfl
@[simp] theorem setBinding_bridged (s : State) (i : Nat) (b : Binding) : (setBinding s i b).bridged = s.bridged := by unfold setBinding updEntry setEntry; (repeat' split) <;> rfl
@[simp] theorem setBinding_bill (s : State) (i : Nat) (b : Binding) : (setBinding s i b).bill = s.bill := by unfold setBinding updEntry setEntry; (repeat' split) <;> rfl
@[simp] theorem setBinding_site (s : State) (i : Nat) (b : Binding) : (setBinding s i b).site = s.site := by unfold setBinding updEntry setEntry; (repeat' split) <;> rfl
@[simp] theorem setBinding_freeCount (s : State) (i : Nat) (b : Binding) : (setBinding s i b).freeCount = s.freeCount := by unfold setBinding updEntry setEntry; (repeat' split) <;> rfl
@[simp] theorem setBinding_pending (s : State) (i : Nat) (b : Binding) : (setBinding s i b).pending = s.pending := by unfold setBinding updEntry setEntry; (repeat' split) <;> rfl

@[simp] theorem markRequest_phase (s : State) (i : Nat) : (markRequest s i).phase = s.phase := by unfold markRequest updEntry setEntry; (repeat' split) <;> rfl
@[simp] theorem markRequest_cfg (s : State) (i : Nat) : (markRequest s i).cfg = s.cfg := by unfold markRequest updEntry setEntry; (repeat' split) <;> rfl
@[simp] theorem markRequest_nowMs (s : State) (i : Nat) : (markRequest s i).nowMs = s.nowMs := by unfold markRequest updEntry setEntry; (repeat' split) <;> rfl
@[simp] theorem markRequest_pins (s : State) (i : Nat) : (markRequest s i).pins = s.pins := by unfold markRequest updEntry setEntry; (repeat' split) <;> rfl
@[simp] theorem markRequest_clock (s : State) (i : Nat) : (markRequest s i).clock = s.clock := by unfold markRequest updEntry setEntry; (repeat' split) <;> rfl
@[simp] theorem markRequest_lane (s : State) (i : Nat) : (markRequest s i).lane = s.lane := by unfold markRequest updEntry setEntry; (repeat' split) <;> rfl
@[simp] theorem markRequest_claims (s : State) (i : Nat) : (markRequest s i).claims = s.claims := by unfold markRequest updEntry setEntry; (repeat' split) <;> rfl
@[simp] theorem markRequest_recov (s : State) (i : Nat) : (markRequest s i).recov = s.recov := by unfold markRequest updEntry setEntry; (repeat' split) <;> rfl
@[simp] theorem markRequest_switch (s : State) (i : Nat) : (markRequest s i).switch = s.switch := by unfold markRequest updEntry setEntry; (repeat' split) <;> rfl
@[simp] theorem markRequest_mons (s : State) (i : Nat) : (markRequest s i).mons = s.mons := by unfold markRequest updEntry setEntry; (repeat' split) <;> rfl
@[simp] theorem markRequest_bridged (s : State) (i : Nat) : (markRequest s i).bridged = s.bridged := by unfold markRequest updEntry setEntry; (repeat' split) <;> rfl
@[simp] theorem markRequest_bill (s : State) (i : Nat) : (markRequest s i).bill = s.bill := by unfold markRequest updEntry setEntry; (repeat' split) <;> rfl
@[simp] theorem markRequest_site (s : State) (i : Nat) : (markRequest s i).site = s.site := by unfold markRequest updEntry setEntry; (repeat' split) <;> rfl
@[simp] theorem markRequest_freeCount (s : State) (i : Nat) : (markRequest s i).freeCount = s.freeCount := by unfold markRequest updEntry setEntry; (repeat' split) <;> rfl
@[simp] theorem markRequest_pending (s : State) (i : Nat) : (markRequest s i).pending = s.pending := by unfold markRequest updEntry setEntry; (repeat' split) <;> rfl

/-- A good protection record returns the resend count to 0 (R142). -/
@[simp] theorem resendsAfter_good (n : Nat) : resendsAfter .good n = 0 := rfl
/-- Another protection record leaves the resend count. -/
@[simp] theorem resendsAfter_failed (n : Nat) : resendsAfter .failed n = n := rfl
@[simp] theorem resendsAfter_settling (n : Nat) : resendsAfter .settling n = n := rfl
@[simp] theorem setResends_phase (s : State) (i n : Nat) : (setResends s i n).phase = s.phase := by unfold setResends updEntry setEntry; (repeat' split) <;> rfl
@[simp] theorem setResends_cfg (s : State) (i n : Nat) : (setResends s i n).cfg = s.cfg := by unfold setResends updEntry setEntry; (repeat' split) <;> rfl
@[simp] theorem setResends_nowMs (s : State) (i n : Nat) : (setResends s i n).nowMs = s.nowMs := by unfold setResends updEntry setEntry; (repeat' split) <;> rfl
@[simp] theorem setResends_pins (s : State) (i n : Nat) : (setResends s i n).pins = s.pins := by unfold setResends updEntry setEntry; (repeat' split) <;> rfl
@[simp] theorem setResends_clock (s : State) (i n : Nat) : (setResends s i n).clock = s.clock := by unfold setResends updEntry setEntry; (repeat' split) <;> rfl
@[simp] theorem setResends_lane (s : State) (i n : Nat) : (setResends s i n).lane = s.lane := by unfold setResends updEntry setEntry; (repeat' split) <;> rfl
@[simp] theorem setResends_claims (s : State) (i n : Nat) : (setResends s i n).claims = s.claims := by unfold setResends updEntry setEntry; (repeat' split) <;> rfl
@[simp] theorem setResends_recov (s : State) (i n : Nat) : (setResends s i n).recov = s.recov := by unfold setResends updEntry setEntry; (repeat' split) <;> rfl
@[simp] theorem setResends_switch (s : State) (i n : Nat) : (setResends s i n).switch = s.switch := by unfold setResends updEntry setEntry; (repeat' split) <;> rfl
@[simp] theorem setResends_mons (s : State) (i n : Nat) : (setResends s i n).mons = s.mons := by unfold setResends updEntry setEntry; (repeat' split) <;> rfl
@[simp] theorem setResends_bridged (s : State) (i n : Nat) : (setResends s i n).bridged = s.bridged := by unfold setResends updEntry setEntry; (repeat' split) <;> rfl
@[simp] theorem setResends_bill (s : State) (i n : Nat) : (setResends s i n).bill = s.bill := by unfold setResends updEntry setEntry; (repeat' split) <;> rfl
@[simp] theorem setResends_site (s : State) (i n : Nat) : (setResends s i n).site = s.site := by unfold setResends updEntry setEntry; (repeat' split) <;> rfl
@[simp] theorem setResends_freeCount (s : State) (i n : Nat) : (setResends s i n).freeCount = s.freeCount := by unfold setResends updEntry setEntry; (repeat' split) <;> rfl
@[simp] theorem setResends_pending (s : State) (i n : Nat) : (setResends s i n).pending = s.pending := by unfold setResends updEntry setEntry; (repeat' split) <;> rfl

@[simp] theorem setBridgeFlag_phase (s : State) (i : Nat) (b : Bool) : (setBridgeFlag s i b).phase = s.phase := by unfold setBridgeFlag updEntry setEntry; (repeat' split) <;> rfl
@[simp] theorem setBridgeFlag_cfg (s : State) (i : Nat) (b : Bool) : (setBridgeFlag s i b).cfg = s.cfg := by unfold setBridgeFlag updEntry setEntry; (repeat' split) <;> rfl
@[simp] theorem setBridgeFlag_nowMs (s : State) (i : Nat) (b : Bool) : (setBridgeFlag s i b).nowMs = s.nowMs := by unfold setBridgeFlag updEntry setEntry; (repeat' split) <;> rfl
@[simp] theorem setBridgeFlag_pins (s : State) (i : Nat) (b : Bool) : (setBridgeFlag s i b).pins = s.pins := by unfold setBridgeFlag updEntry setEntry; (repeat' split) <;> rfl
@[simp] theorem setBridgeFlag_clock (s : State) (i : Nat) (b : Bool) : (setBridgeFlag s i b).clock = s.clock := by unfold setBridgeFlag updEntry setEntry; (repeat' split) <;> rfl
@[simp] theorem setBridgeFlag_lane (s : State) (i : Nat) (b : Bool) : (setBridgeFlag s i b).lane = s.lane := by unfold setBridgeFlag updEntry setEntry; (repeat' split) <;> rfl
@[simp] theorem setBridgeFlag_claims (s : State) (i : Nat) (b : Bool) : (setBridgeFlag s i b).claims = s.claims := by unfold setBridgeFlag updEntry setEntry; (repeat' split) <;> rfl
@[simp] theorem setBridgeFlag_recov (s : State) (i : Nat) (b : Bool) : (setBridgeFlag s i b).recov = s.recov := by unfold setBridgeFlag updEntry setEntry; (repeat' split) <;> rfl
@[simp] theorem setBridgeFlag_switch (s : State) (i : Nat) (b : Bool) : (setBridgeFlag s i b).switch = s.switch := by unfold setBridgeFlag updEntry setEntry; (repeat' split) <;> rfl
@[simp] theorem setBridgeFlag_mons (s : State) (i : Nat) (b : Bool) : (setBridgeFlag s i b).mons = s.mons := by unfold setBridgeFlag updEntry setEntry; (repeat' split) <;> rfl
@[simp] theorem setBridgeFlag_bridged (s : State) (i : Nat) (b : Bool) : (setBridgeFlag s i b).bridged = s.bridged := by unfold setBridgeFlag updEntry setEntry; (repeat' split) <;> rfl
@[simp] theorem setBridgeFlag_bill (s : State) (i : Nat) (b : Bool) : (setBridgeFlag s i b).bill = s.bill := by unfold setBridgeFlag updEntry setEntry; (repeat' split) <;> rfl
@[simp] theorem setBridgeFlag_site (s : State) (i : Nat) (b : Bool) : (setBridgeFlag s i b).site = s.site := by unfold setBridgeFlag updEntry setEntry; (repeat' split) <;> rfl
@[simp] theorem setBridgeFlag_freeCount (s : State) (i : Nat) (b : Bool) : (setBridgeFlag s i b).freeCount = s.freeCount := by unfold setBridgeFlag updEntry setEntry; (repeat' split) <;> rfl
@[simp] theorem setBridgeFlag_pending (s : State) (i : Nat) (b : Bool) : (setBridgeFlag s i b).pending = s.pending := by unfold setBridgeFlag updEntry setEntry; (repeat' split) <;> rfl

@[simp] theorem setBridgeDrops_phase (s : State) (i : Nat) (d : StationSet) : (setBridgeDrops s i d).phase = s.phase := by unfold setBridgeDrops updEntry setEntry; (repeat' split) <;> rfl
@[simp] theorem setBridgeDrops_cfg (s : State) (i : Nat) (d : StationSet) : (setBridgeDrops s i d).cfg = s.cfg := by unfold setBridgeDrops updEntry setEntry; (repeat' split) <;> rfl
@[simp] theorem setBridgeDrops_nowMs (s : State) (i : Nat) (d : StationSet) : (setBridgeDrops s i d).nowMs = s.nowMs := by unfold setBridgeDrops updEntry setEntry; (repeat' split) <;> rfl
@[simp] theorem setBridgeDrops_pins (s : State) (i : Nat) (d : StationSet) : (setBridgeDrops s i d).pins = s.pins := by unfold setBridgeDrops updEntry setEntry; (repeat' split) <;> rfl
@[simp] theorem setBridgeDrops_clock (s : State) (i : Nat) (d : StationSet) : (setBridgeDrops s i d).clock = s.clock := by unfold setBridgeDrops updEntry setEntry; (repeat' split) <;> rfl
@[simp] theorem setBridgeDrops_lane (s : State) (i : Nat) (d : StationSet) : (setBridgeDrops s i d).lane = s.lane := by unfold setBridgeDrops updEntry setEntry; (repeat' split) <;> rfl
@[simp] theorem setBridgeDrops_claims (s : State) (i : Nat) (d : StationSet) : (setBridgeDrops s i d).claims = s.claims := by unfold setBridgeDrops updEntry setEntry; (repeat' split) <;> rfl
@[simp] theorem setBridgeDrops_recov (s : State) (i : Nat) (d : StationSet) : (setBridgeDrops s i d).recov = s.recov := by unfold setBridgeDrops updEntry setEntry; (repeat' split) <;> rfl
@[simp] theorem setBridgeDrops_switch (s : State) (i : Nat) (d : StationSet) : (setBridgeDrops s i d).switch = s.switch := by unfold setBridgeDrops updEntry setEntry; (repeat' split) <;> rfl
@[simp] theorem setBridgeDrops_mons (s : State) (i : Nat) (d : StationSet) : (setBridgeDrops s i d).mons = s.mons := by unfold setBridgeDrops updEntry setEntry; (repeat' split) <;> rfl
@[simp] theorem setBridgeDrops_bridged (s : State) (i : Nat) (d : StationSet) : (setBridgeDrops s i d).bridged = s.bridged := by unfold setBridgeDrops updEntry setEntry; (repeat' split) <;> rfl
@[simp] theorem setBridgeDrops_bill (s : State) (i : Nat) (d : StationSet) : (setBridgeDrops s i d).bill = s.bill := by unfold setBridgeDrops updEntry setEntry; (repeat' split) <;> rfl
@[simp] theorem setBridgeDrops_site (s : State) (i : Nat) (d : StationSet) : (setBridgeDrops s i d).site = s.site := by unfold setBridgeDrops updEntry setEntry; (repeat' split) <;> rfl
@[simp] theorem setBridgeDrops_freeCount (s : State) (i : Nat) (d : StationSet) : (setBridgeDrops s i d).freeCount = s.freeCount := by unfold setBridgeDrops updEntry setEntry; (repeat' split) <;> rfl
@[simp] theorem setBridgeDrops_pending (s : State) (i : Nat) (d : StationSet) : (setBridgeDrops s i d).pending = s.pending := by unfold setBridgeDrops updEntry setEntry; (repeat' split) <;> rfl

@[simp] theorem writePreempted_phase (s : State) (i : Nat) (b : Bool) : (writePreempted s i b).phase = s.phase := by unfold writePreempted updEntry setEntry; (repeat' split) <;> rfl
@[simp] theorem writePreempted_cfg (s : State) (i : Nat) (b : Bool) : (writePreempted s i b).cfg = s.cfg := by unfold writePreempted updEntry setEntry; (repeat' split) <;> rfl
@[simp] theorem writePreempted_nowMs (s : State) (i : Nat) (b : Bool) : (writePreempted s i b).nowMs = s.nowMs := by unfold writePreempted updEntry setEntry; (repeat' split) <;> rfl
@[simp] theorem writePreempted_pins (s : State) (i : Nat) (b : Bool) : (writePreempted s i b).pins = s.pins := by unfold writePreempted updEntry setEntry; (repeat' split) <;> rfl
@[simp] theorem writePreempted_clock (s : State) (i : Nat) (b : Bool) : (writePreempted s i b).clock = s.clock := by unfold writePreempted updEntry setEntry; (repeat' split) <;> rfl
@[simp] theorem writePreempted_lane (s : State) (i : Nat) (b : Bool) : (writePreempted s i b).lane = s.lane := by unfold writePreempted updEntry setEntry; (repeat' split) <;> rfl
@[simp] theorem writePreempted_claims (s : State) (i : Nat) (b : Bool) : (writePreempted s i b).claims = s.claims := by unfold writePreempted updEntry setEntry; (repeat' split) <;> rfl
@[simp] theorem writePreempted_recov (s : State) (i : Nat) (b : Bool) : (writePreempted s i b).recov = s.recov := by unfold writePreempted updEntry setEntry; (repeat' split) <;> rfl
@[simp] theorem writePreempted_switch (s : State) (i : Nat) (b : Bool) : (writePreempted s i b).switch = s.switch := by unfold writePreempted updEntry setEntry; (repeat' split) <;> rfl
@[simp] theorem writePreempted_mons (s : State) (i : Nat) (b : Bool) : (writePreempted s i b).mons = s.mons := by unfold writePreempted updEntry setEntry; (repeat' split) <;> rfl
@[simp] theorem writePreempted_bridged (s : State) (i : Nat) (b : Bool) : (writePreempted s i b).bridged = s.bridged := by unfold writePreempted updEntry setEntry; (repeat' split) <;> rfl
@[simp] theorem writePreempted_bill (s : State) (i : Nat) (b : Bool) : (writePreempted s i b).bill = s.bill := by unfold writePreempted updEntry setEntry; (repeat' split) <;> rfl
@[simp] theorem writePreempted_site (s : State) (i : Nat) (b : Bool) : (writePreempted s i b).site = s.site := by unfold writePreempted updEntry setEntry; (repeat' split) <;> rfl
@[simp] theorem writePreempted_freeCount (s : State) (i : Nat) (b : Bool) : (writePreempted s i b).freeCount = s.freeCount := by unfold writePreempted updEntry setEntry; (repeat' split) <;> rfl
@[simp] theorem writePreempted_pending (s : State) (i : Nat) (b : Bool) : (writePreempted s i b).pending = s.pending := by unfold writePreempted updEntry setEntry; (repeat' split) <;> rfl

@[simp] theorem takeSeq_phase (s : State) : (takeSeq s).phase = s.phase := rfl
@[simp] theorem takeSeq_cfg (s : State) : (takeSeq s).cfg = s.cfg := rfl
@[simp] theorem takeSeq_nowMs (s : State) : (takeSeq s).nowMs = s.nowMs := rfl
@[simp] theorem takeSeq_pins (s : State) : (takeSeq s).pins = s.pins := rfl
@[simp] theorem takeSeq_clock (s : State) : (takeSeq s).clock = s.clock := rfl
@[simp] theorem takeSeq_lane (s : State) : (takeSeq s).lane = s.lane := rfl
@[simp] theorem takeSeq_entries (s : State) : (takeSeq s).entries = s.entries := rfl
@[simp] theorem takeSeq_recov (s : State) : (takeSeq s).recov = s.recov := rfl
@[simp] theorem takeSeq_switch (s : State) : (takeSeq s).switch = s.switch := rfl
@[simp] theorem takeSeq_mons (s : State) : (takeSeq s).mons = s.mons := rfl
@[simp] theorem takeSeq_bridged (s : State) : (takeSeq s).bridged = s.bridged := rfl
@[simp] theorem takeSeq_bill (s : State) : (takeSeq s).bill = s.bill := rfl
@[simp] theorem takeSeq_site (s : State) : (takeSeq s).site = s.site := rfl
@[simp] theorem takeSeq_freeCount (s : State) : (takeSeq s).freeCount = s.freeCount := rfl
@[simp] theorem takeSeq_pending (s : State) : (takeSeq s).pending = s.pending := rfl

@[simp] theorem addRecent_phase (s : State) (k : Key) (m : Mode) : (addRecent s k m).phase = s.phase := rfl
@[simp] theorem addRecent_cfg (s : State) (k : Key) (m : Mode) : (addRecent s k m).cfg = s.cfg := rfl
@[simp] theorem addRecent_nowMs (s : State) (k : Key) (m : Mode) : (addRecent s k m).nowMs = s.nowMs := rfl
@[simp] theorem addRecent_pins (s : State) (k : Key) (m : Mode) : (addRecent s k m).pins = s.pins := rfl
@[simp] theorem addRecent_clock (s : State) (k : Key) (m : Mode) : (addRecent s k m).clock = s.clock := rfl
@[simp] theorem addRecent_lane (s : State) (k : Key) (m : Mode) : (addRecent s k m).lane = s.lane := rfl
@[simp] theorem addRecent_entries (s : State) (k : Key) (m : Mode) : (addRecent s k m).entries = s.entries := rfl
@[simp] theorem addRecent_recov (s : State) (k : Key) (m : Mode) : (addRecent s k m).recov = s.recov := rfl
@[simp] theorem addRecent_switch (s : State) (k : Key) (m : Mode) : (addRecent s k m).switch = s.switch := rfl
@[simp] theorem addRecent_mons (s : State) (k : Key) (m : Mode) : (addRecent s k m).mons = s.mons := rfl
@[simp] theorem addRecent_bridged (s : State) (k : Key) (m : Mode) : (addRecent s k m).bridged = s.bridged := rfl
@[simp] theorem addRecent_bill (s : State) (k : Key) (m : Mode) : (addRecent s k m).bill = s.bill := rfl
@[simp] theorem addRecent_site (s : State) (k : Key) (m : Mode) : (addRecent s k m).site = s.site := rfl
@[simp] theorem addRecent_freeCount (s : State) (k : Key) (m : Mode) : (addRecent s k m).freeCount = s.freeCount := rfl
@[simp] theorem addRecent_pending (s : State) (k : Key) (m : Mode) : (addRecent s k m).pending = s.pending := rfl

@[simp] theorem discardRecent_phase (s : State) (k : Key) (m : Mode) : (discardRecent s k m).phase = s.phase := rfl
@[simp] theorem discardRecent_cfg (s : State) (k : Key) (m : Mode) : (discardRecent s k m).cfg = s.cfg := rfl
@[simp] theorem discardRecent_nowMs (s : State) (k : Key) (m : Mode) : (discardRecent s k m).nowMs = s.nowMs := rfl
@[simp] theorem discardRecent_pins (s : State) (k : Key) (m : Mode) : (discardRecent s k m).pins = s.pins := rfl
@[simp] theorem discardRecent_clock (s : State) (k : Key) (m : Mode) : (discardRecent s k m).clock = s.clock := rfl
@[simp] theorem discardRecent_lane (s : State) (k : Key) (m : Mode) : (discardRecent s k m).lane = s.lane := rfl
@[simp] theorem discardRecent_entries (s : State) (k : Key) (m : Mode) : (discardRecent s k m).entries = s.entries := rfl
@[simp] theorem discardRecent_recov (s : State) (k : Key) (m : Mode) : (discardRecent s k m).recov = s.recov := rfl
@[simp] theorem discardRecent_switch (s : State) (k : Key) (m : Mode) : (discardRecent s k m).switch = s.switch := rfl
@[simp] theorem discardRecent_mons (s : State) (k : Key) (m : Mode) : (discardRecent s k m).mons = s.mons := rfl
@[simp] theorem discardRecent_bridged (s : State) (k : Key) (m : Mode) : (discardRecent s k m).bridged = s.bridged := rfl
@[simp] theorem discardRecent_bill (s : State) (k : Key) (m : Mode) : (discardRecent s k m).bill = s.bill := rfl
@[simp] theorem discardRecent_site (s : State) (k : Key) (m : Mode) : (discardRecent s k m).site = s.site := rfl
@[simp] theorem discardRecent_freeCount (s : State) (k : Key) (m : Mode) : (discardRecent s k m).freeCount = s.freeCount := rfl
@[simp] theorem discardRecent_pending (s : State) (k : Key) (m : Mode) : (discardRecent s k m).pending = s.pending := rfl

@[simp] theorem markRecent_phase (s : State) (k : Key) (m : Mode) (x : RecentMark) : (markRecent s k m x).phase = s.phase := rfl
@[simp] theorem markRecent_cfg (s : State) (k : Key) (m : Mode) (x : RecentMark) : (markRecent s k m x).cfg = s.cfg := rfl
@[simp] theorem markRecent_nowMs (s : State) (k : Key) (m : Mode) (x : RecentMark) : (markRecent s k m x).nowMs = s.nowMs := rfl
@[simp] theorem markRecent_pins (s : State) (k : Key) (m : Mode) (x : RecentMark) : (markRecent s k m x).pins = s.pins := rfl
@[simp] theorem markRecent_clock (s : State) (k : Key) (m : Mode) (x : RecentMark) : (markRecent s k m x).clock = s.clock := rfl
@[simp] theorem markRecent_lane (s : State) (k : Key) (m : Mode) (x : RecentMark) : (markRecent s k m x).lane = s.lane := rfl
@[simp] theorem markRecent_entries (s : State) (k : Key) (m : Mode) (x : RecentMark) : (markRecent s k m x).entries = s.entries := rfl
@[simp] theorem markRecent_recov (s : State) (k : Key) (m : Mode) (x : RecentMark) : (markRecent s k m x).recov = s.recov := rfl
@[simp] theorem markRecent_switch (s : State) (k : Key) (m : Mode) (x : RecentMark) : (markRecent s k m x).switch = s.switch := rfl
@[simp] theorem markRecent_mons (s : State) (k : Key) (m : Mode) (x : RecentMark) : (markRecent s k m x).mons = s.mons := rfl
@[simp] theorem markRecent_bridged (s : State) (k : Key) (m : Mode) (x : RecentMark) : (markRecent s k m x).bridged = s.bridged := rfl
@[simp] theorem markRecent_bill (s : State) (k : Key) (m : Mode) (x : RecentMark) : (markRecent s k m x).bill = s.bill := rfl
@[simp] theorem markRecent_site (s : State) (k : Key) (m : Mode) (x : RecentMark) : (markRecent s k m x).site = s.site := rfl
@[simp] theorem markRecent_freeCount (s : State) (k : Key) (m : Mode) (x : RecentMark) : (markRecent s k m x).freeCount = s.freeCount := rfl
@[simp] theorem markRecent_pending (s : State) (k : Key) (m : Mode) (x : RecentMark) : (markRecent s k m x).pending = s.pending := rfl

@[simp] theorem limitRecent_phase (s : State) (k : Key) (v : Nat) : (limitRecent s k v).phase = s.phase := rfl
@[simp] theorem limitRecent_cfg (s : State) (k : Key) (v : Nat) : (limitRecent s k v).cfg = s.cfg := rfl
@[simp] theorem limitRecent_nowMs (s : State) (k : Key) (v : Nat) : (limitRecent s k v).nowMs = s.nowMs := rfl
@[simp] theorem limitRecent_pins (s : State) (k : Key) (v : Nat) : (limitRecent s k v).pins = s.pins := rfl
@[simp] theorem limitRecent_clock (s : State) (k : Key) (v : Nat) : (limitRecent s k v).clock = s.clock := rfl
@[simp] theorem limitRecent_lane (s : State) (k : Key) (v : Nat) : (limitRecent s k v).lane = s.lane := rfl
@[simp] theorem limitRecent_entries (s : State) (k : Key) (v : Nat) : (limitRecent s k v).entries = s.entries := rfl
@[simp] theorem limitRecent_recov (s : State) (k : Key) (v : Nat) : (limitRecent s k v).recov = s.recov := rfl
@[simp] theorem limitRecent_switch (s : State) (k : Key) (v : Nat) : (limitRecent s k v).switch = s.switch := rfl
@[simp] theorem limitRecent_mons (s : State) (k : Key) (v : Nat) : (limitRecent s k v).mons = s.mons := rfl
@[simp] theorem limitRecent_bridged (s : State) (k : Key) (v : Nat) : (limitRecent s k v).bridged = s.bridged := rfl
@[simp] theorem limitRecent_bill (s : State) (k : Key) (v : Nat) : (limitRecent s k v).bill = s.bill := rfl
@[simp] theorem limitRecent_site (s : State) (k : Key) (v : Nat) : (limitRecent s k v).site = s.site := rfl
@[simp] theorem limitRecent_freeCount (s : State) (k : Key) (v : Nat) : (limitRecent s k v).freeCount = s.freeCount := rfl
@[simp] theorem limitRecent_pending (s : State) (k : Key) (v : Nat) : (limitRecent s k v).pending = s.pending := rfl

@[simp] theorem idleUnownedCells_phase (s : State) : (idleUnownedCells s).phase = s.phase := rfl
@[simp] theorem idleUnownedCells_cfg (s : State) : (idleUnownedCells s).cfg = s.cfg := rfl
@[simp] theorem idleUnownedCells_nowMs (s : State) : (idleUnownedCells s).nowMs = s.nowMs := rfl
@[simp] theorem idleUnownedCells_pins (s : State) : (idleUnownedCells s).pins = s.pins := rfl
@[simp] theorem idleUnownedCells_clock (s : State) : (idleUnownedCells s).clock = s.clock := rfl
@[simp] theorem idleUnownedCells_lane (s : State) : (idleUnownedCells s).lane = s.lane := rfl
@[simp] theorem idleUnownedCells_entries (s : State) : (idleUnownedCells s).entries = s.entries := rfl
@[simp] theorem idleUnownedCells_claims (s : State) : (idleUnownedCells s).claims = s.claims := rfl
@[simp] theorem idleUnownedCells_recov (s : State) : (idleUnownedCells s).recov = s.recov := rfl
@[simp] theorem idleUnownedCells_mons (s : State) : (idleUnownedCells s).mons = s.mons := rfl
@[simp] theorem idleUnownedCells_bridged (s : State) : (idleUnownedCells s).bridged = s.bridged := rfl
@[simp] theorem idleUnownedCells_bill (s : State) : (idleUnownedCells s).bill = s.bill := rfl
@[simp] theorem idleUnownedCells_site (s : State) : (idleUnownedCells s).site = s.site := rfl
@[simp] theorem idleUnownedCells_freeCount (s : State) : (idleUnownedCells s).freeCount = s.freeCount := rfl
@[simp] theorem idleUnownedCells_pending (s : State) : (idleUnownedCells s).pending = s.pending := rfl

@[simp] theorem releaseOutput_phase (s : State) (e : Entry) : (releaseOutput s e).phase = s.phase := by unfold releaseOutput updOutput; (repeat' split) <;> rfl
@[simp] theorem releaseOutput_cfg (s : State) (e : Entry) : (releaseOutput s e).cfg = s.cfg := by unfold releaseOutput updOutput; (repeat' split) <;> rfl
@[simp] theorem releaseOutput_nowMs (s : State) (e : Entry) : (releaseOutput s e).nowMs = s.nowMs := by unfold releaseOutput updOutput; (repeat' split) <;> rfl
@[simp] theorem releaseOutput_pins (s : State) (e : Entry) : (releaseOutput s e).pins = s.pins := by unfold releaseOutput updOutput; (repeat' split) <;> rfl
@[simp] theorem releaseOutput_clock (s : State) (e : Entry) : (releaseOutput s e).clock = s.clock := by unfold releaseOutput updOutput; (repeat' split) <;> rfl
@[simp] theorem releaseOutput_lane (s : State) (e : Entry) : (releaseOutput s e).lane = s.lane := by unfold releaseOutput updOutput; (repeat' split) <;> rfl
@[simp] theorem releaseOutput_entries (s : State) (e : Entry) : (releaseOutput s e).entries = s.entries := by unfold releaseOutput updOutput; (repeat' split) <;> rfl
@[simp] theorem releaseOutput_claims (s : State) (e : Entry) : (releaseOutput s e).claims = s.claims := by unfold releaseOutput updOutput; (repeat' split) <;> rfl
@[simp] theorem releaseOutput_recov (s : State) (e : Entry) : (releaseOutput s e).recov = s.recov := by unfold releaseOutput updOutput; (repeat' split) <;> rfl
@[simp] theorem releaseOutput_mons (s : State) (e : Entry) : (releaseOutput s e).mons = s.mons := by unfold releaseOutput updOutput; (repeat' split) <;> rfl
@[simp] theorem releaseOutput_bridged (s : State) (e : Entry) : (releaseOutput s e).bridged = s.bridged := by unfold releaseOutput updOutput; (repeat' split) <;> rfl
@[simp] theorem releaseOutput_bill (s : State) (e : Entry) : (releaseOutput s e).bill = s.bill := by unfold releaseOutput updOutput; (repeat' split) <;> rfl
@[simp] theorem releaseOutput_site (s : State) (e : Entry) : (releaseOutput s e).site = s.site := by unfold releaseOutput updOutput; (repeat' split) <;> rfl
@[simp] theorem releaseOutput_freeCount (s : State) (e : Entry) : (releaseOutput s e).freeCount = s.freeCount := by unfold releaseOutput updOutput; (repeat' split) <;> rfl
@[simp] theorem releaseOutput_pending (s : State) (e : Entry) : (releaseOutput s e).pending = s.pending := by unfold releaseOutput updOutput; (repeat' split) <;> rfl

@[simp] theorem writeOutput_phase (s : State) (i : Nat) (e : Entry) : (writeOutput s i e).phase = s.phase := by unfold writeOutput updOutput; (repeat' split) <;> rfl
@[simp] theorem writeOutput_cfg (s : State) (i : Nat) (e : Entry) : (writeOutput s i e).cfg = s.cfg := by unfold writeOutput updOutput; (repeat' split) <;> rfl
@[simp] theorem writeOutput_nowMs (s : State) (i : Nat) (e : Entry) : (writeOutput s i e).nowMs = s.nowMs := by unfold writeOutput updOutput; (repeat' split) <;> rfl
@[simp] theorem writeOutput_pins (s : State) (i : Nat) (e : Entry) : (writeOutput s i e).pins = s.pins := by unfold writeOutput updOutput; (repeat' split) <;> rfl
@[simp] theorem writeOutput_clock (s : State) (i : Nat) (e : Entry) : (writeOutput s i e).clock = s.clock := by unfold writeOutput updOutput; (repeat' split) <;> rfl
@[simp] theorem writeOutput_lane (s : State) (i : Nat) (e : Entry) : (writeOutput s i e).lane = s.lane := by unfold writeOutput updOutput; (repeat' split) <;> rfl
@[simp] theorem writeOutput_entries (s : State) (i : Nat) (e : Entry) : (writeOutput s i e).entries = s.entries := by unfold writeOutput updOutput; (repeat' split) <;> rfl
@[simp] theorem writeOutput_claims (s : State) (i : Nat) (e : Entry) : (writeOutput s i e).claims = s.claims := by unfold writeOutput updOutput; (repeat' split) <;> rfl
@[simp] theorem writeOutput_recov (s : State) (i : Nat) (e : Entry) : (writeOutput s i e).recov = s.recov := by unfold writeOutput updOutput; (repeat' split) <;> rfl
@[simp] theorem writeOutput_mons (s : State) (i : Nat) (e : Entry) : (writeOutput s i e).mons = s.mons := by unfold writeOutput updOutput; (repeat' split) <;> rfl
@[simp] theorem writeOutput_bridged (s : State) (i : Nat) (e : Entry) : (writeOutput s i e).bridged = s.bridged := by unfold writeOutput updOutput; (repeat' split) <;> rfl
@[simp] theorem writeOutput_bill (s : State) (i : Nat) (e : Entry) : (writeOutput s i e).bill = s.bill := by unfold writeOutput updOutput; (repeat' split) <;> rfl
@[simp] theorem writeOutput_site (s : State) (i : Nat) (e : Entry) : (writeOutput s i e).site = s.site := by unfold writeOutput updOutput; (repeat' split) <;> rfl
@[simp] theorem writeOutput_freeCount (s : State) (i : Nat) (e : Entry) : (writeOutput s i e).freeCount = s.freeCount := by unfold writeOutput updOutput; (repeat' split) <;> rfl
@[simp] theorem writeOutput_pending (s : State) (i : Nat) (e : Entry) : (writeOutput s i e).pending = s.pending := by unfold writeOutput updOutput; (repeat' split) <;> rfl

@[simp] theorem clearPlaces_phase (s : State) (k : Key) : (clearPlaces s k).phase = s.phase := rfl
@[simp] theorem clearPlaces_cfg (s : State) (k : Key) : (clearPlaces s k).cfg = s.cfg := rfl
@[simp] theorem clearPlaces_nowMs (s : State) (k : Key) : (clearPlaces s k).nowMs = s.nowMs := rfl
@[simp] theorem clearPlaces_pins (s : State) (k : Key) : (clearPlaces s k).pins = s.pins := rfl
@[simp] theorem clearPlaces_clock (s : State) (k : Key) : (clearPlaces s k).clock = s.clock := rfl
@[simp] theorem clearPlaces_lane (s : State) (k : Key) : (clearPlaces s k).lane = s.lane := rfl
@[simp] theorem clearPlaces_entries (s : State) (k : Key) : (clearPlaces s k).entries = s.entries := rfl
@[simp] theorem clearPlaces_claims (s : State) (k : Key) : (clearPlaces s k).claims = s.claims := rfl
@[simp] theorem clearPlaces_recov (s : State) (k : Key) : (clearPlaces s k).recov = s.recov := rfl
@[simp] theorem clearPlaces_switch (s : State) (k : Key) : (clearPlaces s k).switch = s.switch := rfl
@[simp] theorem clearPlaces_bridged (s : State) (k : Key) : (clearPlaces s k).bridged = s.bridged := rfl
@[simp] theorem clearPlaces_bill (s : State) (k : Key) : (clearPlaces s k).bill = s.bill := rfl
@[simp] theorem clearPlaces_site (s : State) (k : Key) : (clearPlaces s k).site = s.site := rfl
@[simp] theorem clearPlaces_freeCount (s : State) (k : Key) : (clearPlaces s k).freeCount = s.freeCount := rfl
@[simp] theorem clearPlaces_pending (s : State) (k : Key) : (clearPlaces s k).pending = s.pending := rfl

@[simp] theorem createRecord_phase (s : State) (n : Nat) (e : Entry) : (createRecord s n e).phase = s.phase := rfl
@[simp] theorem createRecord_cfg (s : State) (n : Nat) (e : Entry) : (createRecord s n e).cfg = s.cfg := rfl
@[simp] theorem createRecord_nowMs (s : State) (n : Nat) (e : Entry) : (createRecord s n e).nowMs = s.nowMs := rfl
@[simp] theorem createRecord_pins (s : State) (n : Nat) (e : Entry) : (createRecord s n e).pins = s.pins := rfl
@[simp] theorem createRecord_clock (s : State) (n : Nat) (e : Entry) : (createRecord s n e).clock = s.clock := rfl
@[simp] theorem createRecord_lane (s : State) (n : Nat) (e : Entry) : (createRecord s n e).lane = s.lane := rfl
@[simp] theorem createRecord_entries (s : State) (n : Nat) (e : Entry) : (createRecord s n e).entries = s.entries := rfl
@[simp] theorem createRecord_claims (s : State) (n : Nat) (e : Entry) : (createRecord s n e).claims = s.claims := rfl
@[simp] theorem createRecord_recov (s : State) (n : Nat) (e : Entry) : (createRecord s n e).recov = s.recov := rfl
@[simp] theorem createRecord_switch (s : State) (n : Nat) (e : Entry) : (createRecord s n e).switch = s.switch := rfl
@[simp] theorem createRecord_mons (s : State) (n : Nat) (e : Entry) : (createRecord s n e).mons = s.mons := rfl
@[simp] theorem createRecord_bridged (s : State) (n : Nat) (e : Entry) : (createRecord s n e).bridged = s.bridged := rfl
@[simp] theorem createRecord_site (s : State) (n : Nat) (e : Entry) : (createRecord s n e).site = s.site := rfl
@[simp] theorem createRecord_freeCount (s : State) (n : Nat) (e : Entry) : (createRecord s n e).freeCount = s.freeCount := rfl
@[simp] theorem createRecord_pending (s : State) (n : Nat) (e : Entry) : (createRecord s n e).pending = s.pending := rfl

@[simp] theorem idleCharge_phase (s : State) : (idleCharge s).phase = s.phase := rfl
@[simp] theorem idleCharge_cfg (s : State) : (idleCharge s).cfg = s.cfg := rfl
@[simp] theorem idleCharge_nowMs (s : State) : (idleCharge s).nowMs = s.nowMs := rfl
@[simp] theorem idleCharge_pins (s : State) : (idleCharge s).pins = s.pins := rfl
@[simp] theorem idleCharge_clock (s : State) : (idleCharge s).clock = s.clock := rfl
@[simp] theorem idleCharge_lane (s : State) : (idleCharge s).lane = s.lane := rfl
@[simp] theorem idleCharge_entries (s : State) : (idleCharge s).entries = s.entries := rfl
@[simp] theorem idleCharge_claims (s : State) : (idleCharge s).claims = s.claims := rfl
@[simp] theorem idleCharge_recov (s : State) : (idleCharge s).recov = s.recov := rfl
@[simp] theorem idleCharge_switch (s : State) : (idleCharge s).switch = s.switch := rfl
@[simp] theorem idleCharge_mons (s : State) : (idleCharge s).mons = s.mons := rfl
@[simp] theorem idleCharge_bridged (s : State) : (idleCharge s).bridged = s.bridged := rfl
@[simp] theorem idleCharge_site (s : State) : (idleCharge s).site = s.site := rfl
@[simp] theorem idleCharge_freeCount (s : State) : (idleCharge s).freeCount = s.freeCount := rfl
@[simp] theorem idleCharge_pending (s : State) : (idleCharge s).pending = s.pending := rfl

/-! ### Tables -/

theorem placeAt_set_same {α : Type} (l : List (Option α)) (i : Nat) (v : Option α) (h : i < l.length) : placeAt (l.set i v) i = v := by
  simp [placeAt, h]

theorem placeAt_set_ne {α : Type} (l : List (Option α)) (i j : Nat) (v : Option α) (h : i ≠ j) : placeAt (l.set i v) j = placeAt l j := by
  simp [placeAt, List.getElem?_set_ne h]

theorem placeAt_lt {α : Type} (l : List (Option α)) (i : Nat) (a : α) (h : placeAt l i = some a) : i < l.length := by
  by_contra hn
  simp [placeAt, List.getElem?_eq_none (Nat.le_of_not_lt hn)] at h

theorem modifyAt_length {α : Type} (l : List α) (i : Nat) (f : α → α) : (modifyAt l i f).length = l.length := by
  unfold modifyAt
  split <;> simp

theorem modifyAt_same {α : Type} (l : List α) (i : Nat) (f : α → α) : (modifyAt l i f)[i]? = l[i]?.map f := by
  unfold modifyAt
  split
  · rename_i a h
    have hlt : i < l.length := by
      by_contra hn
      simp [List.getElem?_eq_none (Nat.le_of_not_lt hn)] at h
    rw [h]
    simp [hlt]
  · rename_i h
    rw [h]
    rfl

theorem modifyAt_ne {α : Type} (l : List α) (i j : Nat) (f : α → α) (h : i ≠ j) : (modifyAt l i f)[j]? = l[j]? := by
  unfold modifyAt
  split
  · simp [List.getElem?_set_ne h]
  · rfl

/-- A free place that is found is a place of the table, and it is free. -/
theorem firstFree_spec {α : Type} (l : List (Option α)) (i : Nat) (h : firstFree l = some i) : i < l.length ∧ placeAt l i = none := by
  unfold firstFree at h
  rw [List.findIdx?_eq_some_iff_getElem] at h
  obtain ⟨hlt, hn, -⟩ := h
  refine ⟨hlt, ?_⟩
  simp only [Option.isNone_iff_eq_none] at hn
  simp [placeAt, hlt, hn]

/-- An index that a scan finds holds an entry that satisfies its test. -/
theorem firstEntry_spec (s : State) (p : Entry → Bool) (i : Nat) (h : firstEntry s p = some i) : ∃ e, s.entry i = some e ∧ p e = true := by
  unfold firstEntry at h
  have := List.find?_some h
  revert this
  split
  · rename_i e he
    exact fun hp => ⟨e, he, hp⟩
  · intro hp
    cases hp

theorem findEntry_spec (s : State) (k : Key) (i : Nat) (e : Entry) (h : findEntry s k = some (i, e)) : s.entry i = some e ∧ e.key = k := by
  unfold findEntry at h
  split at h
  · rename_i j hj
    obtain ⟨f, hf, hk⟩ := firstEntry_spec s _ j hj
    rw [hf] at h
    simp only [Option.map_some, Option.some.injEq, Prod.mk.injEq] at h
    obtain ⟨rfl, rfl⟩ := h
    exact ⟨hf, by simpa using hk⟩
  · cases h

/-! ### Entries -/

theorem entry_setEntry_same (s : State) (i : Nat) (e : Entry) (h : i < s.entries.length) : (setEntry s i e).entry i = some e :=
  placeAt_set_same s.entries i (some e) h

theorem entry_setEntry_ne (s : State) (i j : Nat) (e : Entry) (h : i ≠ j) : (setEntry s i e).entry j = s.entry j :=
  placeAt_set_ne s.entries i j (some e) h

/-- An update of an entry changes that entry alone. -/
theorem entry_updEntry (s : State) (i j : Nat) (f : Entry → Entry) :
    (updEntry s i f).entry j = if i = j then (s.entry j).map f else s.entry j := by
  unfold updEntry
  split
  · rename_i e he
    by_cases hij : i = j
    · subst hij
      rw [if_pos rfl, entry_setEntry_same s i _ (placeAt_lt _ _ _ he), he]
      rfl
    · rw [if_neg hij, entry_setEntry_ne s i j _ hij]
  · rename_i he
    by_cases hij : i = j
    · subst hij
      rw [if_pos rfl, he]
      rfl
    · rw [if_neg hij]

/-- Freeing empties the place of an entry and no other (R49). -/
theorem entry_freeEntry (s : State) (i j : Nat) : (freeEntry s i).entry j = if i = j then none else s.entry j := by
  unfold freeEntry
  split
  · rename_i e he
    by_cases hij : i = j
    · subst hij
      rw [if_pos rfl]
      exact placeAt_set_same s.entries i none (placeAt_lt _ _ _ he)
    · rw [if_neg hij]
      exact placeAt_set_ne s.entries i j none hij
  · rename_i he
    by_cases hij : i = j
    · subst hij
      rw [if_pos rfl, he]
    · rw [if_neg hij]

/-! ### Scans -/

/-- What every visit keeps, the scan keeps. -/
theorem forEach_keeps (P : State → Prop) (f : State → Nat → State) (hf : ∀ s i, P s → P (f s i)) (l : List Nat) :
    ∀ s, P s → P (forEach l s f) := by
  induction l with
  | nil => exact fun s h => h
  | cons a l ih => exact fun s h => ih _ (hf s a h)

/-- A field that no visit changes is the same after the scan. -/
theorem forEach_field {α : Type} (g : State → α) (f : State → Nat → State) (hf : ∀ s i, g (f s i) = g s) (l : List Nat) (s : State) :
    g (forEach l s f) = g s :=
  forEach_keeps (fun t => g t = g s) f (fun t i h => (hf t i).trans h) l s rfl

/-! ### Notices -/

/-- The sources of the queue after a notice: as before, or with the new source at the tail (R197). -/
theorem placeNotice_sources (q : List Notice) (src : Nat) (c : NoticeBody) (sec : Nat) :
    (placeNotice q src c sec).map Notice.source
      = if q.any (fun n => n.source == src) then q.map Notice.source else q.map Notice.source ++ [src] := by
  unfold placeNotice
  split
  · rw [List.map_map]
    apply List.map_congr_left
    intro n _
    by_cases h : (n.source == src) = true <;> simp [Function.comp, h]
  · simp

/-- A notice changes the notice queue alone (R197). -/
theorem raiseNotice_site (s : State) (src : Nat) (c : NoticeBody) :
    (raiseNotice s src c).site
      = if s.running then { s.site with notices := placeNotice s.site.notices src c s.now } else s.site := by
  unfold raiseNotice
  split <;> rfl

/-! ### Transmit queues -/

@[simp] theorem queue_setQueue_same (s : State) (d : Dir) (q : List Msg) : (setQueue s d q).queue d = q := by cases d <;> rfl

@[simp] theorem queue_setQueue_opp (s : State) (d : Dir) (q : List Msg) : (setQueue s d q).queue (opp d) = s.queue (opp d) := by
  cases d <;> rfl

/-- A message joins its queue at the tail (R10). -/
theorem queue_join (s : State) (d : Dir) (n : Nat) (b : Body) : (join s d n b).queue d = s.queue d ++ [newMsg s d n b] := by
  simp [join]

/-- The other queue is unchanged by a joining (R10). -/
theorem queue_join_opp (s : State) (d : Dir) (n : Nat) (b : Body) : (join s d n b).queue (opp d) = s.queue (opp d) := by
  simp [join]

@[simp] theorem opp_opp (d : Dir) : opp (opp d) = d := by cases d <;> rfl

theorem opp_ne (d : Dir) : opp d ≠ d := by cases d <;> decide

/-! ### The site port -/

/-- Taking a request: nothing before the receiver runs, one short reply while the port is occupied, else the handler's state with its reply
in the reply place (R193). -/
theorem takeRequest_spec (s : State) (tag code : Byte) (handle : State → Answer) :
    takeRequest s tag code handle = s
      ∨ (isOccupied s = true ∧ takeRequest s tag code handle = joinShort s { tag := tag, code := code, status := .busy, data := .none })
      ∨ (isOccupied s = false ∧ takeRequest s tag code handle = (handle s).state.withSite { (handle s).state.site with
          reply := some { tag := tag, code := code, status := (handle s).status, data := (handle s).data } }) := by
  unfold takeRequest
  split
  · exact .inl rfl
  · split
    · rename_i h
      exact .inr (.inl ⟨h, rfl⟩)
    · rename_i h
      exact .inr (.inr ⟨by simpa using h, rfl⟩)

/-- The transmitter takes from one place at most: the reply, else the oldest short reply, else the head notice (R198). -/
theorem sendNext_notices (s : State) : (sendNext s).site.notices = s.site.notices ∨ (sendNext s).site.notices = s.site.notices.tail := by
  unfold sendNext
  split
  · exact .inl rfl
  · split
    · exact .inl rfl
    · exact .inl rfl
    · rename_i h
      exact .inr (by simp [h])
    · exact .inl rfl

/-! ### Held-over messages (R12) -/

@[simp] theorem joinHeldOver_phase (s : State) : (joinHeldOver s).phase = s.phase := by unfold joinHeldOver; (repeat' split) <;> rfl
@[simp] theorem joinHeldOver_cfg (s : State) : (joinHeldOver s).cfg = s.cfg := by unfold joinHeldOver; (repeat' split) <;> rfl
@[simp] theorem joinHeldOver_nowMs (s : State) : (joinHeldOver s).nowMs = s.nowMs := by unfold joinHeldOver; (repeat' split) <;> rfl
@[simp] theorem joinHeldOver_pins (s : State) : (joinHeldOver s).pins = s.pins := by unfold joinHeldOver; (repeat' split) <;> rfl
@[simp] theorem joinHeldOver_clock (s : State) : (joinHeldOver s).clock = s.clock := by unfold joinHeldOver; (repeat' split) <;> rfl
@[simp] theorem joinHeldOver_entries (s : State) : (joinHeldOver s).entries = s.entries := by unfold joinHeldOver; (repeat' split) <;> rfl
@[simp] theorem joinHeldOver_claims (s : State) : (joinHeldOver s).claims = s.claims := by unfold joinHeldOver; (repeat' split) <;> rfl
@[simp] theorem joinHeldOver_recov (s : State) : (joinHeldOver s).recov = s.recov := by unfold joinHeldOver; (repeat' split) <;> rfl
@[simp] theorem joinHeldOver_switch (s : State) : (joinHeldOver s).switch = s.switch := by unfold joinHeldOver; (repeat' split) <;> rfl
@[simp] theorem joinHeldOver_mons (s : State) : (joinHeldOver s).mons = s.mons := by unfold joinHeldOver; (repeat' split) <;> rfl
@[simp] theorem joinHeldOver_bridged (s : State) : (joinHeldOver s).bridged = s.bridged := by unfold joinHeldOver; (repeat' split) <;> rfl
@[simp] theorem joinHeldOver_bill (s : State) : (joinHeldOver s).bill = s.bill := by unfold joinHeldOver; (repeat' split) <;> rfl
@[simp] theorem joinHeldOver_site (s : State) : (joinHeldOver s).site = s.site := by unfold joinHeldOver; (repeat' split) <;> rfl
@[simp] theorem joinHeldOver_freeCount (s : State) : (joinHeldOver s).freeCount = s.freeCount := by unfold joinHeldOver; (repeat' split) <;> rfl
@[simp] theorem joinHeldOver_pending (s : State) : (joinHeldOver s).pending = s.pending := by unfold joinHeldOver; (repeat' split) <;> rfl

@[simp] theorem freePlace_phase (s : State) (d : Dir) (q : List Msg) : (freePlace s d q).phase = s.phase := by cases d <;> simp [freePlace]
@[simp] theorem freePlace_cfg (s : State) (d : Dir) (q : List Msg) : (freePlace s d q).cfg = s.cfg := by cases d <;> simp [freePlace]
@[simp] theorem freePlace_nowMs (s : State) (d : Dir) (q : List Msg) : (freePlace s d q).nowMs = s.nowMs := by cases d <;> simp [freePlace]
@[simp] theorem freePlace_pins (s : State) (d : Dir) (q : List Msg) : (freePlace s d q).pins = s.pins := by cases d <;> simp [freePlace]
@[simp] theorem freePlace_clock (s : State) (d : Dir) (q : List Msg) : (freePlace s d q).clock = s.clock := by cases d <;> simp [freePlace]
@[simp] theorem freePlace_entries (s : State) (d : Dir) (q : List Msg) : (freePlace s d q).entries = s.entries := by cases d <;> simp [freePlace]
@[simp] theorem freePlace_claims (s : State) (d : Dir) (q : List Msg) : (freePlace s d q).claims = s.claims := by cases d <;> simp [freePlace]
@[simp] theorem freePlace_recov (s : State) (d : Dir) (q : List Msg) : (freePlace s d q).recov = s.recov := by cases d <;> simp [freePlace]
@[simp] theorem freePlace_switch (s : State) (d : Dir) (q : List Msg) : (freePlace s d q).switch = s.switch := by cases d <;> simp [freePlace]
@[simp] theorem freePlace_mons (s : State) (d : Dir) (q : List Msg) : (freePlace s d q).mons = s.mons := by cases d <;> simp [freePlace]
@[simp] theorem freePlace_bridged (s : State) (d : Dir) (q : List Msg) : (freePlace s d q).bridged = s.bridged := by cases d <;> simp [freePlace]
@[simp] theorem freePlace_bill (s : State) (d : Dir) (q : List Msg) : (freePlace s d q).bill = s.bill := by cases d <;> simp [freePlace]
@[simp] theorem freePlace_site (s : State) (d : Dir) (q : List Msg) : (freePlace s d q).site = s.site := by cases d <;> simp [freePlace]
@[simp] theorem freePlace_freeCount (s : State) (d : Dir) (q : List Msg) : (freePlace s d q).freeCount = s.freeCount := by cases d <;> simp [freePlace]
@[simp] theorem freePlace_pending (s : State) (d : Dir) (q : List Msg) : (freePlace s d q).pending = s.pending := by cases d <;> simp [freePlace]

/-- The held-over messages keep their order behind those queued, whatever joins (R12). -/
theorem joinHeldOver_order (s : State) :
    (joinHeldOver s).lane.qEast ++ (joinHeldOver s).lane.heldOver = s.lane.qEast ++ s.lane.heldOver := by
  unfold joinHeldOver
  split
  · rename_i m rest h
    split <;> simp [h]
  · rfl

/-- With a place free in the east queue, what joins is the oldest held-over message, if there is one (R12). -/
theorem joinHeldOver_free (s : State) (h : s.lane.qEast.length < 16) :
    joinHeldOver s = s.withLane { s.lane with qEast := s.lane.qEast ++ s.lane.heldOver.take 1, heldOver := s.lane.heldOver.drop 1 } := by
  unfold joinHeldOver
  split
  · rename_i m rest hm
    rw [if_pos (show s.lane.qEast.length < Config.queuePlaces from h), hm]
    rfl
  · rename_i hm
    cases s with
    | mk _ _ _ _ _ lane => cases lane; simp_all [State.withLane]

/-- No message but a held-over one joins the east queue while a HOLDLOST is held over (R12). -/
theorem canJoinProt_heldOver (s : State) (h : s.lane.heldOver ≠ []) : canJoinProt s .east = false := by
  cases hl : s.lane.heldOver with
  | nil => exact absurd hl h
  | cons m rest => simp [canJoinProt, hasPlace, heldFor, hl]

/-! ### Local time (R24, R29) -/

/-- A second counts every local millisecond, whichever part of it the fraction shows (R24). -/
@[simp] theorem Clock.withRan_ran (c : Clock) (n : Nat) : (c.withRan n).ran = n := by
  simp only [Clock.ran, Clock.withRan]
  omega
@[simp] theorem Clock.withRan_synced (c : Clock) (n : Nat) : (c.withRan n).synced = c.synced := rfl
@[simp] theorem Clock.withRan_seconds (c : Clock) (n : Nat) : (c.withRan n).seconds = c.seconds := rfl
@[simp] theorem Clock.withRan_markDeadline (c : Clock) (n : Nat) : (c.withRan n).markDeadline = c.markDeadline := rfl
theorem Clock.withRan_fraction_lt (c : Clock) (n : Nat) : (c.withRan n).fraction < 1000 := by
  simp only [Clock.withRan]
  omega

/-- What passing time does to the clock: a running second has had the milliseconds, a clock that does not run stays (R24). -/
theorem passTime_clock (s : State) (ms : Nat) :
    (passTime s ms).clock = if clockRuns s then s.clock.withRan (s.clock.ran + ms) else s.clock := by
  unfold passTime
  split <;> rfl
@[simp] theorem reach_nowMs (s : State) (d : Nat) : (reach s d).nowMs = max s.nowMs d := by
  simp only [reach, passTime_nowMs]
  omega
@[simp] theorem reach_synced (s : State) (d : Nat) : (reach s d).clock.synced = s.clock.synced := by
  unfold reach; rw [passTime_clock]; split <;> rfl
@[simp] theorem reach_seconds (s : State) (d : Nat) : (reach s d).clock.seconds = s.clock.seconds := by
  unfold reach; rw [passTime_clock]; split <;> rfl
@[simp] theorem reach_markDeadline (s : State) (d : Nat) : (reach s d).clock.markDeadline = s.clock.markDeadline := by
  unfold reach; rw [passTime_clock]; split <;> rfl
theorem reach_ran (s : State) (d : Nat) :
    (reach s d).clock.ran = s.clock.ran + (if clockRuns s then d - s.nowMs else 0) := by
  unfold reach; rw [passTime_clock]; split <;> simp

/-! ### Byte layouts (R203) -/

/-- A tag as a station sends it is read back as the key or as none. -/
theorem readTag_tagOf (k : Option Key) (h : ∀ x, k = some x → x.origin < 16 ∧ x.seq < 65536) : readTag (tagOf k) = k := by
  cases k with
  | none => rfl
  | some x =>
    obtain ⟨ho, hq⟩ := h x rfl
    have h1 : (byteOf x.origin).toNat = x.origin := by simp [byteOf]; omega
    have h2 : ¬ byteOf x.origin = 255#8 := by
      intro hc
      have : (byteOf x.origin).toNat = 255 := by rw [hc]; rfl
      omega
    have h3 : (BitVec.ofNat 16 x.seq).toNat = x.seq := by simp; omega
    simp [readTag, tagOf, h2, h1, h3]

/-- A marker byte says what it was written for. -/
theorem readMarker_slotMarker (x : Slot) : readMarker (slotMarker x) = (x.msg.isSome, x.farDown) := by
  unfold slotMarker
  cases x.msg.isSome <;> cases x.farDown <;> rfl

/-! ### Site frames -/

/-- The code of a request is one of Table 11-2, and the command that the code spells is the request. -/
theorem requestFor_requestOf {c : Instr} {tag code : Byte} {params : List Byte} (h : requestOf c = some (tag, code, params)) :
    isRequest 0x01#8 code = true ∧ requestFor tag code params = some c := by
  cases c <;> simp only [requestOf, Option.some.injEq, Prod.mk.injEq, reduceCtorEq] at h
  all_goals
    obtain ⟨rfl, rfl, rfl⟩ := h
    exact ⟨rfl, rfl⟩

/-- The body of a request reads as its command. -/
theorem readBody_requestBody {c : Instr} {tag code : Byte} {params : List Byte} (h : requestOf c = some (tag, code, params)) :
    readBody (requestBody tag code params) = c := by
  obtain ⟨hr, hf⟩ := requestFor_requestOf h
  simp [readBody, requestBody, byteAt, hr, hf]

/-- A body of another type, or of a code that no request has, reads as UNKNOWN_REQUEST. -/
theorem readBody_unknown (bodyType tag code : Byte) (rest : List Byte) (h : isRequest bodyType code = false) :
    readBody (bodyType :: tag :: code :: rest) = .unknownRequest bodyType tag code := by
  simp [readBody, byteAt, h]

end Sys2Proof.Machine
end

