-- ==== Sys2Proof/Laws/Occupancy.lean ====
section
/-! SUPPORT. What the occupancy test's parts say (R43 to R46): two reservations conflict exactly where two uses clash, and a search names the first
entry that satisfies a test. And what a line adds to its record (R182). -/

namespace Sys2Proof.Machine

/-! ### Searches in index order -/

theorem find_range_some {n : Nat} {p : Nat → Bool} {i : Nat} (h : (List.range n).find? p = some i) :
    p i = true ∧ i < n ∧ ∀ j, j < i → p j = false := by
  obtain ⟨hp, as, bs, he, hall⟩ := List.find?_eq_some_iff_append.mp h
  have hlen : as.length < n := by
    have := congrArg List.length he
    simp at this
    omega
  have hget : ∀ j, j < as.length → as[j]? = some j := by
    intro j hj
    have h1 : (List.range n)[j]? = some j := List.getElem?_range (by omega)
    rw [he, List.getElem?_append_left hj] at h1
    exact h1
  have hi : i = as.length := by
    have h1 : (List.range n)[as.length]? = some as.length := List.getElem?_range hlen
    rw [he] at h1
    simpa using h1
  refine ⟨hp, by omega, fun j hj => ?_⟩
  have hm : j ∈ as := List.mem_of_getElem? (hget j (by omega))
  simpa using hall j hm

/-- The search names the first index, below 64, whose entry satisfies the test (R46). -/
theorem firstEntry_some {s : State} {p : Entry → Bool} {i : Nat} (h : firstEntry s p = some i) :
    (i < Config.entryCount ∧ ∃ e, s.entry i = some e ∧ p e = true) ∧ ∀ j e, j < i → s.entry j = some e → p e = false := by
  obtain ⟨hp, hi, hlow⟩ := find_range_some (n := Config.entryCount) h
  constructor
  · cases he : s.entry i with
    | none => simp [he] at hp
    | some e => exact ⟨hi, e, rfl, by simpa [he] using hp⟩
  · intro j e hj he
    simpa [he] using hlow j hj

/-- A search that finds nothing has met no entry that satisfies the test (R46). -/
theorem firstEntry_none {s : State} {p : Entry → Bool} (h : firstEntry s p = none) :
    ∀ j e, j < Config.entryCount → s.entry j = some e → p e = false := by
  intro j e hj he
  have := List.find?_eq_none.mp h j (by simpa [indexes] using hj)
  simpa [he] using this

/-! ### Conflicts -/

/-- Two reservations meet at a second exactly where one second lies in both (R45). -/
theorem secondsMeet_iff (a b : Reserve) :
    secondsMeet a b = true ↔ ∃ v, (a.start ≤ v ∧ v < a.stop) ∧ b.start ≤ v ∧ v < b.stop := by
  simp only [secondsMeet, Bool.and_eq_true, decide_eq_true_eq]
  constructor
  · intro h
    exact ⟨max a.start b.start, by omega⟩
  · rintro ⟨v, h⟩
    omega

/-- Two lane groups, neither empty, meet exactly where one lane lies in both (R3). -/
theorem lanesMeet_iff (a b : Reserve) (ha : 0 < a.count) (hb : 0 < b.count) :
    lanesMeet a b = true ↔ ∃ x, (a.first ≤ x ∧ x < a.first + a.count) ∧ b.first ≤ x ∧ x < b.first + b.count := by
  simp only [lanesMeet, Bool.and_eq_true, decide_eq_true_eq]
  constructor
  · intro h
    exact ⟨max a.first b.first, by omega⟩
  · rintro ⟨x, h⟩
    omega

/-- Two kinds conflict by Table 3-5. -/
theorem kindsConflict_table :
    (∀ c d, kindsConflict (.working c) (.working d) = true) ∧ kindsConflict .protection .protection = true
      ∧ (∀ c, kindsConflict (.working c) .protection = decide (c ≠ .extra)) ∧ ∀ c, kindsConflict .protection (.working c) = decide (c ≠ .extra) := by
  refine ⟨?_, rfl, ?_, ?_⟩
  · intro c d; cases c <;> cases d <;> rfl
  · intro c; cases c <;> rfl
  · intro c; cases c <;> rfl

/-- The reservations of a use (R43, R44). -/
def Use.reserve (n : Nat) (u : Use) : Reserve := reserveOf u.roles u.bk n u.lo u.hi

/-- The span reservations of a use: working in its direction, protection in the other (R43). -/
theorem Use.mem_spans (n : Nat) (u : Use) (d : Dir) (k : ResKind) :
    (d, k) ∈ (u.reserve n).spans
      ↔ (hasWorkSpan u.roles = true ∧ d = u.bk.dir ∧ k = .working u.bk.cls) ∨ (hasProtSpan u.roles = true ∧ d = opp u.bk.dir ∧ k = .protection) := by
  unfold Use.reserve reserveOf
  cases hasWorkSpan u.roles <;> cases hasProtSpan u.roles <;> simp

/-- A span-lane conflict of two uses is a lane and a second at which both stand on one span-lane in kinds that conflict (R45). -/
theorem spanConflict_iff (n : Nat) (a b : Use) (ha : 0 < a.bk.count) (hb : 0 < b.bk.count) :
    spanConflict (a.reserve n) (b.reserve n) = true ↔ laneClash a b := by
  obtain ⟨hww, hpp, hwp, hpw⟩ := kindsConflict_table
  unfold spanConflict
  rw [Bool.and_eq_true, Bool.and_eq_true, secondsMeet_iff, lanesMeet_iff _ _ ha hb]
  constructor
  · rintro ⟨⟨⟨v, hv1, hv2⟩, x, hx1, hx2⟩, h⟩
    simp only [List.any_eq_true, Bool.and_eq_true, beq_iff_eq] at h
    obtain ⟨⟨d, k⟩, hp, ⟨d', k'⟩, hq, hd, hk⟩ := h
    obtain rfl : d = d' := hd
    rw [Use.mem_spans] at hp hq
    refine ⟨d, x, v, ?_⟩
    rcases hp with ⟨h1, h2, rfl⟩ | ⟨h1, h2, rfl⟩ <;> rcases hq with ⟨g1, g2, rfl⟩ | ⟨g1, g2, rfl⟩
    · exact .inl ⟨⟨h1, h2, hx1, hv1⟩, g1, g2, hx2, hv2⟩
    · rw [hwp] at hk
      exact .inr (.inr (.inl ⟨⟨h1, h2, hx1, hv1⟩, of_decide_eq_true hk, g1, g2, hx2, hv2⟩))
    · rw [hpw] at hk
      exact .inr (.inr (.inr ⟨⟨h1, h2, hx1, hv1⟩, ⟨g1, g2, hx2, hv2⟩, of_decide_eq_true hk⟩))
    · exact .inr (.inl ⟨⟨h1, h2, hx1, hv1⟩, g1, g2, hx2, hv2⟩)
  · rintro ⟨d, x, v, h⟩
    have key : (∃ k k', (d, k) ∈ (a.reserve n).spans ∧ (d, k') ∈ (b.reserve n).spans ∧ kindsConflict k k' = true)
        ∧ inGroup a.bk x ∧ inGroup b.bk x ∧ a.covers v ∧ b.covers v := by
      rcases h with ⟨⟨h1, h2, hx1, hv1⟩, g1, g2, hx2, hv2⟩ | ⟨⟨h1, h2, hx1, hv1⟩, g1, g2, hx2, hv2⟩
        | ⟨⟨h1, h2, hx1, hv1⟩, hc, g1, g2, hx2, hv2⟩ | ⟨⟨h1, h2, hx1, hv1⟩, ⟨g1, g2, hx2, hv2⟩, hc⟩
      · exact ⟨⟨_, _, (Use.mem_spans ..).mpr (.inl ⟨h1, h2, rfl⟩), (Use.mem_spans ..).mpr (.inl ⟨g1, g2, rfl⟩), hww _ _⟩, hx1, hx2, hv1, hv2⟩
      · exact ⟨⟨_, _, (Use.mem_spans ..).mpr (.inr ⟨h1, h2, rfl⟩), (Use.mem_spans ..).mpr (.inr ⟨g1, g2, rfl⟩), hpp⟩, hx1, hx2, hv1, hv2⟩
      · exact ⟨⟨_, _, (Use.mem_spans ..).mpr (.inl ⟨h1, h2, rfl⟩), (Use.mem_spans ..).mpr (.inr ⟨g1, g2, rfl⟩), by rw [hwp]; exact decide_eq_true hc⟩,
          hx1, hx2, hv1, hv2⟩
      · exact ⟨⟨_, _, (Use.mem_spans ..).mpr (.inr ⟨h1, h2, rfl⟩), (Use.mem_spans ..).mpr (.inl ⟨g1, g2, rfl⟩), by rw [hpw]; exact decide_eq_true hc⟩,
          hx1, hx2, hv1, hv2⟩
    obtain ⟨⟨k, k', hp, hq, hk⟩, hx1, hx2, hv1, hv2⟩ := key
    refine ⟨⟨⟨v, hv1, hv2⟩, x, hx1, hx2⟩, ?_⟩
    simp only [List.any_eq_true, Bool.and_eq_true, beq_iff_eq]
    exact ⟨_, hp, _, hq, rfl, hk⟩

theorem samePort_iff (p q : Option Nat) : samePort p q = true ↔ ∃ x, p = some x ∧ q = some x := by
  cases p with
  | none => simp [samePort]
  | some a =>
    cases q with
    | none => simp [samePort]
    | some b =>
      simp only [samePort, beq_iff_eq, Option.some.injEq]
      exact ⟨fun h => ⟨a, rfl, h.symm⟩, fun ⟨x, h1, h2⟩ => h1.trans h2.symm⟩

/-- The output port that a use reserves is the one it delivers on (R44). -/
theorem Use.outPort_iff (n p : Nat) (u : Use) : (u.reserve n).outPort = some p ↔ u.delivers n p := by
  unfold Use.reserve reserveOf Use.delivers
  cases hasDropRole u.roles <;> cases hasProtDrop u.roles <;> simp

/-- The input port that a use reserves is the origin's (R44). -/
theorem Use.inPort_iff (n p : Nat) (u : Use) : (u.reserve n).inPort = some p ↔ Role.origin ∈ u.roles ∧ u.bk.input = p := by
  unfold Use.reserve reserveOf
  simp

/-- A port conflict of two uses is a second at which both have one input port or one output port (R44, R45). -/
theorem portConflict_iff (n : Nat) (a b : Use) : portConflict (a.reserve n) (b.reserve n) = true ↔ portClash n a b := by
  unfold portConflict
  rw [Bool.and_eq_true, secondsMeet_iff, Bool.or_eq_true, samePort_iff, samePort_iff]
  simp only [Use.inPort_iff, Use.outPort_iff]
  constructor
  · rintro ⟨⟨v, hv1, hv2⟩, h⟩
    refine ⟨v, hv1, hv2, ?_⟩
    rcases h with ⟨p, ⟨h1, h2⟩, h3, h4⟩ | h
    · exact .inl ⟨h1, h3, h2.trans h4.symm⟩
    · exact .inr h
  · rintro ⟨v, hv1, hv2, h⟩
    refine ⟨⟨v, hv1, hv2⟩, ?_⟩
    rcases h with ⟨h1, h2, h3⟩ | h
    · exact .inl ⟨_, ⟨h1, h3⟩, h2, rfl⟩
    · exact .inr h

/-! ### Lines of a record -/

/-- What a line adds to its record, field by field (R182). -/
theorem addLine_lineAdded (r : MatchRecord) (l : Line) (fromBound : Bool) (now : Nat) :
    lineAdded r (addLine r l fromBound now) l (if fromBound then r.pending - 1 else r.pending) now := by
  unfold addLine lineAdded
  refine ⟨rfl, rfl, rfl, rfl, ?_, ?_, ?_, ?_, rfl, rfl⟩
  · intro h; simp [h]
  · intro h
    have : ¬ r.lines.length < 8 := by omega
    simp [this, raiseSat, totalLimit]
  · intro bit hb
    have h8 : flagSaturated.getLsbD bit = false := by
      have : bit = 0 ∨ bit = 1 ∨ bit = 2 ∨ bit = 3 ∨ bit = 4 ∨ bit = 5 ∨ bit = 6 := by omega
      rcases this with rfl | rfl | rfl | rfl | rfl | rfl | rfl <;> rfl
    simp only [flagIf, BitVec.getLsbD_or]
    split <;> simp [h8]
  · have hif : ∀ b : Bool, (flagIf b flagSaturated).getLsbD 7 = b := by decide
    rw [BitVec.getLsbD_or, BitVec.getLsbD_or, hif]
    simp only [Bool.or_eq_true, decide_eq_true_eq, or_assoc]
    rfl

end Sys2Proof.Machine
end

