-- ==== Sys2Proof/Laws/PerInstr.lean ====
section
/-! SUPPORT. A per-command family: every command is of one kind. -/

namespace Sys2Proof.Laws.Spelled

/-- A command is a site request or a slot arrival or neither, never both; no word spells it (the table gives its rows no bits). -/
def Statement (c : Instr) : Prop :=
  (Machine.requestOf c = none ∨ Machine.slotOf c = none) ∧ ∀ nbits w, decodeTableWord nbits w ≠ some c

theorem book (tag : Byte) (params : List Byte) : Statement (.book tag params) := ⟨.inr rfl, fun _ _ h => nomatch h⟩
theorem withdraw (tag : Byte) (params : List Byte) : Statement (.withdraw tag params) := ⟨.inr rfl, fun _ _ h => nomatch h⟩
theorem extend (tag : Byte) (params : List Byte) : Statement (.extend tag params) := ⟨.inr rfl, fun _ _ h => nomatch h⟩
theorem setClock (tag : Byte) (params : List Byte) : Statement (.setClock tag params) := ⟨.inr rfl, fun _ _ h => nomatch h⟩
theorem force (tag : Byte) (params : List Byte) : Statement (.force tag params) := ⟨.inr rfl, fun _ _ h => nomatch h⟩
theorem lockout (tag : Byte) (params : List Byte) : Statement (.lockout tag params) := ⟨.inr rfl, fun _ _ h => nomatch h⟩
theorem clearSwitch (tag : Byte) (params : List Byte) : Statement (.clearSwitch tag params) := ⟨.inr rfl, fun _ _ h => nomatch h⟩
theorem readEntry (tag : Byte) (params : List Byte) : Statement (.readEntry tag params) := ⟨.inr rfl, fun _ _ h => nomatch h⟩
theorem readMonitor (tag : Byte) (params : List Byte) : Statement (.readMonitor tag params) := ⟨.inr rfl, fun _ _ h => nomatch h⟩
theorem readMatch (tag : Byte) (params : List Byte) : Statement (.readMatch tag params) := ⟨.inr rfl, fun _ _ h => nomatch h⟩
theorem closeMatch (tag : Byte) (params : List Byte) : Statement (.closeMatch tag params) := ⟨.inr rfl, fun _ _ h => nomatch h⟩
theorem takeStatement (tag : Byte) (params : List Byte) : Statement (.takeStatement tag params) := ⟨.inr rfl, fun _ _ h => nomatch h⟩
theorem remoteRead (tag : Byte) (params : List Byte) : Statement (.remoteRead tag params) := ⟨.inr rfl, fun _ _ h => nomatch h⟩
theorem restart (tag : Byte) (params : List Byte) : Statement (.restart tag params) := ⟨.inr rfl, fun _ _ h => nomatch h⟩
theorem unknownRequest (bodyType : Byte) (tag : Byte) (code : Byte) : Statement (.unknownRequest bodyType tag code) := ⟨.inl rfl, fun _ _ h => nomatch h⟩
theorem badFrame (bytes : List Byte) : Statement (.badFrame bytes) := ⟨.inl rfl, fun _ _ h => nomatch h⟩
theorem interByteTimeout (bytes : List Byte) : Statement (.interByteTimeout bytes) := ⟨.inl rfl, fun _ _ h => nomatch h⟩
theorem frameSent : Statement (.frameSent) := ⟨.inl rfl, fun _ _ h => nomatch h⟩
theorem warmReset : Statement (.warmReset) := ⟨.inl rfl, fun _ _ h => nomatch h⟩
theorem coldReset : Statement (.coldReset) := ⟨.inl rfl, fun _ _ h => nomatch h⟩
theorem configurationLoad (image : List Byte) : Statement (.configurationLoad image) := ⟨.inl rfl, fun _ _ h => nomatch h⟩
theorem bypassSlotForward (port : Dir) (slot : Slot) : Statement (.bypassSlotForward port slot) := ⟨.inl rfl, fun _ _ h => nomatch h⟩
theorem slotDroppedOnWrap (port : Dir) (farDown : Bool) (m : Msg) : Statement (.slotDroppedOnWrap port farDown m) := ⟨.inl rfl, fun _ _ h => nomatch h⟩
theorem emptySlotArrival (port : Dir) (farDown : Bool) : Statement (.emptySlotArrival port farDown) := ⟨.inl rfl, fun _ _ h => nomatch h⟩
theorem markReceived (port : Dir) (farDown : Bool) (h : Header) : Statement (.markReceived port farDown h) := ⟨.inl rfl, fun _ _ h => nomatch h⟩
theorem unknownKindMessage (port : Dir) (farDown : Bool) (h : Header) (kind : Byte) (bytes : List Byte) : Statement (.unknownKindMessage port farDown h kind bytes) := ⟨.inl rfl, fun _ _ h => nomatch h⟩
theorem claimReceived (port : Dir) (farDown : Bool) (h : Header) (b : ClaimBody) : Statement (.claimReceived port farDown h b) := ⟨.inl rfl, fun _ _ h => nomatch h⟩
theorem claimReturned (port : Dir) (farDown : Bool) (h : Header) (b : ClaimBody) : Statement (.claimReturned port farDown h b) := ⟨.inl rfl, fun _ _ h => nomatch h⟩
theorem outboundJoin (dir : Dir) : Statement (.outboundJoin dir) := ⟨.inl rfl, fun _ _ h => nomatch h⟩
theorem confirmReceived (port : Dir) (farDown : Bool) (h : Header) (mode : Mode) : Statement (.confirmReceived port farDown h mode) := ⟨.inl rfl, fun _ _ h => nomatch h⟩
theorem holdlostHeldOverJoin : Statement (.holdlostHeldOverJoin) := ⟨.inl rfl, fun _ _ h => nomatch h⟩
theorem abandonReceived (port : Dir) (farDown : Bool) (h : Header) (mode : Mode) : Statement (.abandonReceived port farDown h mode) := ⟨.inl rfl, fun _ _ h => nomatch h⟩
theorem withdrawReceived (port : Dir) (farDown : Bool) (h : Header) (winEnd : Nat) : Statement (.withdrawReceived port farDown h winEnd) := ⟨.inl rfl, fun _ _ h => nomatch h⟩
theorem holdlostReceived (port : Dir) (farDown : Bool) (h : Header) (key : Key) (mode : Mode) (station : Nat) : Statement (.holdlostReceived port farDown h key mode station) := ⟨.inl rfl, fun _ _ h => nomatch h⟩
theorem switchreqReceived (port : Dir) (farDown : Bool) (h : Header) (key : Key) (station : Nat) (on : Bool) : Statement (.switchreqReceived port farDown h key station on) := ⟨.inl rfl, fun _ _ h => nomatch h⟩
theorem bridgeOnReceived (port : Dir) (farDown : Bool) (h : Header) (key : Key) (drops : StationSet) : Statement (.bridgeOnReceived port farDown h key drops) := ⟨.inl rfl, fun _ _ h => nomatch h⟩
theorem bridgeOffReceived (port : Dir) (farDown : Bool) (h : Header) (key : Key) : Statement (.bridgeOffReceived port farDown h key) := ⟨.inl rfl, fun _ _ h => nomatch h⟩
theorem spanstateReceived (port : Dir) (farDown : Bool) (h : Header) (side : Dir) (up : Bool) : Statement (.spanstateReceived port farDown h side up) := ⟨.inl rfl, fun _ _ h => nomatch h⟩
theorem queryReceived (port : Dir) (farDown : Bool) (h : Header) (target : Nat) (matchId : Nat) : Statement (.queryReceived port farDown h target matchId) := ⟨.inl rfl, fun _ _ h => nomatch h⟩
theorem answerReceived (port : Dir) (farDown : Bool) (h : Header) (querier : Nat) (seq : Nat) (matchId : Nat) (copy : Option Sys2Proof.Statement) : Statement (.answerReceived port farDown h querier seq matchId copy) := ⟨.inl rfl, fun _ _ h => nomatch h⟩
theorem recallReceived (port : Dir) (farDown : Bool) (h : Header) : Statement (.recallReceived port farDown h) := ⟨.inl rfl, fun _ _ h => nomatch h⟩
theorem recallReturned (port : Dir) (farDown : Bool) (h : Header) : Statement (.recallReturned port farDown h) := ⟨.inl rfl, fun _ _ h => nomatch h⟩
theorem reannounceReceived (port : Dir) (farDown : Bool) (h : Header) (r : Reannounce) : Statement (.reannounceReceived port farDown h r) := ⟨.inl rfl, fun _ _ h => nomatch h⟩
theorem walkResume : Statement (.walkResume) := ⟨.inl rfl, fun _ _ h => nomatch h⟩
theorem markTimerExpiry : Statement (.markTimerExpiry) := ⟨.inl rfl, fun _ _ h => nomatch h⟩
theorem secondBoundary : Statement (.secondBoundary) := ⟨.inl rfl, fun _ _ h => nomatch h⟩
theorem chargeTake : Statement (.chargeTake) := ⟨.inl rfl, fun _ _ h => nomatch h⟩
theorem chargeCompletion : Statement (.chargeCompletion) := ⟨.inl rfl, fun _ _ h => nomatch h⟩
theorem circuitTimeout (slot : Nat) : Statement (.circuitTimeout slot) := ⟨.inl rfl, fun _ _ h => nomatch h⟩
theorem tentativeLifetimeExpiry (index : Nat) : Statement (.tentativeLifetimeExpiry index) := ⟨.inl rfl, fun _ _ h => nomatch h⟩
theorem extensionLifetimeExpiry (index : Nat) : Statement (.extensionLifetimeExpiry index) := ⟨.inl rfl, fun _ _ h => nomatch h⟩
theorem retryDeadline (slot : Nat) : Statement (.retryDeadline slot) := ⟨.inl rfl, fun _ _ h => nomatch h⟩
theorem ageDeadline (key : Key) (mode : Mode) : Statement (.ageDeadline key mode) := ⟨.inl rfl, fun _ _ h => nomatch h⟩
theorem holdOffExpiry (index : Nat) : Statement (.holdOffExpiry index) := ⟨.inl rfl, fun _ _ h => nomatch h⟩
theorem restoreWaitExpiry (index : Nat) : Statement (.restoreWaitExpiry index) := ⟨.inl rfl, fun _ _ h => nomatch h⟩
theorem resendDeadline : Statement (.resendDeadline) := ⟨.inl rfl, fun _ _ h => nomatch h⟩
theorem quietDeadline : Statement (.quietDeadline) := ⟨.inl rfl, fun _ _ h => nomatch h⟩
theorem recoveryLimit : Statement (.recoveryLimit) := ⟨.inl rfl, fun _ _ h => nomatch h⟩
theorem queryDeadline : Statement (.queryDeadline) := ⟨.inl rfl, fun _ _ h => nomatch h⟩
theorem spanLoss (side : Dir) (cause : LossCause) : Statement (.spanLoss side cause) := ⟨.inl rfl, fun _ _ h => nomatch h⟩
theorem spanSignalReturn (side : Dir) : Statement (.spanSignalReturn side) := ⟨.inl rfl, fun _ _ h => nomatch h⟩
theorem spanConfirmed (side : Dir) : Statement (.spanConfirmed side) := ⟨.inl rfl, fun _ _ h => nomatch h⟩
theorem inputStateChange (port : Nat) (isPresent : Bool) : Statement (.inputStateChange port isPresent) := ⟨.inl rfl, fun _ _ h => nomatch h⟩
theorem laneFramePeriod (westIn eastIn : List (Option LaneFrame)) (inputs : List (List (List Byte))) : Statement (.laneFramePeriod westIn eastIn inputs) := ⟨.inl rfl, fun _ _ h => nomatch h⟩
theorem resetPinRelease : Statement (.resetPinRelease) := ⟨.inl rfl, fun _ _ h => nomatch h⟩

end Sys2Proof.Laws.Spelled
end

