-- ==== Sys2Proof/Laws/Slots.lean ====
section
/-! SUPPORT. What an arriving full slot can do in the two frequent cases: a message of another station that passes, and one of this
station's that comes back; and what stands on an output without an arriving stream. -/

namespace Sys2Proof.Machine

theorem far_noteFar_same (s : State) (port : Dir) (b : Bool) : (noteFar s port b).far port = b := by cases port <;> rfl
theorem far_noteFar_opp (s : State) (port : Dir) (b : Bool) : (noteFar s port b).far (opp port) = s.far (opp port) := by cases port <;> rfl
theorem noteFar_span (s : State) (port d : Dir) (b : Bool) : (noteFar s port b).span d = s.span d := by cases port <;> rfl

/-- An old stamp moves nothing (R25, R26). -/
theorem takeStamp_old (s : State) (m : Msg) (h : stampOld s m.hdr) : takeStamp s m = s := by
  unfold takeStamp
  rcases h with h | ⟨hs, hl⟩
  · simp [h]
  · simp [hs, hl]

/-- With both sides open neither side is wrapped once the slot has arrived (R18). -/
theorem open_not_wrapped (s : State) (port : Dir) (h : bothOpen s port) :
    wrapped (noteFar s port false) port = false ∧ wrapped (noteFar s port false) (opp port) = false := by
  obtain ⟨-, hu, ho, hf⟩ := h
  constructor
  · simp [wrapped, noteFar_span, hu, far_noteFar_same]
  · simp [wrapped, noteFar_span, ho, far_noteFar_opp, hf]

/-- A full slot with an old stamp on a side that is not wrapped is handled in the state that has its indication noted (R8, R18). -/
theorem arriveFull_arrives (s : State) (port : Dir) (m : Msg) (h : arrivesOpen s port m.hdr) :
    arriveFull s port false m = handleFull (noteFar s port false) port m := by
  obtain ⟨hp, hu, hs⟩ := h
  have hr : s.running = true := by simp [State.running, hp]
  have hw : wrapped (noteFar s port false) port = false := by simp [wrapped, noteFar_span, hu, far_noteFar_same]
  have hst : stampOld (noteFar s port false) m.hdr := by
    unfold stampOld at hs ⊢
    rw [noteFar_clock]
    exact hs
  unfold arriveFull
  simp only [hr, if_true, hw, Bool.false_eq_true, if_false]
  rw [takeStamp_old _ _ hst]

/-- A full slot with an old stamp, with both sides open, is handled in the state that has its indication noted (R8, R18). -/
theorem arriveFull_open (s : State) (port : Dir) (m : Msg) (h : bothOpen s port) (hs : stampOld s m.hdr) :
    arriveFull s port false m = handleFull (noteFar s port false) port m := arriveFull_arrives s port m ⟨h.1, h.2.1, hs⟩

/-- What an output carries that no arriving stream feeds (R5). -/
theorem outOf_emit_same (s : State) (side : Dir) (m : Option Msg) : outOf (emit s side m) side = { farDown := !(s.span side).up, msg := m } := by
  cases side <;> rfl
theorem outOf_emit_opp (s : State) (side : Dir) (m : Option Msg) : outOf (emit s side m) (opp side) = outOf s (opp side) := by cases side <;> rfl

/-- Both outputs carry generated empty slots when normal running begins, and only they have changed (R5). -/
theorem startOutputs_eq (s : State) :
    startOutputs s = s.withLane { s.lane with
      outEast := { farDown := !(s.span .east).up, msg := none }, outWest := { farDown := !(s.span .west).up, msg := none } } := rfl

/-- A message that passes is acted on with its hop count raised and forwarded (R15 to R17). -/
theorem arriveFull_passes (s : State) (port : Dir) (m : Msg) (h : passes s port m.hdr) :
    arriveFull s port false m
      = forward (act (noteFar s port false) port (hopped m)).1 port (act (noteFar s port false) port (hopped m)).2 := by
  obtain ⟨ho, hs, hne, hh, hw⟩ := h
  rw [arriveFull_open s port m ho hs]
  have h1 : (noteFar s port false).self = s.self := by simp [State.self, noteFar_cfg]
  have h2 : (noteFar s port false).ring = s.ring := by simp [State.ring, noteFar_cfg]
  have h3 : ¬ 2 * s.ring ≤ m.hdr.hops + 1 := by omega
  have h4 : firstSight (noteFar s port false) m.hdr = true := by simp [firstSight, hw]
  unfold handleFull
  simp [h1, h2, hne, h3, hw, h4]

/-- A message of this station's that comes back in its sent direction is stripped and handed back, its slot continuing empty (R14). -/
theorem arriveFull_comesBack (s : State) (port : Dir) (m : Msg) (h : comesBack s port m.hdr) :
    arriveFull s port false m = continueEmpty (handBack (noteFar s port false) m) port false := by
  obtain ⟨ho, hs, he, hd⟩ := h
  rw [arriveFull_open s port m ho hs]
  have h1 : (noteFar s port false).self = s.self := by simp [State.self, noteFar_cfg]
  unfold handleFull
  simp [h1, he, hd]

end Sys2Proof.Machine
end

