-- ==== Sys2Proof/Tests/Slice0.lean ====
section
/-! SUPPORT. Tests: the well-formedness checks, the worked examples of the spec, and a witness for the hypotheses of every obligation. -/

namespace Sys2Proof.Tests

set_option Elab.async false

open Sys2Proof Sys2Proof.Machine

/-! ### Small states and operands -/

/-- A header of a message of station o, sent east, with an old stamp. -/
def hdr (o q : Nat) : Header :=
  { origin := o, seq := q, sentDir := .east, stamp := 1000, unsynced := false, hops := 1, wraps := 0, firstWrap := none }

/-- A protected booking of station 2 with drops at stations 3 and 4. -/
def bkOwn : Booking :=
  { matchId := 7, rateClass := 0, cls := .standard, isProtected := true, dir := .east, first := 4, count := 2, winStart := 1100,
    winEnd := 1200, input := 0, drops := [⟨3, 1⟩, ⟨4, 2⟩] }

/-- A protected booking of station 1 with drops at stations 2 and 3. -/
def bkDrop : Booking :=
  { matchId := 9, rateClass := 1, cls := .premium, isProtected := true, dir := .east, first := 8, count := 2, winStart := 1100,
    winEnd := 1200, input := 3, drops := [⟨2, 6⟩, ⟨3, 1⟩] }

/-- The keys of the two bookings. -/
def kOwn : Key := ⟨2, 7⟩
def kDrop : Key := ⟨1, 44⟩

/-- The parameter bytes that name a key, and those of a match id. -/
def keyBytes (k : Key) : List Byte := byteOf k.origin :: bytes2 k.seq

/-- A tariff of 60 with a surcharge of 30. -/
def tariff : Tariff := { rate := 60, surcharge := 30, fee := 100, minimum := 50, rounding := .nearest }

/-- Station 2 of a ring of 5 in normal running, both spans Up, the clock at 1,000, out of recovery. -/
def base : State :=
  { State.reset with
    phase := .normal,
    cfg := { Cfg.reset with station := 2, ringSize := 5, holdOff := 5, restoreWait := 1, threshold := 100, tariffs := List.replicate 8 tariff },
    clock := { synced := true, seconds := 1000, fraction := 0, late := 0, markDeadline := some 10000 },
    recov := { Recall.reset with state := .normal },
    mons := { Monitors.reset with spanEast := { up := true, confirm := none }, spanWest := { up := true, confirm := none } },
    site := { Site.reset with rx := .hunting } }

/-- An entry of a key with this station's roles, in a state. -/
def entryOf (k : Key) (b : Booking) (st : EntryState) : Entry := freshEntry k b (rolesOf 5 k b 2) st none false

/-- The base state with an entry at index 3. -/
def withE (e : Entry) : State := setEntry base 3 e

/-- A drop entry, Active, with a protection part in a state. -/
def dropIn (p : ProtState) : Entry :=
  { entryOf kDrop bkDrop .active with prot := some { state := p, holdOff := some 700, restoreWait := some 800, resends := 0 } }

/-- A closed path record of a condition. -/
def rec1 (c : Cond) : SecondRec := { cond := c, overlay := false, settle := false }

/-- A drop entry whose last working record is of a condition. -/
def dropWith (p : ProtState) (c : Cond) : Entry :=
  { dropIn p with paths := some { selOpen := none, working := some (rec1 c), protection := none, selected := some (rec1 c) } }

/-- A meter that counted four clean seconds, with a binding. -/
def meterOf (b : Binding) : Meter := { Meter.fresh false false with a := 4, b := 4, firstActive := some 990, binding := b }

/-- A match record in a state with pending lines. -/
def recordOf (st : RecordState) (pending : Nat) : MatchRecord :=
  { matchId := 7, state := st, total := 10, contributions := 1, pending := pending, flags := 0, lines := [], folded := 0, foldedCharge := 0,
    firstActivation := 990, lastCharge := none }

/-- The base state with a match record in place 5. -/
def withR (r : MatchRecord) : State := setRecord base 5 (some r)

/-- A claim slot of this station's booking. -/
def slotIn (st : SlotState) : ClaimSlot :=
  { state := st, mode := .new, key := kOwn, firstKey := kOwn, req := bkOwn, oldEnd := 1200, attempt := 1 }

/-- The base state with the Tentative entry and its claim slot 2. -/
def withClaim (st : SlotState) : State := setSlot (withE (entryOf kOwn bkOwn .tentative)) 2 (some (slotIn st))

/-- A full queue of n messages. -/
def fill (n : Nat) : List Msg := List.replicate n { hdr := hdr 2 0, body := .mark }

/-- The base state with n messages in the east queue. -/
def withQ (n : Nat) : State := { base with lane := { base.lane with qEast := fill n } }

/-- A full east queue with a HOLDLOST held over. -/
def heldS : State :=
  { base with lane := { base.lane with qEast := fill 16, heldOver := [{ hdr := hdr 2 44, body := .holdlost kDrop .new 2 }] } }

/-- The entry of a booking that only passes this station, Held. -/
def transit : Entry := { entryOf kDrop { bkDrop with isProtected := false, drops := [⟨3, 1⟩] } .held with roles := [.transit] }

/-- A drop in Bridging with one resend, its request announced On. -/
def waitingPart : ProtPart := { state := .bridging, holdOff := none, restoreWait := none, resends := 1 }
/-- State and resend count of a drop, with two resends so far, after a boundary with a working record of a condition and a clean protection
record. -/
def countAfter (p : ProtState) (c : Cond) : Option (ProtState × Nat) :=
  let e : Entry := { dropIn p with
    prot := some { state := p, holdOff := none, restoreWait := none, resends := 2 },
    paths := some { selOpen := none, working := some (rec1 c), protection := some (rec1 .clean), selected := some (rec1 c) } }
  (((protectionBoundary (withE e) 3).entry 3).bind Entry.prot).map (fun q => (q.state, q.resends))
/-- A drop in Bridging with its announced request On, the marker as given. -/
def waitingResend (b : Bool) : Entry := { dropIn .bridging with prot := some waitingPart, request := some { announced := true, toSend := b } }

/-- The base state with a restart stage, a reply or short replies. -/
def withSite (f : Site → Site) : State := { base with site := f base.site }

/-- A reply. -/
def reply1 : Reply := { tag := 1, code := codeBook, status := .done, data := .none }

/-- A notice. -/
def notice1 : Notice := { source := sourceClock, content := .clockSynced 1000 .setClock, seconds := 1000, superseded := 0 }

/-- The base state with the recall controller changed. -/
def withV (f : Recall → Recall) : State := { base with recov := f base.recov }

/-- The base state in a phase. -/
def inPhase (p : Phase) : State := { base with phase := p }

/-- A configuration image of station st on a ring of n with a good sum. -/
def imageOf (st n : Nat) : List Byte :=
  let body := [byteOf st, byteOf n, 5, 1] ++ bytes2 100 ++ [0xFF, 0] ++ (List.replicate 8 (bytes2 60 ++ bytes2 30 ++ bytes2 100 ++ [50, 2])).flatten
  body ++ bytes2 (((body.map BitVec.toNat).sum + 0x2416) % 65536)

/-- The outcome's state. -/
def after1 (c : Instr) (s : State) : State :=
  match exec c s with
  | .next t => t
  | .fault _ => s
  | .refused _ => s

/-! ### Well-formedness: an ill-formed term for each check -/

theorem test_wf_params : Instr.wf (.book 0 (List.replicate 2046 0)) = false := by decide +kernel
theorem test_wf_unknown_request : Instr.wf (.unknownRequest 1 0 0x10) = false := by decide +kernel
theorem test_wf_empty_frame : Instr.wf (.badFrame []) = false ∧ Instr.wf (.interByteTimeout []) = false := by decide +kernel
theorem test_wf_image_length : Instr.wf (.configurationLoad (List.replicate 73 0)) = false := by decide +kernel
theorem test_wf_header :
    Instr.wf (.markReceived .east false (hdr 16 0)) = false ∧ Instr.wf (.markReceived .east false (hdr 1 65536)) = false
      ∧ Instr.wf (.markReceived .east false { hdr 1 0 with hops := 256 }) = false
      ∧ Instr.wf (.markReceived .east false { hdr 1 0 with wraps := 4 }) = false
      ∧ Instr.wf (.markReceived .east false { hdr 1 0 with firstWrap := some 16 }) = false := by decide +kernel
theorem test_wf_kind : Instr.wf (.unknownKindMessage .east false (hdr 1 0) 13 []) = false := by decide +kernel
theorem test_wf_booking :
    Booking.wf { bkOwn with matchId := 0 } = false ∧ Booking.wf { bkOwn with rateClass := 8 } = false
      ∧ Booking.wf { bkOwn with cls := .extra } = false ∧ Booking.wf { bkOwn with first := 5 } = false
      ∧ Booking.wf { bkOwn with input := 8 } = false ∧ Booking.wf { bkOwn with drops := [] } = false := by decide +kernel
theorem test_wf_claim :
    Instr.wf (.claimReceived .east false (hdr 1 0) { mode := .new, bk := bkDrop, verdict := .refused .laneBusy 16, assessed := 0 }) = false := by
  decide +kernel
theorem test_wf_keys :
    Instr.wf (.switchreqReceived .east false (hdr 1 0) ⟨16, 0⟩ 0 true) = false ∧ Instr.wf (.holdlostReceived .east false (hdr 1 0) kOwn .new 16) = false
      ∧ Instr.wf (.queryReceived .east false (hdr 1 0) 1 16777216) = false ∧ Instr.wf (.ageDeadline ⟨0, 65536⟩ .new) = false := by decide +kernel
theorem test_wf_places :
    Instr.wf (.circuitTimeout 8) = false ∧ Instr.wf (.holdOffExpiry 64) = false ∧ Instr.wf (.inputStateChange 8 true) = false
      ∧ Instr.wf (.laneFramePeriod [] [] []) = false := by decide +kernel
theorem test_wf_well_formed : Instr.wf (.book 0 (bookBytes bkOwn)) = true
    ∧ Instr.wf (.claimReceived .west false (hdr 1 44) { mode := .new, bk := bkDrop, verdict := .clear, assessed := 2 }) = true := by decide +kernel

/-! ### The worked examples and check values of the spec -/

/-- The fail-fill frame of reset carries its own check (R203). -/
theorem test_failFill_check : LaneFrame.failReset = failFrame := by decide +kernel

/-- CRC-16 with polynomial 0x1021 and start 0xFFFF over the bytes of "123456789" is 0x29B1, the published check value of that code (R203). -/
theorem test_crc_check_value : crc16 [0x31, 0x32, 0x33, 0x34, 0x35, 0x36, 0x37, 0x38, 0x39] = 0x29B1 := by decide +kernel

/-- Distances computed by hand from R1's formula: 5 stations, from 4 to 1. -/
theorem test_distances : dist 5 .east 4 1 = 2 ∧ dist 5 .west 4 1 = 3 ∧ dist 5 .east 3 3 = 0 := by decide

/-- Rounding of R174: 60n + 30 goes to the even quotient in mode Nearest. -/
theorem test_rounding : stageQuotient .nearest 90 = 2 ∧ stageQuotient .nearest 150 = 2 ∧ stageQuotient .up 61 = 2 ∧ stageQuotient .down 119 = 1 := by
  decide

/-- The first worked charge of chapter 9: B′ 8,605, charge 364,942, flags Faulted, NoFeed, Degraded, Inexact. -/
theorem test_worked_charge : chargeLine kDrop 6 {
      meter := { Meter.fresh false false with a := 9000, f := 95, z := 300, b := 8605, p := 1200, g := 40 }, window := 9000, lanes := 2,
      tariff := { rate := 1250, surcharge := 300, fee := 400, minimum := 50, rounding := .nearest } }
    = { key := kDrop, port := 6, billable := 8605, charge := 364942, flags := 0x4D } := by decide +kernel

/-- The second worked charge of chapter 9: B′ 4,452, charge 191,900, flags Faulted, NoFeed, Degraded, Floored. -/
theorem test_worked_charge_floored : chargeLine kDrop 6 {
      meter := { Meter.fresh false false with a := 9000, f := 95, z := 5200, b := 3705, p := 1200, g := 40 }, window := 9000, lanes := 2,
      tariff := { rate := 1250, surcharge := 300, fee := 400, minimum := 50, rounding := .nearest } }
    = { key := kDrop, port := 6, billable := 4452, charge := 191900, flags := 0x2D } := by decide +kernel

/-- An image of all ones and one of all zeros fail the sum test (R201). -/
theorem test_blank_images : loadTest (List.replicate 74 0xFF) = some .sumMismatch ∧ loadTest (List.replicate 74 0) = some .sumMismatch := by
  decide +kernel

/-! ### Single steps -/

theorem test_setClock_syncs : (after1 (.setClock 1 (bytes4 5000)) { base with clock := Clock.reset }).clock
    = { synced := true, seconds := 5000, fraction := 0, late := 0, markDeadline := some 10000 } := by decide +kernel
theorem test_book_takes_key : (after1 (.book 1 (bookBytes bkOwn)) base).site.reply
    = some { tag := 1, code := 0x10, status := .accepted, data := .key ⟨2, 0⟩ } := by decide +kernel
theorem test_book_not_synced : (after1 (.book 1 (bookBytes bkOwn)) { base with clock := Clock.reset }).site.reply
    = some { tag := 1, code := 0x10, status := .notSynced, data := .none } := by decide +kernel
theorem test_boundary_activates : ((after1 .secondBoundary
    { withE (entryOf kDrop bkDrop .held) with clock := { base.clock with seconds := 1099 } }).entry 3).map Entry.state = some .active := by
  decide +kernel
theorem test_boundary_closes : ((after1 .secondBoundary
    { withE (entryOf kDrop bkDrop .active) with clock := { base.clock with seconds := 1199 } }).entry 3).map Entry.state = some .closing := by
  decide +kernel
theorem test_span_loss_reports : (after1 (.spanLoss .east .light) base).lane.qEast.map Msg.body = [.spanstate .east false] := by decide +kernel
theorem test_empty_slot_stamps : outOf (after1 (.emptySlotArrival .west false) (withQ 1)) .east
    = { farDown := false, msg := some { hdr := { hdr 2 0 with hops := 0 }, body := .mark } } := by decide +kernel
theorem test_hop_limit : outOf (after1 (.markReceived .west false { hdr 1 0 with hops := 9 }) base) .east = { farDown := false, msg := none } := by
  decide +kernel
/-- R12: the place that a placed head frees goes to the held-over HOLDLOST in the same step. -/
theorem test_held_over_joins : ((after1 (.emptySlotArrival .west false) heldS).lane.qEast.length, (after1 (.emptySlotArrival .west false) heldS).lane.heldOver,
    ((after1 (.emptySlotArrival .west false) heldS).lane.qEast.getLast?).map Msg.body) = (16, [], some (.holdlost kDrop .new 2)) := by decide +kernel
/-- R12: nothing joins the east queue ahead of a held-over HOLDLOST. -/
theorem test_held_over_first : canJoinProt { heldS with lane := { heldS.lane with qEast := fill 14 } } .east = false := by decide +kernel
/-- R24: 500 ms to a circuit deadline are 500 ms of the running second. -/
theorem test_timer_runs_clock : (after1 (.circuitTimeout 2) (withClaim (.awaiting 500))).clock.fraction = 500 := by decide +kernel
/-- R24: a second lasts 1,000 ms of local time, whatever timers expire in it. -/
theorem test_second_lasts : (after1 .secondBoundary (after1 (.circuitTimeout 2) (withClaim (.awaiting 500)))).nowMs = 1000 := by decide +kernel
/-- R80: a station that only passes the feed raises no EntryWithdrawn. -/
theorem test_withdraw_quiet_at_transit :
    (after1 (.withdrawReceived .west false (hdr 1 44) 1150) (withE transit)).site.notices = [] := by decide +kernel
/-- R140: a resend that still waits to join does not raise the resend count again. -/
theorem test_resend_waits : (resendAtBoundary (withE (waitingResend true)) 3 (waitingResend true) (waitingPart) .failed).entry 3 = some (waitingResend true)
    ∧ ((resendAtBoundary (withE (waitingResend false)) 3 (waitingResend false) (waitingPart) .failed).entry 3).bind Entry.prot
      = some { waitingPart with resends := 2 } := by decide +kernel
/-- R142: a boundary whose protection record is good returns the count to 0, where the state stays and where it changes. -/
theorem test_good_record_clears_count : countAfter .restoreWait .clean = some (.restoreWait, 0) ∧ countAfter .restoreWait .fail = some (.protecting, 0)
    ∧ countAfter .protecting .clean = some (.restoreWait, 0) ∧ countAfter .forced .clean = some (.forced, 0) := by decide +kernel
/-- R143: a Force at a drop whose marker already stands sends nothing before the next boundary. -/
theorem test_force_no_new_mark :
    (after1 (.force 1 (keyBytes kDrop)) (withE { dropIn .protecting with request := some { announced := true, toSend := true } })).lane.qEast = [] := by
  decide +kernel
/-- R203: origin byte 0xFF is no tag, whatever the sequence bytes; bits 0 and 1 of a slot's marker byte. -/
theorem test_tag_none : readTag { origin := 0xFF, seq := 7 } = none ∧ readTag { origin := 1, seq := 44 } = some kDrop
    ∧ slotMarker { farDown := true, msg := none } = 2 ∧ slotMarker { farDown := false, msg := some { hdr := hdr 1 0, body := .mark } } = 1 := by decide +kernel
/-- R192, Table 11-5: the bytes of a Restart request with host tag 5 and of a SetClock request to 1,000 with host tag 9, their CRCs computed outside
the model. -/
theorem test_request_frames : readFrame [0x7E, 0, 3, 0x01, 0x05, 0x1D, 0x81, 0x89] = some (.restart 0x05 [])
    ∧ readFrame [0xAA, 0x7E, 0, 7, 0x01, 0x09, 0x13, 0, 0, 0x03, 0xE8, 0xEC, 0x14] = some (.setClock 0x09 [0, 0, 0x03, 0xE8]) := by decide +kernel
/-- R5, R18: after a good load both outputs carry generated empty slots with the indication set, whatever was forwarded before. -/
theorem test_good_load_outputs : ∀ d : Dir, outOf (after1 (.configurationLoad (imageOf 2 5)) { inPhase .loading with
    lane := { base.lane with outEast := { farDown := false, msg := some { hdr := hdr 1 0, body := .mark } }, outWest := { farDown := false, msg := none } } }) d
    = { farDown := true, msg := none } := by
  intro d
  cases d <;> decide +kernel
theorem test_cold_reset_clears : after1 .coldReset (withR (recordOf .opened 0)) = { State.reset with pins := base.pins } := by decide +kernel
theorem test_step_takes_front : step { base with pending := [.restart 1 [], .frameSent] }
    = .next { after1 (.restart 1 []) base with pending := [.frameSent] } := by rfl
theorem test_idle_tick : (match step { base with clock := Clock.reset } with
    | .next t => t.nowMs
    | .fault _ => 0
    | .refused _ => 0) = 1 := by decide +kernel

/-! ### Witnesses: one theorem or more per obligation, one state for the hypotheses of each clause -/

theorem base_ready : portReady base := by unfold portReady portFree; decide +kernel
theorem base_passes : passes base .west (hdr 1 44) := by unfold passes bothOpen stampOld; decide +kernel

/-- The hypotheses of `passes` read only the clock, the indications, the spans, the phase and the configuration. -/
theorem passes_of (s : State) (h : Header) (hs : s.phase = base.phase ∧ s.clock = base.clock ∧ s.lane.farEast = false ∧ s.cfg = base.cfg
    ∧ s.mons = base.mons) (hp : passes base .west h) : passes s .west h := by
  obtain ⟨h1, h2, h3, h4, h5⟩ := hs
  obtain ⟨⟨a, b, c, d⟩, e, f, g, k⟩ := hp
  refine ⟨⟨h1.trans a, ?_, ?_, h3⟩, ?_, ?_, ?_, k⟩
  · simpa [State.span, h5] using b
  · simpa [State.span, h5] using c
  · simpa [stampOld, h2] using e
  · simpa [State.self, h4] using f
  · simpa [State.ring, h4] using g

/-- `portReady` reads only the site port and the phase. -/
theorem ready_of (s : State) (h1 : s.site = base.site) (h2 : s.phase = base.phase) : portReady s := by
  unfold portReady portFree
  rw [h1, h2]
  exact base_ready

theorem witness_ExecKeepsQueue : exec .resetPinRelease State.reset = .next { State.reset with phase := .loading } := by rfl
theorem witness_ConfigurationFixed : (∃ t, exec .frameSent base = .next t) ∧ Instr.frameSent ≠ .coldReset ∧ base.phase ≠ .loading :=
  ⟨⟨_, rfl⟩, by decide, by decide⟩
theorem witness_NoticeLawKept : noticeLaw (withSite (fun x => { x with notices := [notice1] })) ∧ (∃ t, step (withSite (fun x => { x with notices := [notice1] })) = .next t) :=
  ⟨by unfold noticeLaw; decide, ⟨_, rfl⟩⟩

/-- An Active drop entry whose meter has counted, and a Closing one in the close queue. -/
def metered : State := withE { entryOf kDrop bkDrop .active with meter := some (meterOf (.bound 5)) }
def closingS : State :=
  { withE { entryOf kDrop bkDrop .closing with meter := some (meterOf (.bound 5)) } with bill := { base.bill with closeQueue := [3] }, pending := [.chargeTake] }

/-- The base state's calendar is empty. -/
theorem base_empty (i : Nat) : base.entry i = none := by
  show placeAt (List.replicate 64 none) i = none
  unfold placeAt
  rw [List.getElem?_replicate]
  split <;> rfl

/-- The one entry of a state with an entry at index 3. -/
theorem entry_of_withE (e f : Entry) (i : Nat) (h : (withE e).entry i = some f) : i = 3 ∧ f = e := by
  have hz : placeAt (List.replicate 64 (none : Option Entry)) i = none := base_empty i
  by_cases hi : 3 = i
  · subst hi
    refine ⟨rfl, ?_⟩
    exact (Option.some.inj (show some e = some f from h)).symm
  · exfalso
    have hg : (withE e).entry i = none := by
      show placeAt ((List.replicate 64 (none : Option Entry)).set 3 (some e)) i = none
      unfold placeAt at hz ⊢
      rw [List.getElem?_set_ne hi]
      exact hz
    rw [hg] at h
    cases h

theorem witness_MeterLawKept : meterLaw metered ∧ ∃ t, step metered = .next t := by
  refine ⟨?_, ⟨_, rfl⟩⟩
  intro i e m h hm
  obtain ⟨-, rfl⟩ := entry_of_withE _ _ _ h
  cases hm
  unfold Meter.lawful
  decide
theorem witness_IdentityLawKept : identityLaw metered ∧ ∃ t, step metered = .next t := by
  refine ⟨⟨by decide +kernel, ?_⟩, ⟨_, rfl⟩⟩
  intro i j e f hi hj _
  rw [(entry_of_withE _ _ _ hi).1, (entry_of_withE _ _ _ hj).1]
theorem witness_CloseQueueLawKept : identityLaw closingS ∧ closeQueueLaw closingS ∧ ∃ t, step closingS = .next t := by
  refine ⟨⟨by decide +kernel, ?_⟩, ⟨by decide +kernel, ?_, by intro i h; cases h⟩, ⟨_, rfl⟩⟩
  · intro i j e f hi hj _
    rw [(entry_of_withE _ _ _ hi).1, (entry_of_withE _ _ _ hj).1]
  · intro i hi
    obtain rfl : i = 3 := by simpa [closingS] using hi
    exact ⟨_, rfl, rfl⟩
theorem witness_ClockLawKept : clockLaw base ∧ (∃ t, step base = .next t) ∧ Instr.frameSent ≠ .coldReset := by
  refine ⟨?_, ⟨_, rfl⟩, by decide⟩
  unfold clockLaw
  decide
theorem witness_BridgedLawKept : bridgedLaw { metered with bridged := { keys := [kDrop], overflow := 0 } }
    ∧ ∃ t, step { metered with bridged := { keys := [kDrop], overflow := 0 } } = .next t := by
  refine ⟨⟨by decide +kernel, by decide +kernel, ?_⟩, ⟨_, rfl⟩⟩
  intro k hk
  obtain rfl : k = kDrop := by simpa using hk
  decide +kernel
theorem witness_RingSecondsNeverDecrease : clockLaw base ∧ ∃ t, exec .secondBoundary base = .next t := ⟨witness_ClockLawKept.1, ⟨_, rfl⟩⟩
theorem witness_ClaimRoundTrip : (hdr 1 65535).wf = true ∧ ClaimBody.wf { mode := .extend, bk := bkDrop, verdict := .refused .badWindow 15, assessed := 0xFFFF } = true := by
  decide +kernel
theorem witness_BookParamsRoundTrip : bkOwn.wf = true ∧ bookingOk 5 2 bkOwn = true := by decide +kernel
theorem witness_SiteFrameRoundTrip :
    (0x7E#8 : Byte) ∉ [0x00#8] ∧ 3 ≤ [1#8, 2#8, 3#8].length ∧ [1#8, 2#8, 3#8].length ≤ 2048
      ∧ (0#16 : Half) ≠ crc16 (bytes2 [1#8, 2#8, 3#8].length ++ [1#8, 2#8, 3#8])
      ∧ requestOf (.readMonitor 5 (List.replicate 2045 0)) = some (5, codeReadMonitor, List.replicate 2045 0)
      ∧ (List.replicate 2045 (0#8 : Byte)).length ≤ 2045 ∧ (0x02#8 : Byte) ≠ 0x01#8 ∧ (0x0F#8 : Byte).toNat < 0x10
      ∧ 0x1D < (0x1E#8 : Byte).toNat := by decide +kernel

theorem witness_OccupiedPortBusy :
    requestOf (.restart 1 []) = some (1, codeRestart, []) ∧ base.site.rx ≠ .off
      ∧ (withSite (fun x => { x with reply := some reply1, shorts := [reply1, reply1, reply1] })).site.shorts.length < 4
      ∧ (withSite (fun x => { x with restart := .taken, shorts := List.replicate 4 reply1 })).site.restart ≠ .none
      ∧ 4 ≤ (withSite (fun x => { x with restart := .taken, shorts := List.replicate 4 reply1 })).site.shorts.length := by decide +kernel
theorem witness_EarlyRefusals :
    requestOf (.book 1 []) = some (1, codeBook, []) ∧ lengthOk codeBook 0 = false ∧ requestOf (.restart 1 []) = some (1, codeRestart, [])
      ∧ lengthOk codeRestart 0 = true ∧ codeRestart ≠ codeReadMonitor ∧ portFree (inPhase (.bypass .ringSize)) := by
  unfold portFree
  decide +kernel
theorem witness_BookTakesBooking :
    portReady base ∧ (bookBytes bkOwn).length = 24 ∧ bookParams base.ring base.self (bookBytes bkOwn) = some bkOwn ∧ base.clock.synced = true
      ∧ base.recov.state ≠ .recovering ∧ windowOk base.now bkOwn = true ∧ firstFree base.claims.slots = some 0 ∧ firstFree base.entries = some 0
      ∧ testNew base none (newCandidate base (nextKey base) bkOwn) = .pass ∧ canJoinSite base bkOwn.dir = true := by
  refine ⟨base_ready, ?_⟩
  decide +kernel
theorem witness_BookTurnedDown :
    bookParams base.ring base.self (List.replicate 24 0) = none
      ∧ (base.clock.synced = true ∧ { base.recov with state := RecoveryState.recovering }.state = .recovering)
      ∧ ¬ (base.now + 10 ≤ { bkOwn with winStart := 1009 }.winStart)
      ∧ bookParams base.ring base.self (bookBytes { bkOwn with winStart := 1009 }) = some { bkOwn with winStart := 1009 }
      ∧ firstFree { base with claims := { base.claims with slots := List.replicate 8 (some (slotIn .outConfirm)) } }.claims.slots = none
      ∧ testNew (withE (entryOf ⟨2, 9⟩ bkOwn .held)) none (newCandidate (withE (entryOf ⟨2, 9⟩ bkOwn .held)) (nextKey base) bkOwn) = .fails .laneBusy (some 3)
      ∧ canJoinSite (withQ 12) bkOwn.dir = false ∧ testNew (withQ 12) none (newCandidate (withQ 12) (nextKey (withQ 12)) bkOwn) = .pass := by decide +kernel
theorem witness_WithdrawLowersEnd :
    (findEntry (withE (entryOf kOwn bkOwn .held)) (keyAt (keyBytes kOwn ++ bytes4 1101) 0) = some (3, entryOf kOwn bkOwn .held)
      ∧ slotHolds (withE (entryOf kOwn bkOwn .held)) kOwn = false ∧ canJoinSite (withE (entryOf kOwn bkOwn .held)) .east = true
      ∧ (entryOf kOwn bkOwn .held).bk.winStart < fieldAt (keyBytes kOwn ++ bytes4 1101) 3 4
      ∧ fieldAt (keyBytes kOwn ++ bytes4 1100) 3 4 ≤ (entryOf kOwn bkOwn .held).bk.winStart)
      ∧ (findEntry (withE (entryOf kOwn bkOwn .active)) (keyAt (keyBytes kOwn) 0) = some (3, entryOf kOwn bkOwn .active)
        ∧ (entryOf kOwn bkOwn .active).meter = none) := by decide +kernel
theorem witness_ExtendTakesExtension :
    findEntry (withE (entryOf kOwn bkOwn .held)) (keyAt (keyBytes kOwn ++ bytes4 1300) 0) = some (3, entryOf kOwn bkOwn .held)
      ∧ (entryOf kOwn bkOwn .held).bk.winEnd < fieldAt (keyBytes kOwn ++ bytes4 1300) 3 4
      ∧ testExtend (withE (entryOf kOwn bkOwn .held)) kOwn (extendCandidate (withE (entryOf kOwn bkOwn .held)) (entryOf kOwn bkOwn .held) 1300) = .pass
      ∧ firstFree (withE (entryOf kOwn bkOwn .held)).claims.slots = some 0 ∧ canJoinSite (withE (entryOf kOwn bkOwn .held)) .east = true := by decide +kernel
theorem witness_SetClockSyncs : portReady { base with clock := Clock.reset } ∧ (bytes4 5).length = 4 ∧ Clock.reset.synced = false ∧ base.clock.synced = true :=
  ⟨base_ready, by decide +kernel, rfl, rfl⟩
theorem witness_ForceAndLockoutMoveDrop : ∀ p : ProtState, portReady (withE (dropIn p))
    ∧ findEntry (withE (dropIn p)) (keyAt (keyBytes kDrop) 0) = some (3, dropIn p) ∧ (dropIn p).state = .active
    ∧ (dropIn p).request = some { announced := false, toSend := false } ∧ canJoinProt (withE (dropIn p)) .east = true := by
  intro p
  refine ⟨ready_of _ rfl rfl, ?_⟩
  cases p <;> decide +kernel
/-- The state of that drop in Working, its output 6 in the hands of an owner or of none. -/
def forceS (owner : Option Key) : State :=
  { withE (dropIn .working) with
    switch := { base.switch with outputs := base.switch.outputs.set 6 { Output.reset with
      working := owner.map (fun k => { owner := k, index := 3, dir := .east, first := 8, count := 2 }) } } }

theorem witness_ForceAndLockoutMoveDrop_output : ∀ owner : Option Key, owner = some kDrop ∨ owner = none ∨ owner = some kOwn →
    portReady (forceS owner) ∧ findEntry (forceS owner) (keyAt (keyBytes kDrop) 0) = some (3, dropIn .working)
      ∧ entryOut (forceS owner) (dropIn .working) = some 6 ∧ outputOwner ((forceS owner).output 6) = owner
      ∧ ((forceS owner).output 6).selector = .working ∧ 6 < (forceS owner).switch.outputs.length ∧ kOwn ≠ (dropIn .working).key
      ∧ (dropIn .working).meter ≠ none := by
  intro owner h
  refine ⟨ready_of _ rfl rfl, ?_⟩
  rcases h with rfl | rfl | rfl <;> decide +kernel
/-- R108, R160: a Force sets the protection latch with the selector it moves. On an output of another owner it moves nothing; that the latch
stays clear there is log 57. -/
theorem test_force_latches : ∀ owner : Option Key, owner = some kDrop ∨ owner = none ∨ owner = some kOwn →
    (((after1 (.force 1 (keyBytes kDrop)) (forceS owner)).output 6).selector == .protection,
      (((after1 (.force 1 (keyBytes kDrop)) (forceS owner)).entry 3).bind Entry.meter).map Meter.protLatch)
    = (owner != some kOwn, some (owner != some kOwn)) := by
  intro owner h
  rcases h with rfl | rfl | rfl <;> decide +kernel
theorem witness_ForceAndLockoutMoveDrop_requests :
    (dropIn .working).prot.map (fun p => p.state.wants) = some false ∧ (dropIn .protecting).prot.map (fun p => p.state.wants) = some true
      ∧ (withE { dropIn .protecting with request := some { announced := true, toSend := false } }).entry 3
        = some { dropIn .protecting with request := some { announced := true, toSend := false } } := by decide +kernel
theorem witness_ClearSwitchReturnsDrop : ∀ (p : ProtState) (c : Cond), c = .fail ∨ c = .clean → portReady (withE (dropWith p c))
    ∧ findEntry (withE (dropWith p c)) (keyAt (keyBytes kDrop) 0) = some (3, dropWith p c)
    ∧ lastWorkClass (dropWith p c) = (if c = .fail then .failed else .good) ∧ 0 < (withE (dropWith p c)).cfg.holdOff := by
  intro p c h
  refine ⟨ready_of _ rfl rfl, ?_⟩
  rcases h with rfl | rfl <;> cases p <;> decide +kernel
theorem witness_ReadsCopy :
    portReady base ∧ 63 < (64#8 : Byte).toNat ∧ ((63#8 : Byte).toNat ≤ 63 ∧ base.entry 63 = none)
      ∧ (withE (entryOf kOwn bkOwn .held)).entry (3#8 : Byte).toNat = some (entryOf kOwn bkOwn .held)
      ∧ findEntry base (keyAt (keyBytes kOwn) 0) = none
      ∧ findEntry (withE (entryOf kOwn bkOwn .held)) (keyAt (keyBytes kOwn) 0) = some (3, entryOf kOwn bkOwn .held) := by
  refine ⟨base_ready, ?_⟩
  decide +kernel
theorem witness_ReadMatchCopies : ∀ st : RecordState, portReady (withR (recordOf st 1)) ∧ ([0, 0, 7] : List Byte).length = 3
    ∧ findRecord (withR (recordOf st 1)) (fieldAt [0, 0, 7] 0 3) = some 5 ∧ (withR (recordOf st 1)).record 5 = some (recordOf st 1) := by
  intro st
  refine ⟨ready_of _ rfl rfl, ?_⟩
  cases st <;> decide +kernel
theorem witness_CloseMatchCloses :
    requestOf (.closeMatch 1 [0, 0, 7]) = some (1, codeCloseMatch, [0, 0, 7]) ∧ fieldAt [0, 0, 0] 0 3 = 0 ∧ findRecord base (fieldAt [0, 0, 7] 0 3) = none
      ∧ (∀ n ∈ [0, 1], findRecord (withR (recordOf .opened n)) (fieldAt [0, 0, 7] 0 3) = some 5)
      ∧ (recordOf .closed 0).state ≠ .opened := by decide +kernel
/-- A drop's entry that waits, unbound, for a record of match 9, in a state; a Charged one with its line. -/
def waitingE (st : EntryState) : Entry :=
  { entryOf kDrop bkDrop st with meter := some { meterOf (.unbound .matchClosed) with
      charged := if st = .charged then some { key := kDrop, port := 6, billable := 4, charge := 104, flags := 0 } else none } }

/-- The waiting entry beside a Closed record of match 7, and a record of its own match in place 6. -/
def waitingS (st : EntryState) (r : Option RecordState) : State :=
  setRecord (setRecord (withE (waitingE st)) 5 (some (recordOf .closed 0))) 6 (r.map (fun x => { recordOf x 1 with matchId := 9 }))

/-- The records once the statement of match 7 has been taken. -/
def taken7 (s : State) : State := { s with bill := { s.bill with records := s.bill.records.set 5 none } }

theorem witness_TakeStatementFrees_scan : ∀ st ∈ [EntryState.active, .closing, .charged],
    findRecord (waitingS st none) (fieldAt [0, 0, 7] 0 3) = some 5 ∧ (waitingS st none).record 5 = some (recordOf .closed 0)
      ∧ isUnplaced (waitingE st) = true ∧ ((waitingE st).meter.bind Meter.charged).isSome = decide (st = .charged)
      ∧ findRecord (taken7 (waitingS st none)) (waitingE st).bk.matchId = none ∧ firstFree (taken7 (waitingS st none)).bill.records = some 0
      ∧ (∀ x ∈ [RecordState.opened, .closed], findRecord (taken7 (waitingS st (some x))) (waitingE st).bk.matchId = some 6
        ∧ (taken7 (waitingS st (some x))).record 6 = some { recordOf x 1 with matchId := 9 }) := by
  decide +kernel
theorem witness_TakeStatementFrees_alone : ∀ k g, k ≠ 3 → (waitingS .closing none).entry k = some g → isUnplaced g = false := by
  intro k g hk h
  exact absurd (entry_of_withE (waitingE .closing) g k h).1 hk
theorem witness_TakeStatementFrees : ∀ i e, (withR (recordOf .closed 0)).entry i = some e → isUnplaced e = false := by
  intro i e h
  cases (base_empty i).symm.trans h
theorem witness_RemoteReadQueries :
    portReady base ∧ fieldAt [4, 0, 0, 7] 0 1 < base.ring ∧ fieldAt [4, 0, 0, 7] 0 1 ≠ base.self ∧ fieldAt [4, 0, 0, 7] 1 3 ≠ 0
      ∧ base.bill.query = none ∧ canJoinSite base .east = true ∧ canJoinSite (withQ 12) .east = false := by
  refine ⟨base_ready, ?_⟩
  decide +kernel
theorem witness_RestartAndFrameSent :
    portReady base ∧ (withSite (fun x => { x with reply := some reply1 })).site.reply = some reply1
      ∧ (withSite (fun x => { x with shorts := [reply1] })).site.shorts = [reply1]
      ∧ (withSite (fun x => { x with notices := [notice1] })).site.notices = [notice1] := ⟨base_ready, rfl, rfl, rfl⟩
theorem witness_FramesNotRequests :
    isRequest 1 0x1E = false ∧ receive [0x7E, 0, 3, 1, 2, 3, 0, 0] = .bad ∧ receive [0x7E, 0, 3, 1] = .receiving ∧ base.site.shorts.length < 4 := by decide +kernel

/-- A state whose Restart reply has been sent, with a Tentative, and one with a Closing entry. -/
theorem witness_WarmResetClears :
    { withE (entryOf kOwn bkOwn .tentative) with site := { base.site with restart := .sent } }.site.restart = .sent
      ∧ (withE (entryOf kOwn bkOwn .tentative)).entry 3 = some (entryOf kOwn bkOwn .tentative)
      ∧ (withE (entryOf kDrop bkDrop .closing)).entry 3 = some (entryOf kDrop bkDrop .closing) := by decide +kernel
theorem witness_StartUp :
    State.reset.phase = .inReset ∧ (inPhase .loading).phase = .loading ∧ loadTest (imageOf 2 5) = none ∧ loadTest (imageOf 0 2) = none
      ∧ loadTest (imageOf 5 5) = some .stationNumber ∧ loadTest (imageOf 0 1) = some .ringSize ∧ loadTest (imageOf 15 16) = none := by decide +kernel

theorem witness_TransparentForwarding :
    slotOf (.bypassSlotForward .east { farDown := true, msg := none }) = some (.east, { farDown := true, msg := none })
      ∧ (inPhase (.bypass .ringSize)).phase ≠ .normal := by decide +kernel
theorem witness_WrappedSideDrops :
    slotOf (.slotDroppedOnWrap .west true { hdr := hdr 1 44, body := .mark }) = some (.west, { farDown := true, msg := some { hdr := hdr 1 44, body := .mark } })
      ∧ base.phase = .normal ∧ ({ base with mons := Monitors.reset }.span .west).up = false := by decide +kernel

/-- The base state with the east span Down. -/
def folded : State := { withQ 1 with mons := { base.mons with spanEast := SpanMon.reset } }

theorem witness_EmptySlotServes :
    bothOpen (withQ 1) .west ∧ (withQ 1).queue .east = fill 1 ∧ bothOpen base .west ∧ base.queue .east = []
      ∧ heldS.lane.heldOver ≠ [] ∧ heldS.queue .east = fill 16 ∧ (folded.span .west).up = true ∧ (folded.span .east).up = false ∧ folded.queue (opp folded.lane.lastServed) = fill 1
      ∧ ({ folded with lane := { folded.lane with lastServed := .east } }.queue .east = fill 1
        ∧ { folded with lane := { folded.lane with lastServed := .east } }.queue .west = [])
      ∧ { base with lane := { base.lane with farEast := true } }.far .east = true ∧ base.queue .west = [] := by
  unfold bothOpen
  decide +kernel
theorem witness_PassingWithoutEffect : passes base .west (hdr 1 44) := base_passes

/-- A header turned once at a station. -/
def onceTurned (w : Nat) : Header := { hdr 1 44 with wraps := 1, firstWrap := some w }

theorem witness_PassingWithoutEffect_turned :
    slotOf (.markReceived .west false (hdr 1 44)) = some (.west, { farDown := false, msg := some { hdr := hdr 1 44, body := .mark } })
      ∧ (arrivesOpen base .west { hdr 1 44 with hops := 9 } ∧ notStripped base .west (hdr 1 44) ∧ 2 * base.ring ≤ { hdr 1 44 with hops := 9 }.hops + 1)
      ∧ (arrivesOpen base .east (onceTurned 2) ∧ circled base .east (onceTurned 2) ∧ (onceTurned 2).hops + 1 < 2 * base.ring)
      ∧ (arrivesOpen folded .west { hdr 1 44 with wraps := 2 } ∧ farWrapped folded .west ∧ ¬ circled folded .west (hdr 1 44))
      ∧ bothOpen base .east ∧ ¬ circled base .east (onceTurned 3)
      ∧ onArc base.ring (onceTurned 3).sentDir (onceTurned 3).origin 3 base.self = true
      ∧ onArc base.ring (onceTurned 1).sentDir (onceTurned 1).origin 1 base.self = false := by
  unfold arrivesOpen stampOld notStripped circled farWrapped bothOpen
  decide +kernel
theorem witness_StampTaken :
    bothOpen base .west ∧ (hdr 1 44).origin ≠ base.self ∧ (hdr 1 44).hops + 1 < 2 * base.ring ∧ (hdr 1 44).unsynced = false
      ∧ Clock.reset.synced = false ∧ base.clock.seconds < { hdr 1 44 with stamp := 1004 }.stamp ∧ { hdr 1 44 with stamp := 1004 }.stamp ≤ base.clock.seconds + 4
      ∧ base.clock.seconds + 5 ≤ { hdr 1 44 with stamp := 1005 }.stamp := by
  unfold bothOpen
  decide +kernel
theorem witness_ClaimAssessed :
    passes base .west (hdr 1 44) ∧ rolesOf base.ring kDrop bkDrop base.self ≠ []
      ∧ firstFree base.entries = some 0 ∧ testNew base (some kDrop) (newCandidate base kDrop bkDrop) = .pass
      ∧ testNew (withE (entryOf kDrop bkDrop .tentative)) (some kDrop) (newCandidate base kDrop bkDrop) = .fails .contested (some 3)
      ∧ findEntry (withE (entryOf kDrop bkDrop .held)) kDrop = some (3, entryOf kDrop bkDrop .held)
      ∧ testExtend (withE (entryOf kDrop bkDrop .held)) kDrop (extendCandidate base (entryOf kDrop bkDrop .held) 1300) = .pass := by
  refine ⟨base_passes, ?_⟩
  decide +kernel
/-- The candidate that the drop booking is at this station. -/
def candidate : Use := { roles := rolesOf 5 kDrop bkDrop 2, bk := bkDrop, lo := bkDrop.winStart, hi := bkDrop.winEnd }

/-- The one entry of a state, at index 3, is the first with a property that it has. -/
theorem first_of_withE (e : Entry) (P : Entry → Prop) (h : P e) : firstAt (metAt (withE e) none P) 3 := by
  refine ⟨⟨by decide, e, rfl, nofun, h⟩, ?_⟩
  rintro j hj ⟨-, f, hf, -⟩
  have := (entry_of_withE e f j hf).1
  omega

/-- The one entry of a state does not have a property: no entry has it. -/
theorem none_of_withE (e : Entry) (P : Entry → Prop) (h : ¬ P e) : ∀ i, ¬ metAt (withE e) none P i := by
  rintro i ⟨-, f, hf, -, hp⟩
  obtain ⟨-, rfl⟩ := entry_of_withE e f i hf
  exact h hp

/-- A Held drop on other lanes that delivers on the candidate's output port. -/
def samePortE : Entry := entryOf ⟨1, 9⟩ { bkDrop with first := 12 } .held

/-- LaneBusy, PortBusy and Contested each have a state in which they are met. -/
theorem witness_ClaimAssessed_precedence :
    firstAt (metAt (withE (entryOf ⟨1, 9⟩ bkDrop .held)) none (givesLaneBusy candidate)) 3
      ∧ firstAt (metAt (withE samePortE) none (givesPortBusy 2 candidate)) 3 ∧ (∀ i, ¬ metAt (withE samePortE) none (givesLaneBusy candidate) i)
      ∧ firstAt (metAt (withE (entryOf ⟨1, 9⟩ bkDrop .tentative)) none (givesContested 2 none candidate)) 3
      ∧ (∀ i, ¬ metAt (withE (entryOf ⟨1, 9⟩ bkDrop .tentative)) none (givesLaneBusy candidate) i)
      ∧ (∀ i, ¬ metAt (withE (entryOf ⟨1, 9⟩ bkDrop .tentative)) none (givesPortBusy 2 candidate) i) := by
  refine ⟨first_of_withE _ _ ⟨.inl rfl, .east, 8, 1100, .inl ?_⟩, first_of_withE _ _ ⟨.inl rfl, 1100, ?_⟩, none_of_withE _ _ ?_,
    first_of_withE _ _ (.inl ⟨rfl, .inl ⟨.east, 8, 1100, .inl ?_⟩⟩), none_of_withE _ _ ?_, none_of_withE _ _ ?_⟩
  · unfold Use.works inGroup Use.covers
    decide +kernel
  · refine ⟨by unfold Use.covers; decide +kernel, by unfold Use.covers; decide +kernel, .inr ⟨6, ?_⟩⟩
    unfold Use.delivers
    decide +kernel
  · rintro ⟨-, d, x, v, h⟩
    have hx : inGroup { bkDrop with first := 12 } x ∧ inGroup bkDrop x := by
      rcases h with ⟨h1, h2⟩ | ⟨h1, h2⟩ | ⟨h1, -, h2⟩ | ⟨h1, h2, -⟩ <;> exact ⟨h1.2.2.1, h2.2.2.1⟩
    simp only [inGroup, bkDrop] at hx
    omega
  · unfold Use.works inGroup Use.covers
    decide +kernel
  · rintro ⟨h | h, -⟩ <;> cases h
  · rintro ⟨h | h, -⟩ <;> cases h

/-- TableFull and Pass, and the lane counts that the occupancy clause asks for. -/
theorem witness_ClaimAssessed_places :
    firstFree { base with entries := List.replicate 64 (some transit) }.entries = none ∧ firstFree base.entries = some 0 ∧ 0 < bkDrop.count
      ∧ (∀ i e, (withE samePortE).entry i = some e → 0 < e.bk.count) := by
  refine ⟨by decide +kernel, by decide +kernel, by decide, ?_⟩
  intro i e h
  obtain ⟨-, rfl⟩ := entry_of_withE _ _ _ h
  decide
theorem witness_ClaimReturned :
    comesBack (withClaim (.awaiting 500)) .west (hdr 2 7) ∧ awaitingSlot (withClaim (.awaiting 500)) kOwn .new = some 2
      ∧ (withClaim (.awaiting 500)).slot 2 = some (slotIn (.awaiting 500))
      ∧ findEntry (withClaim (.awaiting 500)) kOwn = some (3, entryOf kOwn bkOwn .tentative) ∧ canJoin (withClaim (.awaiting 500)) .east = true
      ∧ missingFrom (withClaim (.awaiting 500)) (slotIn (.awaiting 500)) 0x1F = 0 ∧ Reason.laneBusy ≠ .contested := by
  unfold comesBack bothOpen stampOld
  decide +kernel

/-- The claim back with nothing assessed, on its third attempt, and with its start come. -/
theorem witness_ClaimReturned_results :
    missingFrom (withClaim (.awaiting 500)) (slotIn (.awaiting 500)) 0 = 0x1F ∧ (0x1F : StationSet) ≠ 0 ∧ base.ring ≤ 16
      ∧ (∀ x, x < 16 → (stationIn 0x1F x = true ↔ x < base.ring ∧ rolesOf base.ring kOwn bkOwn x ≠ [] ∧ stationIn 0 x = false))
      ∧ (slotIn (.awaiting 500)).attempt < 3 ∧ 3 ≤ { slotIn (.awaiting 500) with attempt := 3 }.attempt
      ∧ bkOwn.winStart ≤ { withClaim (.awaiting 500) with clock := { base.clock with seconds := 1100 } }.now := by
  decide +kernel

/-- A recently-assessed record of the drop booking. -/
def recent1 : Recent := { key := kDrop, mode := .new, limit := none, mark := .opened, age := 5000 }

theorem witness_ConfirmTaken :
    passes (withE (entryOf kDrop bkDrop .tentative)) .west (hdr 1 44)
      ∧ findEntry (withE (entryOf kDrop bkDrop .tentative)) kDrop = some (3, entryOf kDrop bkDrop .tentative)
      ∧ base.now < bkDrop.winStart ∧ isDropEntry (entryOf kDrop bkDrop .tentative) = true
      ∧ findRecent { base with claims := { base.claims with recent := [recent1] } } kDrop .new = some recent1 ∧ findEntry base kDrop = none := by
  refine ⟨passes_of _ _ (by decide +kernel) base_passes, ?_⟩
  decide +kernel
theorem witness_AbandonTaken :
    passes (withE (entryOf kDrop bkDrop .tentative)) .west (hdr 1 44)
      ∧ findEntry (withE (entryOf kDrop bkDrop .tentative)) kDrop = some (3, entryOf kDrop bkDrop .tentative) := by
  refine ⟨passes_of _ _ (by decide +kernel) base_passes, ?_⟩
  decide +kernel
theorem witness_WithdrawTaken :
    (∀ st ∈ [EntryState.held, .active], findEntry (withE (entryOf kDrop bkDrop st)) kDrop = some (3, entryOf kDrop bkDrop st)
      ∧ (entryOf kDrop bkDrop st).ext = none ∧ ((entryOf kDrop bkDrop st).meter).isSome = true)
      ∧ (bkDrop.winStart < 1199 ∧ base.now < 1199 ∧ 1199 < bkDrop.winEnd) ∧ base.now ≤ bkDrop.winStart
      ∧ reportsWithdraw (entryOf kDrop bkDrop .held) = true ∧ reportsWithdraw transit = false ∧ findEntry (withE transit) kDrop = some (3, transit) := by
  decide +kernel
theorem witness_HoldlostTaken :
    passes (setSlot (withE (entryOf kOwn bkOwn .held)) 2 (some (slotIn .outConfirm))) .west (hdr 3 9)
      ∧ slotHolds (setSlot (withE (entryOf kOwn bkOwn .held)) 2 (some (slotIn .outConfirm))) kOwn = true
      ∧ slotHolds (withE (entryOf kOwn bkOwn .held)) kOwn = false ∧ findEntry (withE (entryOf kOwn bkOwn .held)) kOwn = some (3, entryOf kOwn bkOwn .held)
      ∧ isCommitted (entryOf kOwn bkOwn .held) = true ∧ base.now ≤ bkOwn.winStart := by
  refine ⟨passes_of _ _ (by decide +kernel) (by unfold passes bothOpen stampOld; decide +kernel), ?_⟩
  decide +kernel

/-- The origin's Active entry with a bridge set. -/
def bridging (drops : StationSet) : Entry :=
  { entryOf kOwn bkOwn .active with bridge := some { drops := drops, announced := drops != 0, toSend := false } }

theorem witness_SwitchreqTaken :
    findEntry (withE (bridging 0)) kOwn = some (3, bridging 0) ∧ findEntry (withE (bridging 8)) kOwn = some (3, bridging 8)
      ∧ (bridging 8).bridge.map BridgeSet.drops = some (stationBit 3) ∧ (bridging 8).bk.isProtected = true ∧ isDrop (bridging 8).bk 3 = true
      ∧ hasProtSpan (bridging 8).roles = true ∧ canJoinProt (withE (bridging 8)) .east = true ∧ (withE (bridging 8)).switch.cells.length = 48 := by
  decide +kernel

/-- An Active Extra entry of station 3 that passes this station westward on lanes 4 and 5, its Preempted flag as given. -/
def extraE (flag : Bool) : Entry :=
  { entryOf ⟨3, 60⟩ { bkOwn with cls := .extra, isProtected := false, dir := .west, drops := [⟨1, 1⟩] } .active with preempted := some flag }

/-- That entry at index 5 with its working layer on lane 4, under a protection layer of station 2's booking or none, beside an entry at index 3. -/
def underS (e : Entry) (l : Option Layer) (flag : Bool) : State :=
  { setEntry (withE e) 5 (extraE flag) with
    switch := { base.switch with cells := base.switch.cells.set 28 { standing := .through, working := some ⟨.through, ⟨3, 60⟩, 5⟩, protection := l } } }

theorem witness_SwitchreqTaken_preempt :
    worksUnder (underS (bridging 0) none false) (bridging 0) (extraE false) ∧ uncovered (underS (bridging 0) none false) (extraE false)
      ∧ worksUnder (underS (bridging 8) (some ⟨.add 0 0, kOwn, 3⟩) true) (bridging 8) (extraE true)
      ∧ coveredBy (underS (bridging 8) (some ⟨.add 0 0, kOwn, 3⟩) true) (bridging 8) (extraE true) := by
  have lane : ∀ x, inGroup (extraE true).bk x → x = 4 ∨ x = 5 := by
    intro x h
    have h1 : 4 ≤ x := h.1
    have h2 : x < 4 + 2 := h.2
    omega
  refine ⟨⟨rfl, by decide, rfl, by decide, 4, by unfold inGroup; decide, by unfold inGroup; decide, rfl⟩, ?_,
    ⟨rfl, by decide, rfl, by decide, 4, by unfold inGroup; decide, by unfold inGroup; decide, rfl⟩, ?_⟩
  · intro x h
    rcases lane x h with rfl | rfl <;> rfl
  · intro x l h hl
    rcases lane x h with rfl | rfl
    · cases hl
      exact ⟨rfl, by unfold inGroup; decide⟩
    · cases hl

/-- A drop's Active entry in Bridging with its bridge flag Off. -/
def bridgingDrop : Entry := { dropIn .bridging with bridgeFlag := some false }

/-- A drop's Active entry with its bridge flag. -/
def flagged (b : Bool) : Entry := { entryOf kDrop bkDrop .active with bridgeFlag := some b }

theorem witness_BridgeTaken :
    findEntry (withE (flagged true)) kDrop = some (3, flagged true) ∧ findEntry (withE (flagged false)) kDrop = some (3, flagged false)
      ∧ (withE (flagged true)).switch.cells.length = 48 ∧ (withE (flagged true)).mons.lanes.length = 48 ∧ bkDrop.first + bkDrop.count ≤ 24
      ∧ findEntry (withE bridgingDrop) kDrop = some (3, bridgingDrop) ∧ bridgingDrop.state = .active ∧ bridgingDrop.bridgeFlag ≠ none
      ∧ bridgingDrop.prot.map ProtPart.state = some .bridging := by
  decide +kernel
/-- A TAP of the protected booking of station 1 that leaves by lanes 4 and 5, over the Extra entry. -/
def tapE (b : Bool) : Entry :=
  { entryOf kDrop { bkDrop with first := 4, drops := [⟨2, 6⟩, ⟨3, 1⟩] } .active with roles := [.tap, .protTap], bridgeFlag := some b }

theorem witness_BridgeTaken_preempt :
    (worksUnder (underS (tapE false) none false) (tapE false) (extraE false) ∧ hasProtSpan (tapE false).roles = true)
      ∧ worksUnder (underS (tapE true) (some ⟨.through, kDrop, 3⟩) true) (tapE true) (extraE true)
      ∧ ∀ l, ((underS (tapE true) (some ⟨.through, kDrop, 3⟩) true).cell .west 4).protection = some l → l.owner = (tapE true).key := by
  refine ⟨⟨⟨rfl, by decide, rfl, by decide, 4, by unfold inGroup; decide, by unfold inGroup; decide, rfl⟩, rfl⟩,
    ⟨rfl, by decide, rfl, by decide, 4, by unfold inGroup; decide, by unfold inGroup; decide, rfl⟩, ?_⟩
  intro l hl
  cases hl
  rfl
theorem witness_SpanstateTaken : passes base .west { hdr 1 0 with origin := 0 } := by unfold passes bothOpen stampOld; decide +kernel
theorem witness_QueryAndAnswerTaken :
    canJoin base .east = true ∧ findRecord base 7 = none ∧ findRecord (withR (recordOf .opened 0)) 7 = some 5
      ∧ (withR (recordOf .opened 0)).record 5 = some (recordOf .opened 0)
      ∧ ({ base with bill := { base.bill with query := some { target := 1, matchId := 7, seq := 4, deadline := 500 } } }.bill.query.map Query.target)
        = some (hdr 1 44).origin := by decide +kernel
theorem witness_RecallTaken :
    (withV (fun r => { r with state := .recovering })).recov.state ≠ .normal ∧ base.recov.state = .normal
      ∧ (∀ i e, base.entry i = some e → isResponder base e = false)
      ∧ comesBack (withV (fun r => { r with state := .recovering, lastSeq := some 7 })) .west (hdr 2 7) := by
  refine ⟨by decide +kernel, by decide +kernel, ?_, by unfold comesBack bothOpen stampOld; decide +kernel⟩
  intro i e h
  cases (base_empty i).symm.trans h

/-- The drop booking with a window that has begun. -/
def bkBegun : Booking := { bkDrop with winStart := 1000 }

/-- A Recovering station, and the announcement of the drop booking to it. -/
def recovering : State := withV (fun r => { r with state := .recovering, returned := true })
def announce : Reannounce := { key := kDrop, bk := bkDrop, active := false, targets := 0x4 }

theorem witness_ReannounceTaken :
    passes recovering .west (hdr 3 9) ∧ stationIn announce.targets recovering.self = true
      ∧ (lookup (setEntry recovering 3 (entryOf kDrop bkDrop .held)) kDrop).isSome = true ∧ lookup recovering kDrop = none
      ∧ recovering.now < bkDrop.winStart ∧ rolesOf recovering.ring kDrop bkDrop recovering.self ≠ []
      ∧ testNew recovering (some kDrop) (newCandidate recovering kDrop bkDrop) = .pass ∧ firstFree recovering.entries = some 0
      ∧ testNew (setEntry recovering 3 (entryOf ⟨1, 9⟩ bkDrop .held)) (some kDrop) (newCandidate recovering kDrop bkDrop) = .fails .laneBusy (some 3)
      ∧ (bkBegun.winStart ≤ recovering.now ∧ rolesOf recovering.ring kDrop bkBegun recovering.self ≠ []
        ∧ testNew recovering (some kDrop) (newCandidate recovering kDrop bkBegun) = .pass ∧ recovering.switch.cells.length = 48
        ∧ recovering.switch.outputs.length = 8 ∧ recovering.mons.lanes.length = 48
        ∧ isDropEntry (freshEntry kDrop bkBegun (rolesOf recovering.ring kDrop bkBegun recovering.self) .active none true) = true) := by
  refine ⟨passes_of _ _ (by decide +kernel) (by unfold passes bothOpen stampOld; decide +kernel), ?_⟩
  decide +kernel
theorem witness_ReannounceTaken_binding : onlyWaiting recovering 0 bkBegun.matchId ∧ findRecord recovering bkBegun.matchId = none
    ∧ firstFree recovering.bill.records = some 0 := by
  refine ⟨?_, by decide +kernel⟩
  intro j g _ h
  cases (base_empty j).symm.trans h
theorem witness_WaitingMessagesJoin :
    (waitingSlot (withClaim .outConfirm) .east = some 2 ∧ findEntry (withClaim .outConfirm) kOwn = some (3, entryOf kOwn bkOwn .tentative)
      ∧ canJoin (withClaim .outConfirm) .east = true)
      ∧ (withQ 15).lane.qEast.length < 16
      ∧ (isResponder { withE (entryOf kOwn bkOwn .held) with recov := { base.recov with pendingSet := 0x8, walk := some 3 } } (entryOf kOwn bkOwn .held) = true
        ∧ canJoinSite (withE (entryOf kOwn bkOwn .held)) .east = true) := by decide +kernel
theorem witness_ChargeUnitWorks :
    closingS.bill.charge = none ∧ closingS.bill.closeQueue = [3]
      ∧ ∀ b ∈ [Binding.bound 5, .unbound .tableFull],
        (withE { entryOf kDrop bkDrop .closing with meter := some (meterOf b) }).entry 3 = some { entryOf kDrop bkDrop .closing with meter := some (meterOf b) }
          ∧ (withR (recordOf .opened 1)).record 5 = some (recordOf .opened 1)
          ∧ (withR (recordOf .closing 1)).record 5 = some (recordOf .closing 1) ∧ (withR (recordOf .closing 2)).record 5 = some (recordOf .closing 2) := by
  decide +kernel
/-- A line sets the flag Faulted first, enabled or not, and the ninth line of a record is folded. -/
theorem witness_ChargeUnitWorks_flags :
    ((addLine (recordOf .opened 1) ⟨kDrop, 6, 4, 104, 1⟩ true 1000).flags &&& ~~~ (recordOf .opened 1).flags &&& 1#8 ≠ 0)
      ∧ ((addLine (recordOf .opened 1) ⟨kDrop, 6, 4, 104, 1⟩ true 1000).flags &&& ~~~ (recordOf .opened 1).flags &&& 2#8 = 0)
      ∧ 8 ≤ { recordOf .opened 1 with lines := List.replicate 8 ⟨kDrop, 6, 4, 104, 1⟩ }.lines.length ∧ (recordOf .opened 1).lines.length < 8 := by
  decide +kernel
theorem witness_ChargeStages :
    (⟨{ Meter.fresh false false with a := 28800, b := 28800, p := 28800 }, 28800, 4, ⟨65535, 65535, 65535, 100, .up⟩⟩ : ChargeInput).window ≤ 28800
      ∧ stageNumerator ⟨{ Meter.fresh false false with a := 28800, b := 28800, p := 28800 }, 28800, 4, ⟨65535, 65535, 65535, 100, .up⟩⟩ = 9437040000 := by
  decide +kernel
theorem witness_ChargeStages_empty : (Meter.fresh false true).lawful ∧ (Meter.fresh false true).a = 0 := by
  unfold Meter.lawful
  decide
theorem witness_MarkAndBoundary :
    base.clock.markDeadline = some 10000 ∧ markWaits base = false ∧ canJoin base .east = true ∧ markWaits (withQ 1) = true
      ∧ (entryOf kDrop bkDrop .held).bk.winStart = 1099 + 1 ∧ (entryOf kDrop bkDrop .held).marker = none
      ∧ (entryOf kDrop bkDrop .active).bk.winEnd = 1199 + 1 ∧ (entryOf kDrop bkDrop .active).meter ≠ none ∧ (entryOf kDrop bkDrop .active).paths ≠ none
      ∧ (meterOf .none).countsAt 1001 = true ∧ clockRuns base = true ∧ base.clock.ran ≤ 1000
      ∧ 1000 ≤ { base.clock with fraction := 999, late := 201 }.ran ∧ { base.clock with seconds := 4294967294 }.seconds + 1 = 4294967295 := by decide +kernel
/-- The state with one Held entry, at the second before its start. -/
def startingS : State := { withE (entryOf kDrop bkDrop .held) with clock := { base.clock with seconds := 1099 } }

theorem witness_MarkAndBoundary_layers :
    identityLaw startingS ∧ startingS.switch.cells.length = 48 ∧ startingS.switch.outputs.length = 8
      ∧ startsApart startingS 3 (entryOf kDrop bkDrop .held) ∧ hasWorkSpan (entryOf kDrop bkDrop .held).roles = true
      ∧ outPort bkDrop startingS.self = some 6 := by
  refine ⟨⟨by decide +kernel, ?_⟩, by decide +kernel, by decide +kernel, ?_, by decide +kernel, by decide +kernel⟩
  · intro i j e f hi hj _
    rw [(entry_of_withE _ _ _ hi).1, (entry_of_withE _ _ _ hj).1]
  · intro j f hj hf
    exact absurd (entry_of_withE _ _ _ hf).1 hj

/-- That entry's match binding: nothing ends, no other entry starts, and none waits for a record of its match. -/
theorem witness_MarkAndBoundary_binding :
    nothingEnds startingS (startingS.clock.seconds + 1) ∧ onlyWaiting startingS 3 bkDrop.matchId
      ∧ (∀ j g, j ≠ 3 → startingS.entry j = some g → g.state = .held → g.bk.winStart ≠ startingS.clock.seconds + 1)
      ∧ (entryOf kDrop bkDrop .held).paths.bind Paths.working = none
      ∧ (entryOf kDrop bkDrop .held).meter.map Meter.binding = some .none ∧ findRecord startingS bkDrop.matchId = none
      ∧ firstFree startingS.bill.records = some 0 := by
  refine ⟨?_, ?_, ?_, by decide +kernel⟩
  · intro i e h
    obtain ⟨-, rfl⟩ := entry_of_withE _ _ _ h
    decide +kernel
  · intro j g hj h
    exact absurd (entry_of_withE _ _ _ h).1 hj
  · intro j g hj h
    exact absurd (entry_of_withE _ _ _ h).1 hj

/-- A drop in a protection state at a boundary, its working places with the condition of the second so far and the protection path unwatched. -/
def drop138 (p : ProtState) (c : Cond) : State :=
  { withE { dropIn p with prot := some { state := p, holdOff := none, restoreWait := none, resends := 0 }, request := some { announced := true, toSend := false } } with
    mons := { base.mons with lanes := (base.mons.lanes.set 8 { LaneMon.reset with
      working := some { Place.fresh kDrop 3 1105 with opened := some c, settleEnd := none, settleMark := false } }).set 9 { LaneMon.reset with
      working := some { Place.fresh kDrop 3 1105 with opened := some c, settleEnd := none, settleMark := false } } } }

/-- The protection state and resend count of that drop after the boundary. -/
def stateAfter (p : ProtState) (c : Cond) : Option (ProtState × Nat) :=
  (((after1 .secondBoundary (drop138 p c)).entry 3).bind Entry.prot).map (fun q => (q.state, q.resends))

/-- Rows of the table of R138 with an absent protection record, and the resends of R140 and R142, as the spec gives them. -/
theorem test_boundary_rows :
    stateAfter .working .fail = some (.holdOff, 0) ∧ stateAfter .holdOff .clean = some (.working, 0) ∧ stateAfter .bridging .fail = some (.bridging, 1)
      ∧ stateAfter .protecting .clean = some (.working, 0) ∧ stateAfter .protecting .fail = some (.protecting, 1)
      ∧ stateAfter .restoreWait .fail = some (.protecting, 0) ∧ stateAfter .restoreWait .noFeed = some (.working, 0)
      ∧ stateAfter .forced .clean = some (.forced, 1) ∧ stateAfter .lockout .fail = some (.lockout, 0) := by
  decide +kernel
theorem witness_MarkAndBoundary_protection : ∀ p : ProtState, ((drop138 p .fail).entry 3).map Entry.state = some .active
    ∧ ((drop138 p .fail).entry 3).bind Entry.marker = none ∧ (((drop138 p .fail).entry 3).bind Entry.prot).map ProtPart.state = some p
    ∧ ((drop138 p .fail).entry 3).bind Entry.paths ≠ none
    ∧ ((drop138 p .fail).entry 3).map (fun e => e.bk.winEnd) ≠ some ((drop138 p .fail).clock.seconds + 1) := by
  intro p
  cases p <;> decide +kernel

/-- That drop in Protected with its own output on Protection and its latch set, as through the second that ends. -/
def latchedS : State :=
  let e : Entry := ((drop138 .protecting .clean).entry 3).getD (dropIn .protecting)
  let out : Output := { Output.reset with working := some (outSourceOf 3 e .east), protection := some (outSourceOf 3 e .west), selector := .protection }
  let s := setEntry (drop138 .protecting .clean) 3 { e with meter := some { meterOf .none with protLatch := true } }
  { s with switch := { s.switch with outputs := s.switch.outputs.set 6 out } }

/-- R160, R164: the return to Working that a boundary makes leaves the latch of the next second clear. -/
theorem test_return_clears_latch : ((latchedS.output 6).selector, ((after1 .secondBoundary latchedS).output 6).selector,
    (((after1 .secondBoundary latchedS).entry 3).bind Entry.meter).map Meter.protLatch) = (.protection, .working, some false) := by decide +kernel

/-- An Extra booking of station 4 that works west on lanes 8 and 9, delivered here too. -/
def bkExtra : Booking := { bkDrop with cls := .extra, isProtected := false, dir := .west, drops := [⟨2, 3⟩] }

/-- A protected booking that ends at the next boundary, its layers over that Extra entry, which stands preempted. -/
def coveredS : State :=
  let e3 : Entry := { dropIn .working with bk := { bkDrop with winEnd := 1001 }, roles := [.tap, .protTap] }
  let e4 : Entry := { freshEntry ⟨4, 9⟩ bkExtra [.tap] .active none false with
    preempted := some true, meter := some { Meter.fresh true false with firstActive := some 990, preLatch := some true } }
  judgeAllPreempted (writeProtCells (writeWorkCells (setEntry (withE e3) 4 e4) 4 e4) 3 e3) kDrop

/-- R160, R164: the release at boundary t that clears the Preempted flag leaves the latch of second t clear, and second t − 1 counts as preempted. -/
theorem test_release_clears_latch :
    ((coveredS.entry 4).bind Entry.preempted, ((after1 .secondBoundary coveredS).entry 4).bind Entry.preempted,
      (((after1 .secondBoundary coveredS).entry 4).bind Entry.meter).map (fun m => (m.x, m.preLatch))) = (some true, some false, some (1, some false)) := by
  decide +kernel
theorem witness_MarkAndBoundary_latches :
    ((after1 .secondBoundary latchedS).entry 3).map Entry.state = some .active ∧ ((after1 .secondBoundary latchedS).entry 3).bind Entry.meter ≠ none
      ∧ entryOut (after1 .secondBoundary latchedS) (dropIn .working) = some 6
      ∧ (((after1 .secondBoundary coveredS).entry 4).map Entry.state) = some .active
      ∧ ((((after1 .secondBoundary coveredS).entry 4).bind Entry.meter).bind Meter.preLatch) ≠ none := by decide +kernel

/-- The state with one Active entry with a watch place on a lane whose count stands at the threshold. -/
def watchedS : State :=
  { withE (entryOf kDrop bkDrop .active) with
    mons := { base.mons with lanes := base.mons.lanes.set 8 { LaneMon.reset with
      working := some (Place.fresh kDrop 3 1105), checkFailed := 100, periods := 8000, degradeRun := 2 } } }

theorem witness_MarkAndBoundary_overlay :
    nothingEnds watchedS (watchedS.clock.seconds + 1) ∧ watchedS.mons.lanes.length = 48 ∧ (watchedS.mon .west 8).watched = true
      ∧ watchedS.cfg.threshold ≤ (watchedS.mon .west 8).checkFailed ∧ 0 < (watchedS.mon .west 8).periods := by
  refine ⟨?_, by decide +kernel⟩
  intro i e h
  obtain ⟨-, rfl⟩ := entry_of_withE _ _ _ h
  decide +kernel
/-- R124: the third second at the threshold sets the overlay. -/
theorem test_overlay_sets : ((after1 .secondBoundary watchedS).mon .west 8).overlay = true := by decide +kernel
theorem witness_ClaimTimers :
    ((withClaim (.awaiting 500)).slot 2 = some (slotIn (.awaiting 500)) ∧ findEntry (withClaim (.awaiting 500)) kOwn = some (3, entryOf kOwn bkOwn .tentative))
      ∧ (withE { entryOf kDrop bkDrop .tentative with lifetime := some 2000 }).entry 3 = some { entryOf kDrop bkDrop .tentative with lifetime := some 2000 }
      ∧ (withE { entryOf kDrop bkDrop .held with ext := some ⟨1200, 1300, some 2000⟩ }).entry 3
        = some { entryOf kDrop bkDrop .held with ext := some ⟨1200, 1300, some 2000⟩ }
      ∧ findRecent { base with claims := { base.claims with recent := [recent1] } } kDrop .new = some recent1 := by decide +kernel

/-- The base state with claim slot 2 in RetryWait. -/
def retrying : State := setSlot base 2 (some (slotIn (.retryWait 300)))

theorem witness_RetryTries :
    retrying.slot 2 = some (slotIn (.retryWait 300)) ∧ retrying.now < bkOwn.winStart
      ∧ testNew retrying none (newCandidate retrying (nextKey retrying) bkOwn) = .pass ∧ firstFree retrying.entries = some 0 ∧ canJoin retrying .east = true
      ∧ bkOwn.winStart ≤ { retrying with clock := { base.clock with seconds := 1100 } }.now
      ∧ testNew (setEntry retrying 3 (entryOf ⟨2, 9⟩ bkOwn .held)) none (newCandidate retrying (nextKey retrying) bkOwn) = .fails .laneBusy (some 3) := by decide +kernel
theorem witness_ProtectionTimers :
    (withE (dropIn .holdOff)).entry 3 = some (dropIn .holdOff) ∧ (dropIn .holdOff).request = some { announced := false, toSend := false }
      ∧ (dropIn .holdOff).prot.map ProtPart.holdOff = some (some 700)
      ∧ (withE { dropIn .restoreWait with request := some { announced := true, toSend := false } }).entry 3
        = some { dropIn .restoreWait with request := some { announced := true, toSend := false } }
      ∧ (dropIn .restoreWait).prot.map ProtPart.restoreWait = some (some 800) ∧ canJoinProt base .east = true := by decide +kernel
theorem witness_RecoveryAndQueryTimers :
    (withV (fun r => { r with state := .recovering, resend := some 500, sends := 2 })).recov.sends < 3
      ∧ 3 ≤ (withV (fun r => { r with state := .recovering, resend := some 500, sends := 3 })).recov.sends
      ∧ (withV (fun r => { r with state := .recovering, quiet := some 900 })).recov.quiet = some 900
      ∧ (withV (fun r => { r with state := .recovering, limit := some 9000, kind := .warm, highestOwn := some 6 })).recov.limit = some 9000
      ∧ base.phase = .normal := by decide +kernel
theorem witness_SpanAndInputMonitors :
    (base.span .east).up = true ∧ (folded.span .east) = { up := false, confirm := none } ∧ canJoinProt base .east = true ∧ canJoinProt (withQ 16) .east = false
      ∧ ({ base with mons := { base.mons with spanWest := ⟨false, some 2000⟩ } }.span .west).confirm = some 2000
      ∧ base.mons.inputs[7]? = some InputMon.reset := by decide +kernel
theorem witness_LaneFramePeriodWorks :
    base.mons.lanes.length = 48 ∧ base.phase.isCold = false ∧ State.reset.phase.isCold = true ∧ (base.cell .east 0).standing = .through
      ∧ (∃ o x, { base with switch := { base.switch with outputs := [{ Output.reset with working := some ⟨kDrop, 3, .east, 8, 2⟩ }] } }.switch.outputs[0]? = some o
        ∧ o.selected = some x) := ⟨by decide +kernel, rfl, rfl, by decide +kernel, _, _, rfl, rfl⟩

end Sys2Proof.Tests
end

namespace Sys2Proof.Machine

/-! ### The shell of the station -/

/-- What no block's work touches and the header processor leaves alone too: start-up, configuration, local time, pins, span monitors,
the count of free values and the queue of commands. -/
structure StationShell where
  phase     : Phase
  cfg       : Cfg
  nowMs     : Nat
  pins      : Pins
  spanEast  : SpanMon
  spanWest  : SpanMon
  freeCount : Nat
  pending   : List Instr

/-- What the header processor alone writes: the far-end Down indications, the outputs and the last-served queue (R5, R18, R20). -/
structure SideShell where
  farEast    : Bool
  farWest    : Bool
  outEast    : Slot
  outWest    : Slot
  lastServed : Dir

/-- The station's shell, as a state holds it. -/
def State.station (s : State) : StationShell :=
  { phase := s.phase, cfg := s.cfg, nowMs := s.nowMs, pins := s.pins, spanEast := s.mons.spanEast, spanWest := s.mons.spanWest,
    freeCount := s.freeCount, pending := s.pending }

/-- The sides' shell, as a state holds it. -/
def State.sides (s : State) : SideShell :=
  { farEast := s.lane.farEast, farWest := s.lane.farWest, outEast := s.lane.outEast, outWest := s.lane.outWest,
    lastServed := s.lane.lastServed }

/-- Both shells: what a block that acts on a message, a request or a boundary leaves as it is. -/
def State.shell (s : State) : StationShell × SideShell := (s.station, s.sides)

section Reading
variable {s t : State}

theorem station_of_shell (h : t.shell = s.shell) : t.station = s.station := congrArg Prod.fst h

theorem span_of_station (h : t.station = s.station) (d : Dir) : t.span d = s.span d := by
  cases d with
  | east => exact congrArg StationShell.spanEast h
  | west => exact congrArg StationShell.spanWest h

theorem far_of_shell (h : t.shell = s.shell) (d : Dir) : t.far d = s.far d := by
  cases d with
  | east => exact congrArg (fun x => x.2.farEast) h
  | west => exact congrArg (fun x => x.2.farWest) h

theorem outOf_of_shell (h : t.shell = s.shell) (d : Dir) : outOf t d = outOf s d := by
  cases d with
  | east => exact congrArg (fun x => x.2.outEast) h
  | west => exact congrArg (fun x => x.2.outWest) h

theorem lastServed_of_shell (h : t.shell = s.shell) : t.lane.lastServed = s.lane.lastServed := congrArg (fun x => x.2.lastServed) h

theorem wrapped_of_shell (h : t.shell = s.shell) (d : Dir) : wrapped t d = wrapped s d := by
  unfold wrapped
  rw [span_of_station (station_of_shell h), far_of_shell h]

end Reading

/-! ### Updates -/

@[simp] theorem withClock_shell (s : State) (v : Clock) : (s.withClock v).shell = s.shell := rfl
@[simp] theorem withEntries_shell (s : State) (v : List (Option Entry)) : (s.withEntries v).shell = s.shell := rfl
@[simp] theorem withClaims_shell (s : State) (v : Claims) : (s.withClaims v).shell = s.shell := rfl
@[simp] theorem withRecov_shell (s : State) (v : Recall) : (s.withRecov v).shell = s.shell := rfl
@[simp] theorem withSwitch_shell (s : State) (v : Switch) : (s.withSwitch v).shell = s.shell := rfl
@[simp] theorem withBridged_shell (s : State) (v : Bridged) : (s.withBridged v).shell = s.shell := rfl
@[simp] theorem withBill_shell (s : State) (v : Billing) : (s.withBill v).shell = s.shell := rfl
@[simp] theorem withSite_shell (s : State) (v : Site) : (s.withSite v).shell = s.shell := rfl

theorem forEach_shell (f : State → Nat → State) (hf : ∀ s i, (f s i).shell = s.shell) (l : List Nat) (s : State) :
    (forEach l s f).shell = s.shell := forEach_field State.shell f hf l s

@[simp] theorem setEntry_shell (s : State) (i : Nat) (e : Entry) : (setEntry s i e).shell = s.shell := rfl
@[simp] theorem setSlot_shell (s : State) (n : Nat) (v : Option ClaimSlot) : (setSlot s n v).shell = s.shell := rfl
@[simp] theorem setRecord_shell (s : State) (r : Nat) (v : Option MatchRecord) : (setRecord s r v).shell = s.shell := rfl
@[simp] theorem updEntry_shell (s : State) (i : Nat) (f : Entry → Entry) : (updEntry s i f).shell = s.shell := by
  unfold updEntry; split <;> simp
@[simp] theorem raiseNotice_shell (s : State) (src : Nat) (c : NoticeBody) : (raiseNotice s src c).shell = s.shell := by
  unfold raiseNotice; split <;> simp

/-! ### Transmit queues -/

@[simp] theorem setQueue_shell (s : State) (d : Dir) (q : List Msg) : (setQueue s d q).shell = s.shell := by cases d <;> rfl
@[simp] theorem join_shell (s : State) (d : Dir) (n : Nat) (b : Body) : (join s d n b).shell = s.shell := setQueue_shell s d _
@[simp] theorem joinCounted_shell (s : State) (b : Body) : (joinCounted s b).shell = s.shell := rfl
@[simp] theorem joinHoldlost_shell (s : State) (k : Key) (m : Mode) : (joinHoldlost s k m).shell = s.shell := by
  unfold joinHoldlost
  split
  · simp
  · split <;> rfl
@[simp] theorem joinHeldOver_shell (s : State) : (joinHeldOver s).shell = s.shell := by
  unfold joinHeldOver
  split
  · split <;> rfl
  · rfl
@[simp] theorem freePlace_shell (s : State) (d : Dir) (rest : List Msg) : (freePlace s d rest).shell = s.shell := by
  cases d <;> simp [freePlace]
@[simp] theorem startMark_shell (s : State) : (startMark s).shell = s.shell := by unfold startMark; split <;> simp

/-! ### The calendar -/

@[simp] theorem allocate_shell (s : State) (k : Key) (b : Booking) (st : EntryState) (l : Option Nat) (x : Bool) :
    (allocate s k b st l x).shell = s.shell := by unfold allocate; split <;> simp
@[simp] theorem dropBridged_shell (s : State) (k : Key) : (dropBridged s k).shell = s.shell := rfl
@[simp] theorem freeEntry_shell (s : State) (i : Nat) : (freeEntry s i).shell = s.shell := by unfold freeEntry; split <;> simp

/-! ### The lane switch -/

@[simp] theorem updCell_shell (s : State) (d : Dir) (l : Nat) (f : Cell → Cell) : (updCell s d l f).shell = s.shell := rfl
@[simp] theorem updOutput_shell (s : State) (p : Nat) (f : Output → Output) : (updOutput s p f).shell = s.shell := rfl
@[simp] theorem idleUnownedCells_shell (s : State) : (idleUnownedCells s).shell = s.shell := rfl
@[simp] theorem writeWorkCells_shell (s : State) (i : Nat) (e : Entry) : (writeWorkCells s i e).shell = s.shell := by
  unfold writeWorkCells
  split
  · exact forEach_shell _ (fun _ _ => updCell_shell ..) _ s
  · rfl
@[simp] theorem writeProtCells_shell (s : State) (i : Nat) (e : Entry) : (writeProtCells s i e).shell = s.shell := by
  unfold writeProtCells
  split
  · exact forEach_shell _ (fun _ _ => updCell_shell ..) _ s
  · rfl
@[simp] theorem clearWorkCells_shell (s : State) (e : Entry) : (clearWorkCells s e).shell = s.shell := by
  unfold clearWorkCells
  split
  · exact forEach_shell _ (fun _ _ => updCell_shell ..) _ s
  · rfl
@[simp] theorem clearProtCells_shell (s : State) (e : Entry) : (clearProtCells s e).shell = s.shell := by
  unfold clearProtCells
  split
  · exact forEach_shell _ (fun _ _ => updCell_shell ..) _ s
  · rfl
@[simp] theorem writeOutput_shell (s : State) (i : Nat) (e : Entry) : (writeOutput s i e).shell = s.shell := by
  unfold writeOutput; split <;> simp
@[simp] theorem releaseOutput_shell (s : State) (e : Entry) : (releaseOutput s e).shell = s.shell := by
  unfold releaseOutput; split <;> simp
@[simp] theorem writeSelector_shell (s : State) (i : Nat) (v : Selector) : (writeSelector s i v).shell = s.shell := by
  unfold writeSelector; (repeat' split) <;> simp
@[simp] theorem writePreempted_shell (s : State) (i : Nat) (b : Bool) : (writePreempted s i b).shell = s.shell := updEntry_shell s i _
@[simp] theorem judgePreempted_shell (k : Key) (s : State) (i : Nat) : (judgePreempted k s i).shell = s.shell := by
  unfold judgePreempted; (repeat' split) <;> simp
@[simp] theorem judgeAllPreempted_shell (s : State) (k : Key) : (judgeAllPreempted s k).shell = s.shell :=
  forEach_shell _ (judgePreempted_shell k) _ s

/-! ### Monitors -/

@[simp] theorem updMon_shell (s : State) (p : Dir) (l : Nat) (f : LaneMon → LaneMon) : (updMon s p l f).shell = s.shell := rfl
@[simp] theorem updInput_shell (s : State) (p : Nat) (f : InputMon → InputMon) : (updInput s p f).shell = s.shell := rfl
@[simp] theorem clearPlaces_shell (s : State) (k : Key) : (clearPlaces s k).shell = s.shell := rfl
@[simp] theorem writeWorkPlace_shell (s : State) (p : Dir) (l : Nat) (k : Key) (i v : Nat) : (writeWorkPlace s p l k i v).shell = s.shell := by
  unfold writeWorkPlace; dsimp only; split <;> simp
@[simp] theorem writeWorkPlaces_shell (s : State) (i : Nat) (e : Entry) (v : Nat) : (writeWorkPlaces s i e v).shell = s.shell := by
  unfold writeWorkPlaces
  split
  · exact forEach_shell _ (fun _ _ => writeWorkPlace_shell ..) _ s
  · rfl
@[simp] theorem watchProtection_shell (s : State) (i : Nat) (e : Entry) (v : Nat) : (watchProtection s i e v).shell = s.shell :=
  forEach_shell _ (fun _ _ => updMon_shell ..) _ s
@[simp] theorem unwatchProtection_shell (s : State) (e : Entry) : (unwatchProtection s e).shell = s.shell :=
  forEach_shell _ (fun _ _ => updMon_shell ..) _ s
@[simp] theorem laneNotice_shell (s : State) (p : Dir) (l : Nat) (k : PlaceKind) (o : Option Place) (c : Option Cond) (x y : Bool) (v : Nat) :
    (laneNotice s p l k o c x y v).shell = s.shell := by
  unfold laneNotice
  split
  · dsimp only
    split <;> simp
  · rfl
@[simp] theorem closeLane_shell (t : Nat) (s : State) (p : Dir) (l : Nat) : (closeLane t s p l).shell = s.shell := by
  unfold closeLane; dsimp only; split <;> simp
@[simp] theorem closeLanes_shell (t : Nat) (s : State) : (closeLanes t s).shell = s.shell := by
  unfold closeLanes; simp [forEach_shell]
@[simp] theorem closePaths_shell (s : State) (i : Nat) : (closePaths s i).shell = s.shell := by
  unfold closePaths; (repeat' split) <;> simp
@[simp] theorem closeRecords_shell (t : Nat) (s : State) : (closeRecords t s).shell = s.shell := by
  unfold closeRecords; simp [forEach_shell]
@[simp] theorem closeInput_shell (s : State) (p : Nat) : (closeInput s p).shell = s.shell := by
  unfold closeInput; dsimp only; split <;> simp
@[simp] theorem closeInputs_shell (s : State) : (closeInputs s).shell = s.shell := forEach_shell _ closeInput_shell _ s

/-! ### The protection controller -/

@[simp] theorem markRequest_shell (s : State) (i : Nat) : (markRequest s i).shell = s.shell := updEntry_shell s i _
@[simp] theorem setResends_shell (s : State) (i n : Nat) : (setResends s i n).shell = s.shell := updEntry_shell s i _
@[simp] theorem setBridgeDrops_shell (s : State) (i : Nat) (x : StationSet) : (setBridgeDrops s i x).shell = s.shell := updEntry_shell s i _
@[simp] theorem setBridgeFlag_shell (s : State) (i : Nat) (b : Bool) : (setBridgeFlag s i b).shell = s.shell := updEntry_shell s i _
@[simp] theorem attemptSwitchreq_shell (s : State) (i : Nat) : (attemptSwitchreq s i).shell = s.shell := by
  unfold attemptSwitchreq; (repeat' split) <;> simp
@[simp] theorem attemptMarked_shell (s t : State) (i : Nat) : (attemptMarked s t i).shell = t.shell := by
  unfold attemptMarked; split <;> simp
@[simp] theorem changeState_shell (s : State) (i : Nat) (p : ProtPart) (c : ProtCause) : (changeState s i p c).shell = s.shell := by
  unfold changeState
  split
  · rfl
  · split
    · rfl
    · dsimp only
      split <;> simp
@[simp] theorem expireHoldOff_shell (s : State) (i : Nat) : (expireHoldOff s i).shell = s.shell := by
  unfold expireHoldOff; (repeat' split) <;> simp
@[simp] theorem enterHoldOff_shell (s : State) (i n : Nat) (c : ProtCause) : (enterHoldOff s i n c).shell = s.shell := by
  unfold enterHoldOff; dsimp only; split <;> simp
@[simp] theorem enterRestoreWait_shell (s : State) (i n : Nat) (c : ProtCause) : (enterRestoreWait s i n c).shell = s.shell :=
  changeState_shell s i _ c
@[simp] theorem applyOutcome_shell (s : State) (i : Nat) (p : ProtPart) (st : ProtState) (c : ProtCause) :
    (applyOutcome s i p st c).shell = s.shell := by unfold applyOutcome; split <;> simp
@[simp] theorem resendAtBoundary_shell (s : State) (i : Nat) (e : Entry) (p : ProtPart) (c : PathClass) :
    (resendAtBoundary s i e p c).shell = s.shell := by unfold resendAtBoundary; dsimp only; (repeat' split) <;> simp
@[simp] theorem protectionBoundary_shell (s : State) (i : Nat) : (protectionBoundary s i).shell = s.shell := by
  unfold protectionBoundary
  split
  · rfl
  · split
    · dsimp only
      split <;> simp
    · rfl
@[simp] theorem applyBridge_shell (s : State) (k : Key) (b : Bool) : (applyBridge s k b).shell = s.shell := by
  unfold applyBridge; (repeat' split) <;> simp
@[simp] theorem attemptBridge_shell (s : State) (i : Nat) : (attemptBridge s i).shell = s.shell := by
  unfold attemptBridge; (repeat' split) <;> simp
@[simp] theorem originBridgeOn_shell (s : State) (i : Nat) (e : Entry) (x : StationSet) : (originBridgeOn s i e x).shell = s.shell := by
  simp [originBridgeOn]
@[simp] theorem originBridgeOff_shell (s : State) (i : Nat) (e : Entry) : (originBridgeOff s i e).shell = s.shell := by
  simp [originBridgeOff]
@[simp] theorem actSwitchreq_shell (s : State) (k : Key) (n : Nat) (b : Bool) : (actSwitchreq s k n b).shell = s.shell := by
  unfold actSwitchreq
  split
  · rfl
  · split
    · rfl
    · split
      · rfl
      · dsimp only
        split_ifs <;> simp
@[simp] theorem openProtection_shell (s : State) (i : Nat) (e : Entry) (v : Nat) : (openProtection s i e v).shell = s.shell := by
  simp [openProtection]
@[simp] theorem closeProtection_shell (s : State) (e : Entry) : (closeProtection s e).shell = s.shell := by simp [closeProtection]
@[simp] theorem bridgeSeen_shell (s : State) (i : Nat) : (bridgeSeen s i).shell = s.shell := by
  unfold bridgeSeen; (repeat' split) <;> simp
@[simp] theorem correctRequest_shell (s : State) (i : Nat) (b : Bool) (x : StationSet) : (correctRequest s i b x).shell = s.shell := by
  unfold correctRequest; (repeat' split) <;> simp
@[simp] theorem actBridgeOn_shell (s : State) (k : Key) (x : StationSet) : (actBridgeOn s k x).shell = s.shell := by
  unfold actBridgeOn
  dsimp only
  split
  · simp
  · split
    · split
      · split <;> simp
      · simp
    · simp
@[simp] theorem actBridgeOff_shell (s : State) (k : Key) : (actBridgeOff s k).shell = s.shell := by
  unfold actBridgeOff
  dsimp only
  split
  · simp
  · split
    · split <;> simp
    · simp
@[simp] theorem bridgeOffAtEnd_shell (s : State) (e : Entry) : (bridgeOffAtEnd s e).shell = s.shell := by
  unfold bridgeOffAtEnd; (repeat' split) <;> simp
@[simp] theorem endProtection_shell (s : State) (i : Nat) (e : Entry) : (endProtection s i e).shell = s.shell := by simp [endProtection]

/-! ### Meters and match bills -/

@[simp] theorem restartLatches_shell (s : State) (i : Nat) : (restartLatches s i).shell = s.shell := by
  unfold restartLatches; (repeat' split) <;> simp
@[simp] theorem meterCount_shell (t : Nat) (s : State) (i : Nat) : (meterCount t s i).shell = s.shell := by
  unfold meterCount; (repeat' split) <;> simp
@[simp] theorem meterBoundary_shell (t : Nat) (s : State) (i : Nat) : (meterBoundary t s i).shell = s.shell := by simp [meterBoundary]
@[simp] theorem meterAll_shell (t : Nat) (s : State) : (meterAll t s).shell = s.shell := forEach_shell _ (meterBoundary_shell t) _ s
@[simp] theorem setBinding_shell (s : State) (i : Nat) (b : Binding) : (setBinding s i b).shell = s.shell := updEntry_shell s i _
@[simp] theorem bindTo_shell (s : State) (i : Nat) (e : Entry) (r : Nat) (x : MatchRecord) : (bindTo s i e r x).shell = s.shell := by
  simp [bindTo]
@[simp] theorem leaveUnbound_shell (s : State) (i : Nat) (e : Entry) (c : UnboundCause) : (leaveUnbound s i e c).shell = s.shell := by
  unfold leaveUnbound; dsimp only; split_ifs <;> simp
@[simp] theorem closeRecord_shell (s : State) (n : Nat) (r : MatchRecord) : (closeRecord s n r).shell = s.shell := by simp [closeRecord]
@[simp] theorem matchStage_shell (s : State) (n : Nat) (l : Line) (b : Bool) : (matchStage s n l b).shell = s.shell := by
  unfold matchStage
  split
  · rfl
  · dsimp only
    (repeat' split) <;> simp
@[simp] theorem createRecord_shell (s : State) (n : Nat) (e : Entry) : (createRecord s n e).shell = s.shell := rfl
@[simp] theorem placeIn_shell (s : State) (i : Nat) (e : Entry) (n : Nat) (x : MatchRecord) : (placeIn s i e n x).shell = s.shell := by
  unfold placeIn; split <;> simp
@[simp] theorem placeOne_shell (s : State) (i : Nat) : (placeOne s i).shell = s.shell := by
  unfold placeOne; (repeat' split) <;> simp
@[simp] theorem placementScan_shell (s : State) : (placementScan s).shell = s.shell := forEach_shell _ placeOne_shell _ s
@[simp] theorem bindEntry_shell (s : State) (i : Nat) : (bindEntry s i).shell = s.shell := by
  unfold bindEntry; (repeat' split) <;> simp

/-! ### Windows -/

@[simp] theorem handToProtection_shell (s : State) (i v : Nat) : (handToProtection s i v).shell = s.shell := by
  unfold handToProtection; (repeat' split) <;> simp
@[simp] theorem activate_shell (s : State) (i v : Nat) : (activate s i v).shell = s.shell := by unfold activate; split <;> simp
@[simp] theorem activateOne_shell (t : Nat) (s : State) (i : Nat) : (activateOne t s i).shell = s.shell := by
  unfold activateOne; (repeat' split) <;> simp
@[simp] theorem closeOrFree_shell (s : State) (i : Nat) : (closeOrFree s i).shell = s.shell := by
  unfold closeOrFree; (repeat' split) <;> simp
@[simp] theorem release_shell (s : State) (i : Nat) : (release s i).shell = s.shell := by unfold release; split <;> simp
@[simp] theorem releaseOne_shell (t : Nat) (s : State) (i : Nat) : (releaseOne t s i).shell = s.shell := by
  unfold releaseOne; (repeat' split) <;> simp
@[simp] theorem limitRecent_shell (s : State) (k : Key) (v : Nat) : (limitRecent s k v).shell = s.shell := rfl
@[simp] theorem noticeWithdrawn_shell (s : State) (i : Nat) (e : Entry) (v : Nat) (x : WithdrawEffect) :
    (noticeWithdrawn s i e v x).shell = s.shell := by unfold noticeWithdrawn; split <;> simp
@[simp] theorem lowerBeforeStart_shell (s : State) (i : Nat) (e : Entry) (v : Nat) : (lowerBeforeStart s i e v).shell = s.shell := by
  unfold lowerBeforeStart; dsimp only; (repeat' split) <;> simp
@[simp] theorem applyWithdraw_shell (s : State) (i v : Nat) : (applyWithdraw s i v).shell = s.shell := by
  unfold applyWithdraw
  dsimp only
  (repeat' split) <;> simp
@[simp] theorem attemptMarker_shell (s : State) (i : Nat) : (attemptMarker s i).shell = s.shell := by
  unfold attemptMarker; dsimp only; (repeat' split) <;> simp

/-! ### The claim controller -/

@[simp] theorem takeSeq_shell (s : State) : (takeSeq s).shell = s.shell := rfl
@[simp] theorem addRecent_shell (s : State) (k : Key) (m : Mode) : (addRecent s k m).shell = s.shell := rfl
@[simp] theorem discardRecent_shell (s : State) (k : Key) (m : Mode) : (discardRecent s k m).shell = s.shell := rfl
@[simp] theorem markRecent_shell (s : State) (k : Key) (m : Mode) (x : RecentMark) : (markRecent s k m x).shell = s.shell := rfl
@[simp] theorem assessNew_shell (s : State) (k : Key) (b : ClaimBody) : (assessNew s k b).1.shell = s.shell := by
  unfold assessNew; split <;> simp
@[simp] theorem assessExtend_shell (s : State) (k : Key) (b : ClaimBody) : (assessExtend s k b).1.shell = s.shell := by
  unfold assessExtend; (repeat' split) <;> simp
@[simp] theorem actClaim_shell (s : State) (k : Key) (b : ClaimBody) : (actClaim s k b).1.shell = s.shell := by
  unfold actClaim; (repeat' split) <;> simp
@[simp] theorem concludeSlot_shell (s : State) (n : Nat) (c : ClaimSlot) (o : Outcome) : (concludeSlot s n c o).shell = s.shell := by
  simp [concludeSlot]
@[simp] theorem removeOwnSide_shell (s : State) (c : ClaimSlot) : (removeOwnSide s c).shell = s.shell := by
  unfold removeOwnSide; (repeat' split) <;> simp
@[simp] theorem commitOwnSide_shell (s : State) (c : ClaimSlot) : (commitOwnSide s c).shell = s.shell := by
  unfold commitOwnSide; (repeat' split) <;> simp
@[simp] theorem joinOutbound_shell (s : State) (n : Nat) (c : ClaimSlot) : (joinOutbound s n c).shell = s.shell := by
  unfold joinOutbound; dsimp only; (repeat' split) <;> simp
@[simp] theorem offerOutbound_shell (s : State) (n : Nat) (c : ClaimSlot) : (offerOutbound s n c).shell = s.shell := by
  unfold offerOutbound; dsimp only; split <;> simp
@[simp] theorem reachResult_shell (s : State) (n : Nat) (c : ClaimSlot) (r : ClaimResult) : (reachResult s n c r).shell = s.shell := by
  unfold reachResult; split <;> simp
@[simp] theorem claimBack_shell (s : State) (k : Key) (b : ClaimBody) : (claimBack s k b).shell = s.shell := by
  unfold claimBack; (repeat' split) <;> simp
@[simp] theorem noticeCommitted_shell (s : State) (i : Nat) (e : Entry) (m : Mode) : (noticeCommitted s i e m).shell = s.shell := by
  unfold noticeCommitted; split <;> simp
@[simp] theorem lateConfirm_shell (s : State) (k : Key) (m : Mode) : (lateConfirm s k m).shell = s.shell := by
  unfold lateConfirm; (repeat' split) <;> simp
@[simp] theorem actConfirm_shell (s : State) (k : Key) (m : Mode) : (actConfirm s k m).shell = s.shell := by
  unfold actConfirm; dsimp only; (repeat' split) <;> simp
@[simp] theorem actAbandon_shell (s : State) (k : Key) (m : Mode) : (actAbandon s k m).shell = s.shell := by
  unfold actAbandon; dsimp only; (repeat' split) <;> simp
@[simp] theorem actHoldlost_shell (s : State) (k : Key) (m : Mode) (n : Nat) : (actHoldlost s k m n).shell = s.shell := by
  unfold actHoldlost; (repeat' split) <;> simp
@[simp] theorem actWithdraw_shell (s : State) (k : Key) (v : Nat) : (actWithdraw s k v).shell = s.shell := by
  unfold actWithdraw; split <;> simp

/-! ### The recall controller -/

@[simp] theorem sendRecall_shell (s : State) : (sendRecall s).shell = s.shell := by unfold sendRecall; dsimp only; split <;> simp
@[simp] theorem enterRecovering_shell (s : State) : (enterRecovering s).shell = s.shell := by simp [enterRecovering]
@[simp] theorem recallSynced_shell (s : State) : (recallSynced s).shell = s.shell := by unfold recallSynced; split <;> simp
@[simp] theorem recallBack_shell (s : State) (n : Nat) : (recallBack s n).shell = s.shell := by unfold recallBack; split <;> simp
@[simp] theorem walkFrom_shell (n : Nat) (s : State) (i : Nat) : (walkFrom n s i).shell = s.shell := by
  induction n generalizing s i with
  | zero => rfl
  | succ n ih => unfold walkFrom; (repeat' split) <;> simp [ih]
@[simp] theorem walkAt_shell (s : State) (i : Nat) : (walkAt s i).shell = s.shell := walkFrom_shell _ s i
@[simp] theorem actRecall_shell (s : State) (n : Nat) : (actRecall s n).shell = s.shell := by
  unfold actRecall; dsimp only; split <;> simp
@[simp] theorem install_shell (s : State) (r : Reannounce) : (install s r).shell = s.shell := by
  unfold install; dsimp only; (repeat' split) <;> simp
@[simp] theorem recallConflict_shell (s : State) (k : Key) (r : Reason) (x : Option Nat) : (recallConflict s k r x).shell = s.shell := by
  simp [recallConflict]
@[simp] theorem judgeReannounce_shell (s : State) (r : Reannounce) : (judgeReannounce s r).shell = s.shell := by
  unfold judgeReannounce; (repeat' split) <;> simp
@[simp] theorem actReannounce_shell (s : State) (r : Reannounce) : (actReannounce s r).shell = s.shell := by
  unfold actReannounce; dsimp only; (repeat' split) <;> simp
@[simp] theorem leaveRecovery_shell (s : State) (c : EndCause) : (leaveRecovery s c).shell = s.shell := by
  unfold leaveRecovery; dsimp only; (repeat' split) <;> simp

/-! ### Continuations and ring time -/

@[simp] theorem joinWaiting_shell (s : State) (d : Dir) (n : Nat) : (joinWaiting s d n).shell = s.shell := by
  unfold joinWaiting; (repeat' split) <;> simp
@[simp] theorem takeCharge_shell (s : State) : (takeCharge s).shell = s.shell := by unfold takeCharge; split <;> simp
@[simp] theorem idleCharge_shell (s : State) : (idleCharge s).shell = s.shell := rfl
@[simp] theorem noticeCharged_shell (s : State) (i : Nat) (m : Meter) (l : Line) (o : ChargeOutcome) :
    (noticeCharged s i m l o).shell = s.shell := raiseNotice_shell s _ _
@[simp] theorem placeLine_shell (s : State) (i n : Nat) (m : Meter) (l : Line) : (placeLine s i n m l).shell = s.shell := by
  unfold placeLine; dsimp only; split <;> simp
@[simp] theorem keepLine_shell (s : State) (i : Nat) (e : Entry) (m : Meter) (l : Line) (c : UnboundCause) :
    (keepLine s i e m l c).shell = s.shell := by simp [keepLine]
@[simp] theorem completeCharge_shell (s : State) (i : Nat) (e : Entry) (m : Meter) : (completeCharge s i e m).shell = s.shell := by
  unfold completeCharge; split <;> simp
@[simp] theorem attemptsOne_shell (s : State) (i : Nat) : (attemptsOne s i).shell = s.shell := by unfold attemptsOne; split <;> simp
@[simp] theorem boundary_shell (t : Nat) (s : State) : (boundary t s).shell = s.shell := by simp [boundary, forEach_shell]
@[simp] theorem setSeconds_shell (s : State) (v : Nat) : (setSeconds s v).shell = s.shell := rfl
@[simp] theorem runSecond_shell (s : State) : (runSecond s).shell = s.shell := by unfold runSecond; split <;> simp
@[simp] theorem jump_shell (s : State) (j : Nat) : (jump s j).shell = s.shell :=
  forEach_shell (fun t n => boundary (s.clock.seconds + n + 1) t) (fun t _ => boundary_shell _ t) (List.range j) (setSeconds s _)
@[simp] theorem becomeSynced_shell (s : State) (v : Nat) (c : SyncCause) : (becomeSynced s v c).shell = s.shell := by
  unfold becomeSynced
  dsimp only
  rw [recallSynced_shell, raiseNotice_shell]
  rfl
@[simp] theorem takeStamp_shell (s : State) (m : Msg) : (takeStamp s m).shell = s.shell := by
  unfold takeStamp; (repeat' split) <;> simp

/-! ### Messages at their blocks -/

@[simp] theorem handBack_shell (s : State) (m : Msg) : (handBack s m).shell = s.shell := by unfold handBack; split <;> simp
@[simp] theorem actQuery_shell (s : State) (x n t k : Nat) : (actQuery s x n t k).shell = s.shell := by
  unfold actQuery; split <;> simp
@[simp] theorem actAnswer_shell (s : State) (x y n k : Nat) (c : Option Statement) : (actAnswer s x y n k c).shell = s.shell := by
  unfold actAnswer; (repeat' split) <;> simp
@[simp] theorem act_shell (s : State) (p : Dir) (m : Msg) : (act s p m).1.shell = s.shell := by unfold act; split <;> simp

end Sys2Proof.Machine

namespace Sys2Proof.Machine

/-! ### The header processor keeps the station's shell -/

/-- Every slot row is the arrival of its slot, whatever row names it (log 28). -/
theorem exec_of_slotOf {c : Instr} {port : Dir} {slot : Slot} (h : slotOf c = some (port, slot)) (s : State) :
    exec c s = exec (.bypassSlotForward port slot) s := by
  cases c <;> simp only [slotOf, Option.some.injEq, Prod.mk.injEq, reduceCtorEq] at h
  all_goals
    obtain ⟨rfl, rfl⟩ := h
    rfl

@[simp] theorem putSlot_station (s : State) (d : Dir) (x : Slot) : (putSlot s d x).station = s.station := by cases d <;> rfl
@[simp] theorem emit_station (s : State) (d : Dir) (m : Option Msg) : (emit s d m).station = s.station := putSlot_station s d _
@[simp] theorem noteFar_station (s : State) (d : Dir) (b : Bool) : (noteFar s d b).station = s.station := by cases d <;> rfl
@[simp] theorem withLane_station (s : State) (v : Lanes) : (s.withLane v).station = s.station := rfl

@[simp] theorem placeHead_station (s : State) (d side : Dir) : (placeHead s d side).station = s.station := by
  unfold placeHead
  split
  · simp
  · dsimp only
    rw [station_of_shell (startMark_shell _), emit_station, station_of_shell (freePlace_shell ..)]

@[simp] theorem serveFolded_station (s : State) (side : Dir) : (serveFolded s side).station = s.station := by
  unfold serveFolded; split <;> simp

@[simp] theorem continueEmpty_station (s : State) (port : Dir) (fill : Bool) : (continueEmpty s port fill).station = s.station := by
  unfold continueEmpty; dsimp only; split_ifs <;> simp

@[simp] theorem forward_station (s : State) (port : Dir) (m : Msg) : (forward s port m).station = s.station := by
  unfold forward; dsimp only; split_ifs <;> simp

theorem handleFull_station (s : State) (port : Dir) (m : Msg) : (handleFull s port m).station = s.station := by
  unfold handleFull
  dsimp only
  split_ifs <;> simp [station_of_shell (handBack_shell s m), station_of_shell (act_shell s port (hopped m))]

theorem arriveFull_station (s : State) (port : Dir) (far : Bool) (m : Msg) : (arriveFull s port far m).station = s.station := by
  unfold arriveFull
  dsimp only
  split_ifs
  · simp
  · rw [handleFull_station, station_of_shell (takeStamp_shell _ m), noteFar_station]
  · exact putSlot_station ..

theorem arriveEmpty_station (s : State) (port : Dir) (far : Bool) : (arriveEmpty s port far).station = s.station := by
  unfold arriveEmpty
  split_ifs
  · simp
  · exact putSlot_station ..

/-- A slot arrival is answered with a next state that keeps the station's shell. -/
theorem exec_slot_next {c : Instr} {port : Dir} {slot : Slot} (hc : slotOf c = some (port, slot)) (s : State) :
    ∃ t, exec c s = .next t ∧ t.station = s.station := by
  rw [exec_of_slotOf hc]
  refine ⟨_, rfl, ?_⟩
  split
  · exact arriveFull_station ..
  · exact arriveEmpty_station ..

/-! ### Site requests keep both shells -/

@[simp] theorem turnDown_state (s : State) (x : Status) : (turnDown s x).state = s := rfl
@[simp] theorem answer_state (s : State) (x : Status) : (answer s x).state = s := rfl
@[simp] theorem joinShort_shell (s : State) (r : Reply) : (joinShort s r).shell = s.shell := by unfold joinShort; split <;> simp

theorem takeRequest_shell (s : State) (tag code : Byte) (handle : State → Answer) (h : (handle s).state.shell = s.shell) :
    (takeRequest s tag code handle).shell = s.shell := by
  obtain he | ⟨-, he⟩ | ⟨-, he⟩ := takeRequest_spec s tag code handle <;> rw [he] <;> simp [h]

theorem siteRequest_shell (s : State) (tag code : Byte) (params : List Byte) (handle : State → Answer) (h : (handle s).state.shell = s.shell) :
    (siteRequest s tag code params handle).shell = s.shell := by
  refine takeRequest_shell s tag code _ ?_
  unfold checked
  split_ifs <;> simp [h]

@[simp] theorem takeBooking_shell (s : State) (n : Nat) (b : Booking) : (takeBooking s n b).shell = s.shell := by simp [takeBooking]
@[simp] theorem handleBooking_shell (s : State) (b : Booking) : (handleBooking s b).state.shell = s.shell := by
  unfold handleBooking; (repeat' split) <;> simp
@[simp] theorem handleBook_shell (p : List Byte) (s : State) : (handleBook p s).state.shell = s.shell := by
  unfold handleBook; split <;> simp
@[simp] theorem withdrawEntry_shell (s : State) (i : Nat) (e : Entry) (g : Option Nat) : (withdrawEntry s i e g).state.shell = s.shell := by
  unfold withdrawEntry; dsimp only; split_ifs <;> simp
@[simp] theorem handleWithdraw_shell (p : List Byte) (s : State) : (handleWithdraw p s).state.shell = s.shell := by
  unfold handleWithdraw; split <;> simp
@[simp] theorem takeExtension_shell (s : State) (n i : Nat) (e : Entry) (v : Nat) : (takeExtension s n i e v).shell = s.shell := by
  simp [takeExtension]
@[simp] theorem extendEntry_shell (s : State) (i : Nat) (e : Entry) (v : Nat) : (extendEntry s i e v).state.shell = s.shell := by
  unfold extendEntry; (repeat' split) <;> simp
@[simp] theorem handleExtend_shell (p : List Byte) (s : State) : (handleExtend p s).state.shell = s.shell := by
  unfold handleExtend; split <;> simp
@[simp] theorem handleSetClock_shell (p : List Byte) (s : State) : (handleSetClock p s).state.shell = s.shell := by
  unfold handleSetClock; split <;> simp
theorem manualRequest_shell (p : List Byte) (s : State) (f : Nat → Entry → ProtPart → Answer) (h : ∀ i e x, (f i e x).state.shell = s.shell) :
    (manualRequest p s f).state.shell = s.shell := by unfold manualRequest; (repeat' split) <;> simp [h]
@[simp] theorem forceDrop_shell (s : State) (i : Nat) (p : ProtPart) : (forceDrop s i p).state.shell = s.shell := by
  unfold forceDrop; split <;> simp
@[simp] theorem lockoutDrop_shell (s : State) (i : Nat) (p : ProtPart) : (lockoutDrop s i p).state.shell = s.shell := by
  unfold lockoutDrop; split <;> simp
@[simp] theorem clearDrop_shell (s : State) (i : Nat) (e : Entry) (p : ProtPart) : (clearDrop s i e p).state.shell = s.shell := by
  unfold clearDrop; split <;> simp
@[simp] theorem readIndex_shell (s : State) (i : Nat) : (readIndex s i).state.shell = s.shell := by
  unfold readIndex; (repeat' split) <;> simp
@[simp] theorem readKey_shell (s : State) (k : Key) : (readKey s k).state.shell = s.shell := by unfold readKey; split <;> simp
@[simp] theorem handleReadEntry_shell (p : List Byte) (s : State) : (handleReadEntry p s).state.shell = s.shell := by
  unfold handleReadEntry; split <;> simp
theorem matchRequest_shell (p : List Byte) (s : State) (f : Nat → MatchRecord → Answer) (h : ∀ n r, (f n r).state.shell = s.shell) :
    (matchRequest p s f).state.shell = s.shell := by unfold matchRequest; (repeat' split) <;> simp [h]
@[simp] theorem closeMatchRecord_shell (s : State) (n : Nat) (r : MatchRecord) : (closeMatchRecord s n r).state.shell = s.shell := by
  unfold closeMatchRecord; (repeat' split) <;> simp
@[simp] theorem takeRecord_shell (s : State) (n : Nat) (r : MatchRecord) : (takeRecord s n r).state.shell = s.shell := by
  unfold takeRecord; split <;> simp
@[simp] theorem takeQuery_shell (s : State) (x k : Nat) : (takeQuery s x k).shell = s.shell := by simp [takeQuery]
@[simp] theorem handleRemoteRead_shell (p : List Byte) (s : State) : (handleRemoteRead p s).state.shell = s.shell := by
  unfold handleRemoteRead; dsimp only; split_ifs <;> simp

/-- A site request is answered with a next state that keeps both shells. -/
theorem exec_request_next {c : Instr} {x : Byte × Byte × List Byte} (hc : requestOf c = some x) (s : State) :
    ∃ t, exec c s = .next t ∧ t.shell = s.shell := by
  cases c
  case book => exact ⟨_, rfl, siteRequest_shell _ _ _ _ _ (handleBook_shell ..)⟩
  case withdraw => exact ⟨_, rfl, siteRequest_shell _ _ _ _ _ (handleWithdraw_shell ..)⟩
  case extend => exact ⟨_, rfl, siteRequest_shell _ _ _ _ _ (handleExtend_shell ..)⟩
  case setClock => exact ⟨_, rfl, siteRequest_shell _ _ _ _ _ (handleSetClock_shell ..)⟩
  case force => exact ⟨_, rfl, siteRequest_shell _ _ _ _ _ (manualRequest_shell _ _ _ (fun _ _ _ => forceDrop_shell ..))⟩
  case lockout => exact ⟨_, rfl, siteRequest_shell _ _ _ _ _ (manualRequest_shell _ _ _ (fun _ _ _ => lockoutDrop_shell ..))⟩
  case clearSwitch => exact ⟨_, rfl, siteRequest_shell _ _ _ _ _ (manualRequest_shell _ _ _ (fun _ _ _ => clearDrop_shell ..))⟩
  case readEntry => exact ⟨_, rfl, siteRequest_shell _ _ _ _ _ (handleReadEntry_shell ..)⟩
  case readMonitor => exact ⟨_, rfl, siteRequest_shell _ _ _ _ _ rfl⟩
  case readMatch => exact ⟨_, rfl, siteRequest_shell _ _ _ _ _ (matchRequest_shell _ _ _ (fun _ _ => rfl))⟩
  case closeMatch => exact ⟨_, rfl, siteRequest_shell _ _ _ _ _ (matchRequest_shell _ _ _ (closeMatchRecord_shell s))⟩
  case takeStatement => exact ⟨_, rfl, siteRequest_shell _ _ _ _ _ (matchRequest_shell _ _ _ (takeRecord_shell s))⟩
  case remoteRead => exact ⟨_, rfl, siteRequest_shell _ _ _ _ _ (handleRemoteRead_shell ..)⟩
  case restart => exact ⟨_, rfl, siteRequest_shell _ _ _ _ _ rfl⟩
  all_goals simp [requestOf] at hc

end Sys2Proof.Machine

namespace Sys2Proof.Machine

/-! ### Start-up -/

/-- What every command but those of start-up keeps: where the station stands in start-up, its configuration, the queue of commands. -/
def State.startUp (s : State) : Phase × Cfg × List Instr := (s.phase, s.cfg, s.pending)

section Reading
variable {s t : State}

theorem startUp_of_station (h : t.station = s.station) : t.startUp = s.startUp :=
  congrArg (fun x => (x.phase, x.cfg, x.pending)) h

theorem startUp_of_shell (h : t.shell = s.shell) : t.startUp = s.startUp := startUp_of_station (station_of_shell h)

@[simp] theorem reach_startUp (s : State) (d : Nat) : (reach s d).startUp = s.startUp := by simp [State.startUp]

/-- A timer's work after the local time has reached its deadline (R29). -/
theorem startUp_after_reach {d : Nat} (h : t.shell = (reach s d).shell) : t.startUp = s.startUp :=
  (startUp_of_shell h).trans (reach_startUp s d)

end Reading

/-! ### Frames at the site port -/

theorem sendNext_shell (s : State) : (sendNext s).shell = s.shell := by unfold sendNext; (repeat' split) <;> simp

theorem answerBadFrame_startUp (s : State) : (answerBadFrame s).startUp = s.startUp :=
  startUp_of_shell (s := s) (t := joinShort s _) (joinShort_shell s _)

/-! ### Timers -/

theorem expireMark_shell (s : State) : (expireMark s).shell = s.shell := by unfold expireMark; split <;> simp

theorem execMarkTimerExpiry_next (s : State) : ∃ t, execMarkTimerExpiry s = .next t ∧ t.startUp = s.startUp := by
  refine ⟨_, rfl, ?_⟩
  split
  · exact startUp_after_reach (expireMark_shell _)
  · rfl

theorem execSecondBoundary_next (s : State) : ∃ t, execSecondBoundary s = .next t ∧ t.startUp = s.startUp := by
  refine ⟨_, rfl, ?_⟩
  split
  · exact (startUp_of_shell (runSecond_shell _)).trans rfl
  · rfl

theorem execCircuitTimeout_next (n : Nat) (s : State) : ∃ t, execCircuitTimeout n s = .next t ∧ t.startUp = s.startUp := by
  refine ⟨_, rfl, ?_⟩
  split
  · split
    · exact startUp_after_reach (reachResult_shell ..)
    · rfl
  · rfl

theorem lapseTentative_shell (s : State) (i : Nat) (e : Entry) : (lapseTentative s i e).shell = s.shell := by simp [lapseTentative]
theorem lapseExtension_shell (s : State) (i : Nat) (e : Entry) : (lapseExtension s i e).shell = s.shell := by simp [lapseExtension]

theorem execTentativeLifetimeExpiry_next (i : Nat) (s : State) :
    ∃ t, execTentativeLifetimeExpiry i s = .next t ∧ t.startUp = s.startUp := by
  refine ⟨_, rfl, ?_⟩
  split
  · split
    · exact startUp_after_reach (lapseTentative_shell ..)
    · rfl
  · rfl

theorem execExtensionLifetimeExpiry_next (i : Nat) (s : State) :
    ∃ t, execExtensionLifetimeExpiry i s = .next t ∧ t.startUp = s.startUp := by
  refine ⟨_, rfl, ?_⟩
  split
  · split
    · exact startUp_after_reach (lapseExtension_shell ..)
    · rfl
  · rfl

@[simp] theorem postponeRetry_shell (s : State) (n : Nat) (c : ClaimSlot) : (postponeRetry s n c).shell = s.shell := rfl
@[simp] theorem retryNew_shell (s : State) (n : Nat) (c : ClaimSlot) : (retryNew s n c).shell = s.shell := by
  unfold retryNew; dsimp only; (repeat' split) <;> simp
@[simp] theorem retryExtend_shell (s : State) (n : Nat) (c : ClaimSlot) : (retryExtend s n c).shell = s.shell := by
  unfold retryExtend; dsimp only; (repeat' split) <;> simp
theorem expireRetry_shell (s : State) (n : Nat) (c : ClaimSlot) : (expireRetry s n c).shell = s.shell := by
  unfold expireRetry; split <;> simp

theorem execRetryDeadline_next (n : Nat) (s : State) : ∃ t, execRetryDeadline n s = .next t ∧ t.startUp = s.startUp := by
  refine ⟨_, rfl, ?_⟩
  split
  · split
    · exact startUp_after_reach (expireRetry_shell ..)
    · rfl
  · rfl

theorem execAgeDeadline_next (k : Key) (mode : Mode) (s : State) : ∃ t, execAgeDeadline k mode s = .next t ∧ t.startUp = s.startUp := by
  refine ⟨_, rfl, ?_⟩
  split
  · exact startUp_after_reach (discardRecent_shell ..)
  · rfl

theorem execHoldOffExpiry_next (i : Nat) (s : State) : ∃ t, execHoldOffExpiry i s = .next t ∧ t.startUp = s.startUp := by
  refine ⟨_, rfl, ?_⟩
  split
  · split
    · exact startUp_after_reach ((attemptMarked_shell ..).trans (expireHoldOff_shell ..))
    · rfl
  · rfl

theorem expireRestoreWait_shell (s : State) (i : Nat) : (expireRestoreWait s i).shell = s.shell := by
  unfold expireRestoreWait; (repeat' split) <;> simp

theorem execRestoreWaitExpiry_next (i : Nat) (s : State) : ∃ t, execRestoreWaitExpiry i s = .next t ∧ t.startUp = s.startUp := by
  refine ⟨_, rfl, ?_⟩
  split
  · split
    · exact startUp_after_reach ((attemptMarked_shell ..).trans (expireRestoreWait_shell ..))
    · rfl
  · rfl

theorem expireResend_shell (s : State) : (expireResend s).shell = s.shell := by unfold expireResend; split <;> simp

theorem execResendDeadline_next (s : State) : ∃ t, execResendDeadline s = .next t ∧ t.startUp = s.startUp := by
  refine ⟨_, rfl, ?_⟩
  split
  · exact startUp_after_reach (expireResend_shell _)
  · rfl

theorem execQuietDeadline_next (s : State) : ∃ t, execQuietDeadline s = .next t ∧ t.startUp = s.startUp := by
  refine ⟨_, rfl, ?_⟩
  split
  · exact startUp_after_reach (leaveRecovery_shell ..)
  · rfl

theorem execRecoveryLimit_next (s : State) : ∃ t, execRecoveryLimit s = .next t ∧ t.startUp = s.startUp := by
  refine ⟨_, rfl, ?_⟩
  split
  · exact startUp_after_reach (leaveRecovery_shell ..)
  · rfl

theorem lapseQuery_shell (s : State) (q : Query) : (lapseQuery s q).shell = s.shell := by simp [lapseQuery]

theorem execQueryDeadline_next (s : State) : ∃ t, execQueryDeadline s = .next t ∧ t.startUp = s.startUp := by
  refine ⟨_, rfl, ?_⟩
  split
  · exact startUp_after_reach (lapseQuery_shell ..)
  · rfl

/-! ### Span and input monitors -/

theorem setSpan_startUp (s : State) (side : Dir) (m : SpanMon) : (setSpan s side m).startUp = s.startUp := by cases side <;> rfl
theorem losePins_startUp (s : State) (side : Dir) (c : LossCause) : (losePins s side c).startUp = s.startUp := by
  cases side <;> cases c <;> rfl
theorem restorePins_startUp (s : State) (side : Dir) : (restorePins s side).startUp = s.startUp := by cases side <;> rfl
theorem reportSpan_shell (s : State) (side : Dir) (up : Bool) (c : SpanCause) : (reportSpan s side up c).shell = s.shell := by
  unfold reportSpan; dsimp only; split_ifs <;> simp

theorem loseSpan_startUp (s : State) (side : Dir) (c : LossCause) : (loseSpan s side c).startUp = s.startUp := by
  unfold loseSpan
  split
  · exact (startUp_of_shell (reportSpan_shell ..)).trans (setSpan_startUp ..)
  · exact setSpan_startUp ..

theorem generateSlot_startUp (s : State) (side : Dir) : (generateSlot s side).startUp = s.startUp := by
  unfold generateSlot
  split
  · exact startUp_of_station (emit_station ..)
  · exact startUp_of_station (putSlot_station ..)

theorem execSpanLoss_next (side : Dir) (c : LossCause) (s : State) : ∃ t, execSpanLoss side c s = .next t ∧ t.startUp = s.startUp := by
  refine ⟨_, rfl, (generateSlot_startUp ..).trans ?_⟩
  split
  · exact (loseSpan_startUp ..).trans (losePins_startUp ..)
  · exact losePins_startUp ..

theorem regainSpan_startUp (s : State) (side : Dir) : (regainSpan s side).startUp = s.startUp := by
  unfold regainSpan
  split
  · exact setSpan_startUp ..
  · rfl

theorem execSpanSignalReturn_next (side : Dir) (s : State) : ∃ t, execSpanSignalReturn side s = .next t ∧ t.startUp = s.startUp := by
  refine ⟨_, rfl, ?_⟩
  split
  · exact (regainSpan_startUp ..).trans (restorePins_startUp ..)
  · exact restorePins_startUp ..

theorem execSpanConfirmed_next (side : Dir) (s : State) : ∃ t, execSpanConfirmed side s = .next t ∧ t.startUp = s.startUp := by
  refine ⟨_, rfl, ?_⟩
  split
  · exact ((startUp_of_shell (reportSpan_shell ..)).trans (setSpan_startUp ..)).trans (reach_startUp ..)
  · rfl

theorem execInputStateChange_next (p : Nat) (b : Bool) (s : State) : ∃ t, execInputStateChange p b s = .next t ∧ t.startUp = s.startUp := by
  refine ⟨_, rfl, ?_⟩
  split <;> rfl

/-! ### Lane frame periods -/

theorem takeLanes_shell (p : Period) (s : State) : (takeLanes p s).shell = s.shell :=
  (forEach_shell _ (fun _ _ => updMon_shell ..) _ _).trans (forEach_shell _ (fun _ _ => updMon_shell ..) _ s)

theorem settleOne_shell (p : Period) (s : State) (i : Nat) : (settleOne p s i).shell = s.shell := by
  unfold settleOne
  split
  · rfl
  · dsimp only
    have watched (b : Bool) (t : State) (port : Dir) (l : List Nat) (f : LaneMon → LaneMon) :
        (if b then forEach l t (fun t lane => updMon t port lane f) else t).shell = t.shell := by
      split
      · exact forEach_shell _ (fun _ _ => updMon_shell ..) _ t
      · rfl
    split
    · rw [watched, watched]
    · rfl

theorem selectOne_shell (p : Period) (s : State) (i : Nat) : (selectOne p s i).shell = s.shell := by
  unfold selectOne; (repeat' split) <;> simp

theorem framePeriod_shell (p : Period) (s : State) : (framePeriod p s).shell = s.shell := by
  unfold framePeriod monitorPeriod
  rw [withSwitch_shell, forEach_shell _ (selectOne_shell p), forEach_shell _ (settleOne_shell p), takeLanes_shell]

/-! ### The warm reset -/

theorem clearTentative_station (s : State) (i : Nat) : (clearTentative s i).station = s.station := by
  unfold clearTentative
  split
  · rfl
  · split
    · exact station_of_shell (freeEntry_shell ..)
    · rfl

theorem clearBilling_station (s : State) : (clearBilling s).station = s.station := rfl

theorem warmClear_station (s : State) : (warmClear s).station = s.station := by
  unfold warmClear
  rw [clearBilling_station, forEach_field State.station clearTentative clearTentative_station]
  rfl

theorem remarkOne_shell (s : State) (i : Nat) : (remarkOne s i).shell = s.shell := by
  unfold remarkOne
  split
  · rfl
  · dsimp only
    split_ifs <;> simp

theorem restartRecall_shell (s : State) : (restartRecall s).shell = s.shell := by
  unfold restartRecall
  dsimp only
  (repeat' split) <;> simp

theorem rebuildCloseQueue_shell (s : State) : (rebuildCloseQueue s).shell = s.shell := withBill_shell s _

theorem warmStart_shell (s : State) : (warmStart s).shell = s.shell := by
  unfold warmStart
  rw [restartRecall_shell, startMark_shell, forEach_shell _ remarkOne_shell, rebuildCloseQueue_shell]

theorem execWarmReset_next (s : State) : ∃ t, execWarmReset s = .next t ∧ t.startUp = s.startUp := by
  refine ⟨_, rfl, ?_⟩
  split
  · refine startUp_of_station ?_
    rw [station_of_shell (withSite_shell ..), station_of_shell (warmStart_shell _), warmClear_station]
  · rfl

/-! ### Every command -/

/-- The three commands of start-up (R199 to R201). -/
def startsUp : Instr → Bool
  | .coldReset => true
  | .configurationLoad _ => true
  | .resetPinRelease => true
  | _ => false

/-- Every command but those of start-up is answered with a next state that keeps the phase, the configuration and the queue. -/
theorem exec_keeps_startUp (c : Instr) (s : State) (hc : startsUp c = false) : ∃ t, exec c s = .next t ∧ t.startUp = s.startUp := by
  have request : ∀ x, requestOf c = some x → ∃ t, exec c s = .next t ∧ t.startUp = s.startUp := fun x hx =>
    (exec_request_next hx s).imp fun _ h => ⟨h.1, startUp_of_shell h.2⟩
  have arrival : ∀ x, slotOf c = some x → ∃ t, exec c s = .next t ∧ t.startUp = s.startUp := fun x hx =>
    (exec_slot_next (port := x.1) (slot := x.2) hx s).imp fun _ h => ⟨h.1, startUp_of_station h.2⟩
  cases c
  case book | withdraw | extend | setClock | force | lockout | clearSwitch | readEntry | readMonitor | readMatch | closeMatch | takeStatement
      | remoteRead | restart => exact request _ rfl
  case bypassSlotForward | slotDroppedOnWrap | emptySlotArrival | markReceived | unknownKindMessage | claimReceived | claimReturned
      | confirmReceived | abandonReceived | withdrawReceived | holdlostReceived | switchreqReceived | bridgeOnReceived | bridgeOffReceived
      | spanstateReceived | queryReceived | answerReceived | recallReceived | recallReturned | reannounceReceived => exact arrival _ rfl
  case unknownRequest => exact ⟨_, rfl, by split <;> [rfl; exact startUp_of_shell (takeRequest_shell _ _ _ _ rfl)]⟩
  case badFrame => exact ⟨_, rfl, by split <;> [exact answerBadFrame_startUp s; rfl]⟩
  case interByteTimeout => exact ⟨_, rfl, by split <;> [exact answerBadFrame_startUp s; rfl]⟩
  case frameSent => exact ⟨_, rfl, startUp_of_shell (sendNext_shell s)⟩
  case warmReset => exact execWarmReset_next s
  case coldReset | configurationLoad | resetPinRelease => cases hc
  case outboundJoin => exact ⟨_, rfl, by split <;> [exact startUp_of_shell (joinWaiting_shell ..); rfl]⟩
  case holdlostHeldOverJoin => exact ⟨_, rfl, startUp_of_shell (joinHeldOver_shell s)⟩
  case walkResume => exact ⟨_, rfl, by split <;> [exact startUp_of_shell (walkAt_shell ..); rfl]⟩
  case markTimerExpiry => exact execMarkTimerExpiry_next s
  case secondBoundary => exact execSecondBoundary_next s
  case chargeTake => exact ⟨_, rfl, startUp_of_shell (takeCharge_shell s)⟩
  case chargeCompletion => exact ⟨_, rfl, by (repeat' split) <;> [rfl; rfl; exact startUp_of_shell (completeCharge_shell ..); rfl]⟩
  case circuitTimeout => exact execCircuitTimeout_next _ s
  case tentativeLifetimeExpiry => exact execTentativeLifetimeExpiry_next _ s
  case extensionLifetimeExpiry => exact execExtensionLifetimeExpiry_next _ s
  case retryDeadline => exact execRetryDeadline_next _ s
  case ageDeadline => exact execAgeDeadline_next _ _ s
  case holdOffExpiry => exact execHoldOffExpiry_next _ s
  case restoreWaitExpiry => exact execRestoreWaitExpiry_next _ s
  case resendDeadline => exact execResendDeadline_next s
  case quietDeadline => exact execQuietDeadline_next s
  case recoveryLimit => exact execRecoveryLimit_next s
  case queryDeadline => exact execQueryDeadline_next s
  case spanLoss => exact execSpanLoss_next _ _ s
  case spanSignalReturn => exact execSpanSignalReturn_next _ s
  case spanConfirmed => exact execSpanConfirmed_next _ s
  case inputStateChange => exact execInputStateChange_next _ _ s
  case laneFramePeriod => exact ⟨_, rfl, startUp_of_shell (framePeriod_shell ..)⟩

/-- Settles O5: only the commands of start-up touch the phase or the configuration, the load does so from the load phase alone, and the
release of the pin moves the phase on from the held reset (R199, R201). -/
theorem configurationFixed : Obligations.ConfigurationFixed := by
  intro c s t hx hcold hload
  cases hc : startsUp c with
  | false =>
    obtain ⟨u, hu, hs⟩ := exec_keeps_startUp c s hc
    obtain rfl : u = t := by simpa using hu.symm.trans hx
    simp only [State.startUp, Prod.mk.injEq] at hs
    obtain ⟨hphase, hcfg, -⟩ := hs
    exact ⟨hcfg, .inl hphase⟩
  | true =>
    cases c <;> simp only [startsUp, reduceCtorEq] at hc
    case coldReset => exact absurd rfl hcold
    case configurationLoad image =>
      obtain rfl : s = t := by simpa [exec, execConfigurationLoad, hload] using hx
      exact ⟨rfl, .inl rfl⟩
    case resetPinRelease =>
      obtain rfl := Host.Outcome.next.inj hx
      split
      · exact ⟨rfl, .inr ⟨‹_›, rfl⟩⟩
      · exact ⟨rfl, .inl rfl⟩

end Sys2Proof.Machine

namespace Sys2Proof.Machine

/-! ### Which parts a step changes -/

theorem changesOnly_refl (ps : List Part) (s : State) : changesOnly ps s s := by
  intro p _
  cases p <;> rfl

theorem changesOnly_trans {ps : List Part} {s t u : State} (h : changesOnly ps s t) (k : changesOnly ps t u) : changesOnly ps s u := by
  intro p hp
  have hst := h p hp
  have htu := k p hp
  cases p <;> exact htu.trans hst

theorem changesOnly_mono {ps qs : List Part} {s t : State} (h : changesOnly ps s t) (hs : ps ⊆ qs) : changesOnly qs s t :=
  fun p hp => h p (fun hm => hp (hs hm))

theorem withPhase_changesOnly (s : State) (v : Phase) : changesOnly [.phase] s (s.withPhase v) := by
  intro p hp
  cases p with
  | phase => simp at hp
  | _ => rfl
theorem withCfg_changesOnly (s : State) (v : Cfg) : changesOnly [.cfg] s (s.withCfg v) := by
  intro p hp
  cases p with
  | cfg => simp at hp
  | _ => rfl
theorem withClock_changesOnly (s : State) (v : Clock) : changesOnly [.clock] s (s.withClock v) := by
  intro p hp
  cases p with
  | clock => simp at hp
  | _ => rfl
theorem withLane_changesOnly (s : State) (v : Lanes) : changesOnly [.lane] s (s.withLane v) := by
  intro p hp
  cases p with
  | lane => simp at hp
  | _ => rfl
theorem withEntries_changesOnly (s : State) (v : List (Option Entry)) : changesOnly [.entries] s (s.withEntries v) := by
  intro p hp
  cases p with
  | entries => simp at hp
  | _ => rfl
theorem withClaims_changesOnly (s : State) (v : Claims) : changesOnly [.claims] s (s.withClaims v) := by
  intro p hp
  cases p with
  | claims => simp at hp
  | _ => rfl
theorem withRecov_changesOnly (s : State) (v : Recall) : changesOnly [.recov] s (s.withRecov v) := by
  intro p hp
  cases p with
  | recov => simp at hp
  | _ => rfl
theorem withMons_changesOnly (s : State) (v : Monitors) : changesOnly [.mons] s (s.withMons v) := by
  intro p hp
  cases p with
  | mons => simp at hp
  | _ => rfl
theorem withBridged_changesOnly (s : State) (v : Bridged) : changesOnly [.bridged] s (s.withBridged v) := by
  intro p hp
  cases p with
  | bridged => simp at hp
  | _ => rfl
theorem withBill_changesOnly (s : State) (v : Billing) : changesOnly [.bill] s (s.withBill v) := by
  intro p hp
  cases p with
  | bill => simp at hp
  | _ => rfl
theorem withSite_changesOnly (s : State) (v : Site) : changesOnly [.site] s (s.withSite v) := by
  intro p hp
  cases p with
  | site => simp at hp
  | _ => rfl

theorem putSlot_changesOnly (s : State) (d : Dir) (x : Slot) : changesOnly [.lane] s (putSlot s d x) := by
  cases d <;> exact withLane_changesOnly _ _
theorem emit_changesOnly (s : State) (d : Dir) (m : Option Msg) : changesOnly [.lane] s (emit s d m) := putSlot_changesOnly _ _ _
theorem noteFar_changesOnly (s : State) (d : Dir) (b : Bool) : changesOnly [.lane] s (noteFar s d b) := by
  cases d <;> exact withLane_changesOnly _ _
theorem setQueue_changesOnly (s : State) (d : Dir) (q : List Msg) : changesOnly [.lane] s (setQueue s d q) := by
  cases d <;> exact withLane_changesOnly _ _
theorem join_changesOnly (s : State) (d : Dir) (n : Nat) (b : Body) : changesOnly [.lane] s (join s d n b) := setQueue_changesOnly _ _ _
theorem joinHeldOver_changesOnly (s : State) : changesOnly [.lane] s (joinHeldOver s) := by
  unfold joinHeldOver
  split
  · split
    · exact withLane_changesOnly _ _
    · exact changesOnly_refl _ s
  · exact changesOnly_refl _ s
theorem freePlace_changesOnly (s : State) (d : Dir) (rest : List Msg) : changesOnly [.lane] s (freePlace s d rest) := by
  cases d with
  | east => exact changesOnly_trans (setQueue_changesOnly s .east rest) (joinHeldOver_changesOnly _)
  | west => exact setQueue_changesOnly s .west rest
theorem startMark_changesOnly (s : State) : changesOnly [.clock] s (startMark s) := by
  unfold startMark
  split
  · exact withClock_changesOnly _ _
  · exact changesOnly_refl _ s

/-! ### The sides and the queues through the operations of the header processor -/

@[simp] theorem far_putSlot (s : State) (d x : Dir) (v : Slot) : (putSlot s d v).far x = s.far x := by cases d <;> cases x <;> rfl
@[simp] theorem far_emit (s : State) (d x : Dir) (m : Option Msg) : (emit s d m).far x = s.far x := far_putSlot ..
@[simp] theorem outOf_putSlot_same (s : State) (d : Dir) (v : Slot) : outOf (putSlot s d v) d = v := by cases d <;> rfl
@[simp] theorem outOf_putSlot_opp (s : State) (d : Dir) (v : Slot) : outOf (putSlot s (opp d) v) d = outOf s d := by cases d <;> rfl
@[simp] theorem outOf_noteFar (s : State) (d x : Dir) (b : Bool) : outOf (noteFar s d b) x = outOf s x := by cases d <;> cases x <;> rfl
@[simp] theorem lastServed_putSlot (s : State) (d : Dir) (v : Slot) : (putSlot s d v).lane.lastServed = s.lane.lastServed := by cases d <;> rfl
@[simp] theorem lastServed_emit (s : State) (d : Dir) (m : Option Msg) : (emit s d m).lane.lastServed = s.lane.lastServed :=
  lastServed_putSlot ..
@[simp] theorem lastServed_noteFar (s : State) (d : Dir) (b : Bool) : (noteFar s d b).lane.lastServed = s.lane.lastServed := by
  cases d <;> rfl
@[simp] theorem span_emit (s : State) (d x : Dir) (m : Option Msg) : (emit s d m).span x = s.span x :=
  span_of_station (emit_station s d m) x

/-- What an output carries after a slot has left on the other side. -/
theorem outOf_emit_other (s : State) (d : Dir) (m : Option Msg) : outOf (emit s (opp d) m) d = outOf s d := outOf_putSlot_opp ..

theorem queuesKept_refl (s : State) : queuesKept s s := ⟨rfl, rfl, rfl, rfl⟩
theorem queuesKept_trans {s t u : State} (h : queuesKept s t) (k : queuesKept t u) : queuesKept s u := by
  obtain ⟨heast, hwest, hheld, hcounter⟩ := h
  obtain ⟨keast, kwest, kheld, kcounter⟩ := k
  exact ⟨keast.trans heast, kwest.trans hwest, kheld.trans hheld, kcounter.trans hcounter⟩
theorem queuesKept_queue {s t : State} (h : queuesKept s t) (d : Dir) : t.queue d = s.queue d := by
  obtain ⟨heast, hwest, -⟩ := h
  cases d with
  | east => exact heast
  | west => exact hwest
theorem queuesKept_held {s t : State} (h : queuesKept s t) : t.lane.heldOver = s.lane.heldOver := by
  obtain ⟨-, -, hheld, -⟩ := h
  exact hheld
theorem putSlot_queuesKept (s : State) (d : Dir) (v : Slot) : queuesKept s (putSlot s d v) := by cases d <;> exact queuesKept_refl s
theorem emit_queuesKept (s : State) (d : Dir) (m : Option Msg) : queuesKept s (emit s d m) := putSlot_queuesKept ..
theorem noteFar_queuesKept (s : State) (d : Dir) (b : Bool) : queuesKept s (noteFar s d b) := by cases d <;> exact queuesKept_refl s
theorem startMark_queuesKept (s : State) : queuesKept s (startMark s) := by unfold startMark; split <;> exact queuesKept_refl s

/-! ### Transparent forwarding and dropping -/

theorem arriveFull_transparent {s : State} (h : s.phase ≠ .normal) (port : Dir) (far : Bool) (m : Msg) :
    arriveFull s port far m = putSlot s (opp port) { farDown := far, msg := some m } := by
  simp [arriveFull, State.running, h, passThrough]

theorem arriveEmpty_transparent {s : State} (h : s.phase ≠ .normal) (port : Dir) (far : Bool) :
    arriveEmpty s port far = putSlot s (opp port) { farDown := far, msg := none } := by
  simp [arriveEmpty, State.running, h, passThrough]

/-- Outside normal running a slot arrival puts the slot out on the other side (R22). -/
theorem exec_transparent {c : Instr} {s : State} {port : Dir} {slot : Slot} (hc : slotOf c = some (port, slot)) (h : s.phase ≠ .normal) :
    exec c s = .next (putSlot s (opp port) slot) := by
  rw [exec_of_slotOf hc]
  obtain ⟨far, msg⟩ := slot
  cases msg with
  | some m => exact congrArg _ (arriveFull_transparent h port far m)
  | none => exact congrArg _ (arriveEmpty_transparent h port far)

/-- Settles O34: a transparent station puts the slot out on the other side and touches nothing else. -/
theorem transparentForwarding : Obligations.TransparentForwarding := by
  intro c s port slot hc hp
  exact ⟨_, exec_transparent hc hp, outOf_putSlot_same .., outOf_putSlot_opp .., putSlot_queuesKept .., far_putSlot .., far_putSlot ..,
    lastServed_putSlot .., putSlot_changesOnly _ _ _⟩

/-- A full slot's arrival is that of its message (log 28). -/
theorem exec_full {c : Instr} {port : Dir} {slot : Slot} {m : Msg} (hc : slotOf c = some (port, slot)) (hm : slot.msg = some m) (s : State) :
    exec c s = .next (arriveFull s port slot.farDown m) := by
  rw [exec_of_slotOf hc]
  obtain ⟨far, msg⟩ := slot
  obtain rfl : msg = some m := hm
  rfl

theorem running_of_normal {s : State} (h : s.phase = .normal) : s.running = true := by simp [State.running, h]

/-- Settles O35: on a wrapped side the slot's indication is noted and the side puts out an empty slot of the station's own. -/
theorem wrappedSideDrops : Obligations.WrappedSideDrops := by
  intro c s port slot m hc hm hp hw
  have hwrap : wrapped (noteFar s port slot.farDown) port = true := by
    rcases hw with h | h <;> simp [wrapped, noteFar_span, far_noteFar_same, h]
  have harr : arriveFull s port slot.farDown m = emit (noteFar s port slot.farDown) port none := by
    simp [arriveFull, running_of_normal hp, hwrap]
  refine ⟨_, (exec_full hc hm s).trans (congrArg _ harr), ?_, ?_, ?_, ?_, ?_, ?_, ?_⟩
  · rw [far_emit, far_noteFar_same]
  · rw [far_emit, far_noteFar_opp]
  · exact queuesKept_trans (noteFar_queuesKept ..) (emit_queuesKept ..)
  · simp
  · rw [outOf_emit_opp, outOf_noteFar]
  · rw [outOf_emit_same, noteFar_span]
  · exact changesOnly_trans (noteFar_changesOnly _ _ _) (emit_changesOnly _ _ _)

/-! ### Empty slots -/

/-- The place that the head has left goes to the oldest held-over HOLDLOST in the east queue (R12, R13). -/
theorem freePlace_headLeft (s : State) (d : Dir) (rest : List Msg) : headLeft s (freePlace s d rest) d rest := by
  cases d with
  | west => exact ⟨by simp [heldJoins, freePlace], rfl, rfl⟩
  | east =>
    by_cases hr : rest.length < 16
    · have he : freePlace s .east rest = (setQueue s .east rest).withLane { (setQueue s .east rest).lane with
          qEast := rest ++ s.lane.heldOver.take 1, heldOver := s.lane.heldOver.drop 1 } := joinHeldOver_free (setQueue s .east rest) hr
      rw [he]
      exact ⟨by simp [heldJoins, hr, State.queue], by simp only [heldJoins, hr, and_self, if_true]; exact List.take_append_drop 1 s.lane.heldOver, rfl⟩
    · have he : freePlace s .east rest = setQueue s .east rest := by
        unfold freePlace joinHeldOver
        dsimp only
        split
        · exact if_neg hr
        · rfl
      rw [he]
      exact ⟨by simp [heldJoins, hr], by simp [heldJoins, hr, setQueue], rfl⟩

/-- What follows the head's leaving touches the queues no more. -/
theorem headLeft_of_kept {s s' t t' : State} {d : Dir} {rest : List Msg} (hs : queuesKept s s') (ht : queuesKept t t')
    (h : headLeft s' t d rest) : headLeft s t' d rest := by
  obtain ⟨hq, hheld, hopp⟩ := h
  have hj : heldJoins s' d rest = heldJoins s d rest := by simp [heldJoins, queuesKept_held hs]
  refine ⟨?_, ?_, ?_⟩
  · rw [queuesKept_queue ht, hq, hj]
  · rw [← hj, queuesKept_held ht, hheld, queuesKept_held hs]
  · rw [queuesKept_queue ht, hopp, queuesKept_queue hs]

theorem startMark_clock {s : State} (h : s.clock.synced = true) : (startMark s).clock = { s.clock with markDeadline := some (s.nowMs + 10000) } := by
  simp [startMark, h, after, Config.markMs]

theorem placeHead_nil {s : State} {d : Dir} (side : Dir) (h : s.queue d = []) : placeHead s d side = emit s side none := by
  simp [placeHead, h]

/-- The head of a queue as it takes a slot on a side: stamped, and turned where it leaves on the other queue's side (R8, R13, R19). -/
def placed (s : State) (d side : Dir) (m : Msg) : Msg := if side = d then stamped s m else turned s (stamped s m)

theorem placeHead_cons {s : State} {d : Dir} {m : Msg} {rest : List Msg} (side : Dir) (h : s.queue d = m :: rest) :
    placeHead s d side = startMark (emit (freePlace s d rest) side (some (placed s d side m))) := by
  simp [placeHead, h, placed]

/-- The head of a queue has left in a slot on a side (R8, R12, R13, R30). -/
structure HeadPlaced (s t : State) (d side : Dir) (m : Msg) (rest : List Msg) : Prop where
  far : ∀ x, t.far x = s.far x
  lastServed : t.lane.lastServed = s.lane.lastServed
  out : outOf t side = { farDown := !(s.span side).up, msg := some (placed s d side m) }
  other : outOf t (opp side) = outOf s (opp side)
  left : headLeft s t d rest
  clock : s.clock.synced = true → t.clock = { s.clock with markDeadline := some (s.nowMs + 10000) }
  changes : changesOnly [.lane, .clock] s t

theorem placeHead_spec {s : State} {d : Dir} {m : Msg} {rest : List Msg} (side : Dir) (h : s.queue d = m :: rest) :
    HeadPlaced s (placeHead s d side) d side m rest := by
  rw [placeHead_cons side h]
  have hmark := startMark_shell (emit (freePlace s d rest) side (some (placed s d side m)))
  have hfree := freePlace_shell s d rest
  constructor
  · intro x
    rw [far_of_shell hmark, far_emit, far_of_shell hfree]
  · rw [lastServed_of_shell hmark, lastServed_emit, lastServed_of_shell hfree]
  · rw [outOf_of_shell hmark, outOf_emit_same, span_of_station (station_of_shell hfree)]
  · rw [outOf_of_shell hmark, outOf_emit_opp, outOf_of_shell hfree]
  · exact headLeft_of_kept (queuesKept_refl s) (queuesKept_trans (emit_queuesKept ..) (startMark_queuesKept _)) (freePlace_headLeft s d rest)
  · intro hs
    rw [startMark_clock (by simpa using hs)]
    simp
  · exact changesOnly_trans (changesOnly_mono (changesOnly_trans (freePlace_changesOnly _ _ _) (emit_changesOnly _ _ _)) (by decide))
      (changesOnly_mono (startMark_changesOnly _) (by decide))

/-- The same, seen from before the indication was noted. -/
theorem stamped_noteFar (s : State) (port : Dir) (b : Bool) (m : Msg) : stamped (noteFar s port b) m = stamped s m := by
  simp [stamped]

theorem queue_noteFar (s : State) (port d : Dir) (b : Bool) : (noteFar s port b).queue d = s.queue d :=
  queuesKept_queue (noteFar_queuesKept s port b) d

theorem exec_empty {s : State} (hp : s.phase = .normal) (port : Dir) :
    exec (.emptySlotArrival port false) s = .next (continueEmpty (noteFar s port false) port true) := by
  simp [exec, execEmptySlotArrival, arriveEmpty, running_of_normal hp]

/-- With no side wrapped an empty slot serves its direction's queue (R13). -/
theorem continueEmpty_open {s : State} {port : Dir} (h : wrapped s port = false) (ho : wrapped s (opp port) = false) :
    continueEmpty s port true = placeHead s (opp port) (opp port) := by
  simp [continueEmpty, h, ho]

/-- With the far side wrapped an empty slot folds: the far side puts out an empty slot and the two queues are served in turn (R20). -/
theorem continueEmpty_folded {s : State} {port : Dir} (h : wrapped s port = false) (ho : wrapped s (opp port) = true) :
    continueEmpty s port true = serveFolded (emit s (opp port) none) port := by
  simp [continueEmpty, h, ho]

end Sys2Proof.Machine

namespace Sys2Proof.Machine

theorem bothOpen_far_up {s : State} {port : Dir} (h : bothOpen s port) : (s.span (opp port)).up = true := by
  obtain ⟨-, -, hup, -⟩ := h
  exact hup

/-! ### Empty slots that serve a queue -/

theorem slotLeaves_emit {s : State} {port : Dir} (h : bothOpen s port) (m : Option Msg) :
    slotLeaves s (emit (noteFar s port false) (opp port) m) port m := by
  refine ⟨?_, ?_, ?_, ?_, ?_⟩
  · rw [far_emit, far_noteFar_same]
  · rw [far_emit, far_noteFar_opp]
  · rw [outOf_emit_same, noteFar_span, bothOpen_far_up h]; rfl
  · rw [outOf_emit_other, outOf_noteFar]
  · simp

/-- Both sides open, a message in the queue: the head leaves stamped (R8, R13). -/
theorem emptySlot_open_serves {s : State} {port : Dir} {m : Msg} {rest : List Msg} (h : bothOpen s port) (hq : s.queue (opp port) = m :: rest) :
    ∃ t, exec (.emptySlotArrival port false) s = .next t
      ∧ slotLeaves s t port (some (stamped s m))
      ∧ headLeft s t (opp port) rest
      ∧ (s.clock.synced = true → t.clock = { s.clock with markDeadline := some (s.nowMs + 10000) })
      ∧ changesOnly [.lane, .clock] s t := by
  obtain ⟨hopen, hoopen⟩ := open_not_wrapped s port h
  have hp := placeHead_spec (opp port) ((queue_noteFar s port (opp port) false).trans hq)
  refine ⟨_, (exec_empty h.1 port).trans (congrArg _ (continueEmpty_open hopen hoopen)), ⟨?_, ?_, ?_, ?_, ?_⟩, ?_, ?_, ?_⟩
  · rw [hp.far, far_noteFar_same]
  · rw [hp.far, far_noteFar_opp]
  · rw [hp.out, noteFar_span, bothOpen_far_up h, placed, if_pos rfl, stamped_noteFar]; rfl
  · simpa using hp.other
  · rw [hp.lastServed, lastServed_noteFar]
  · exact headLeft_of_kept (noteFar_queuesKept s port false) (queuesKept_refl _) hp.left
  · intro hs
    rw [hp.clock (by simpa using hs)]
    simp
  · exact changesOnly_trans (changesOnly_mono (noteFar_changesOnly s port false) (by decide)) hp.changes

/-- Both sides open, no message in the queue: the slot goes on empty (R13). -/
theorem emptySlot_open_empty {s : State} {port : Dir} (h : bothOpen s port) (hq : s.queue (opp port) = []) :
    ∃ t, exec (.emptySlotArrival port false) s = .next t ∧ slotLeaves s t port none ∧ queuesKept s t ∧ changesOnly [.lane] s t := by
  obtain ⟨hopen, hoopen⟩ := open_not_wrapped s port h
  refine ⟨_, (exec_empty h.1 port).trans (congrArg _ (continueEmpty_open hopen hoopen)), ?_⟩
  rw [placeHead_nil (opp port) ((queue_noteFar s port (opp port) false).trans hq)]
  exact ⟨slotLeaves_emit h none, queuesKept_trans (noteFar_queuesKept ..) (emit_queuesKept ..),
    changesOnly_trans (noteFar_changesOnly s port false) (emit_changesOnly _ _ _)⟩

/-- The state in which a folded slot serves the queues: the indication noted, an empty slot put out on the wrapped far side (R18, R20). -/
def foldedAt (s : State) (port : Dir) : State := emit (noteFar s port false) (opp port) none

theorem queue_foldedAt (s : State) (port d : Dir) : (foldedAt s port).queue d = s.queue d :=
  queuesKept_queue (queuesKept_trans (noteFar_queuesKept s port false) (emit_queuesKept _ (opp port) none)) d

theorem open_port_not_wrapped {s : State} {port : Dir} (hu : (s.span port).up = true) : wrapped (noteFar s port false) port = false := by
  simp [wrapped, noteFar_span, hu, far_noteFar_same]

theorem wrapped_of_farWrapped {s : State} {port : Dir} (h : farWrapped s port) : wrapped (noteFar s port false) (opp port) = true := by
  rcases h with h | h <;> simp [wrapped, noteFar_span, far_noteFar_opp, h]

theorem exec_empty_folded {s : State} {port : Dir} (hp : s.phase = .normal) (hu : (s.span port).up = true) (hw : farWrapped s port) :
    exec (.emptySlotArrival port false) s = .next (serveFolded (foldedAt s port) port) :=
  (exec_empty hp port).trans (congrArg _ (continueEmpty_folded (open_port_not_wrapped hu) (wrapped_of_farWrapped hw)))

/-- The queue of a folded slot: the one that did not take the last, or the only one with a message waiting (R20). -/
theorem foldedChoice_cons {s : State} {d : Dir} {m : Msg} {rest : List Msg} (hq : s.queue d = m :: rest)
    (hd : d = opp s.lane.lastServed ∨ (d = s.lane.lastServed ∧ s.queue (opp s.lane.lastServed) = [])) : foldedChoice s = some d := by
  rcases hd with rfl | ⟨rfl, he⟩
  · simp [foldedChoice, hq]
  · simp [foldedChoice, hq, he]

theorem foldedChoice_nil {s : State} (he : s.queue .east = []) (hw : s.queue .west = []) : foldedChoice s = none := by
  have hall : ∀ d, s.queue d = [] := fun d => by cases d <;> assumption
  simp [foldedChoice, hall]

theorem serveFolded_none {s : State} {side : Dir} (h : foldedChoice s = none) : serveFolded s side = emit s side none := by
  simp [serveFolded, h]

theorem serveFolded_some {s : State} {side d : Dir} (h : foldedChoice s = some d) :
    serveFolded s side = placeHead (s.withLane { s.lane with lastServed := d }) d side := by
  simp [serveFolded, h]

/-- The head that a folded slot takes: turned at placement where it is the wrapped side's (R19, R20). -/
theorem placed_folded (s : State) (d side : Dir) (m : Msg) :
    placed s d side m = { m with hdr := { m.hdr with
      stamp := s.clock.seconds, unsynced := !s.clock.synced, hops := 0,
      wraps := if d = side then 0 else 1, firstWrap := if d = side then none else some s.self } } := by
  by_cases h : d = side
  · subst h
    simp [placed, stamped]
  · simp [placed, h, Ne.symm h, stamped, turned, State.self]

/-- A folded slot takes the head of the queue whose turn it is (R19, R20). -/
theorem emptySlot_folded_serves {s : State} {port d : Dir} {m : Msg} {rest : List Msg} (hp : s.phase = .normal) (hu : (s.span port).up = true)
    (hw : farWrapped s port) (hq : s.queue d = m :: rest)
    (hd : d = opp s.lane.lastServed ∨ (d = s.lane.lastServed ∧ s.queue (opp s.lane.lastServed) = [])) :
    ∃ t, exec (.emptySlotArrival port false) s = .next t
      ∧ t.lane.lastServed = d
      ∧ headLeft s t d rest
      ∧ outOf t (opp port) = { farDown := !(s.span (opp port)).up, msg := none }
      ∧ outOf t port = { farDown := false, msg := some (placed s d port m) }
      ∧ (s.clock.synced = true → t.clock = { s.clock with markDeadline := some (s.nowMs + 10000) })
      ∧ changesOnly [.lane, .clock] s t := by
  have hlast : (foldedAt s port).lane.lastServed = s.lane.lastServed := by simp [foldedAt]
  have hchoice : foldedChoice (foldedAt s port) = some d :=
    foldedChoice_cons ((queue_foldedAt s port d).trans hq) (by rw [hlast, queue_foldedAt]; exact hd)
  have hserved : ((foldedAt s port).withLane { (foldedAt s port).lane with lastServed := d }).queue d = m :: rest := by
    cases d <;> exact (queue_foldedAt s port _).trans hq
  have hh := placeHead_spec port hserved
  have hspan : ∀ x, (foldedAt s port).span x = s.span x := fun x => by rw [foldedAt, span_emit, noteFar_span]
  refine ⟨_, (exec_empty_folded hp hu hw).trans (congrArg _ (serveFolded_some hchoice)), ?_, ?_, ?_, ?_, ?_, ?_⟩
  · exact hh.lastServed
  · exact headLeft_of_kept (queuesKept_trans (noteFar_queuesKept s port false) (emit_queuesKept _ (opp port) none)) (queuesKept_refl _) hh.left
  · rw [hh.other]
    exact (outOf_emit_same (noteFar s port false) (opp port) none).trans (by rw [noteFar_span])
  · rw [hh.out]
    have hup : (((foldedAt s port).withLane { (foldedAt s port).lane with lastServed := d }).span port).up = true :=
      (congrArg SpanMon.up (hspan port)).trans hu
    rw [hup, placed_folded, placed_folded]
    simp [foldedAt, State.self]
  · intro hs
    rw [hh.clock (by simpa [foldedAt] using hs)]
    simp [foldedAt]
  · exact changesOnly_trans (changesOnly_mono (changesOnly_trans (noteFar_changesOnly s port false)
      (changesOnly_trans (emit_changesOnly _ _ _) (withLane_changesOnly _ _))) (by decide)) hh.changes

/-- A folded slot with both queues empty goes on empty (R20). -/
theorem emptySlot_folded_empty {s : State} {port : Dir} (hp : s.phase = .normal) (hu : (s.span port).up = true) (hw : farWrapped s port)
    (hqe : s.queue .east = []) (hqw : s.queue .west = []) :
    ∃ t, exec (.emptySlotArrival port false) s = .next t
      ∧ t.lane.lastServed = s.lane.lastServed ∧ queuesKept s t
      ∧ outOf t (opp port) = { farDown := !(s.span (opp port)).up, msg := none }
      ∧ outOf t port = { farDown := false, msg := none }
      ∧ changesOnly [.lane] s t := by
  have hchoice : foldedChoice (foldedAt s port) = none :=
    foldedChoice_nil ((queue_foldedAt s port _).trans hqe) ((queue_foldedAt s port _).trans hqw)
  refine ⟨_, (exec_empty_folded hp hu hw).trans (congrArg _ (serveFolded_none hchoice)), ?_, ?_, ?_, ?_, ?_⟩
  · simp [foldedAt]
  · exact queuesKept_trans (queuesKept_trans (noteFar_queuesKept ..) (emit_queuesKept ..)) (emit_queuesKept ..)
  · rw [outOf_emit_opp, foldedAt, outOf_emit_same, noteFar_span]
  · rw [outOf_emit_same, foldedAt, span_emit, noteFar_span, hu]; rfl
  · exact changesOnly_trans (changesOnly_trans (noteFar_changesOnly s port false) (emit_changesOnly _ _ _)) (emit_changesOnly _ _ _)

/-- Settles O36, clause by clause: open with a message, open without, folded with one, folded without. -/
theorem emptySlotServes : Obligations.EmptySlotServes := by
  refine ⟨fun s port m rest h hq => emptySlot_open_serves h hq, fun s port h hq => emptySlot_open_empty h hq, ?_,
    fun s port hp hu hw hqe hqw => emptySlot_folded_empty hp hu hw hqe hqw⟩
  intro s port d m rest hp hu hw hq hd
  rw [← placed_folded]
  exact emptySlot_folded_serves hp hu hw hq hd

/-! ### Full slots that pass, turn or are discarded -/

@[simp] theorem self_noteFar (s : State) (port : Dir) (b : Bool) : (noteFar s port b).self = s.self := by simp [State.self]
@[simp] theorem ring_noteFar (s : State) (port : Dir) (b : Bool) : (noteFar s port b).ring = s.ring := by simp [State.ring]

/-- Acting on a message writes no field of its header (R15, R17). -/
theorem act_msg (s : State) (port : Dir) (m : Msg) : (act s port m).2 = { hdr := m.hdr, body := (act s port m).2.body } := by
  unfold act; split <;> rfl

/-- The block that acts on a message reads neither its wrap count nor its first wrap station. -/
theorem act_wraps (s : State) (port : Dir) (m : Msg) (w : Nat) (f : Option Nat) :
    act s port { m with hdr := { m.hdr with wraps := w, firstWrap := f } }
      = ((act s port m).1, { (act s port m).2 with hdr := { (act s port m).2.hdr with wraps := w, firstWrap := f } }) := by
  obtain ⟨hdr, body⟩ := m
  cases body with
  | bridge k on drops => cases on <;> rfl
  | _ => rfl

/-- A MARK and a message of unknown kind are acted on by no block (R30, R203). -/
theorem act_inert {m : Msg} (h : m.body = .mark ∨ ∃ kind bytes, m.body = .unknown kind bytes) (s : State) (port : Dir) :
    act s port m = (s, m) := by
  obtain ⟨hdr, body⟩ := m
  rcases h with h | ⟨kind, bytes, h⟩ <;> (subst h; rfl)

theorem forward_open {s : State} {port : Dir} (h : wrapped s (opp port) = false) (m : Msg) :
    forward s port m = emit s (opp port) (some m) := by simp [forward, h]

theorem forward_turns {s : State} {port : Dir} {m : Msg} (h : wrapped s port = false) (ho : wrapped s (opp port) = true) (hw : m.hdr.wraps < 2) :
    forward s port m = emit (emit s (opp port) none) port (some (turned s m)) := by
  have : ¬ 3 ≤ m.hdr.wraps + 1 := by omega
  simp [forward, h, ho, this]

theorem forward_discards {s : State} {port : Dir} {m : Msg} (ho : wrapped s (opp port) = true) (hw : m.hdr.wraps = 2) :
    forward s port m = continueEmpty s port true := by simp [forward, ho, hw]

section Handle
variable {s : State} {port : Dir} {m : Msg}

theorem notStripped_test (hn : notStripped s port m.hdr) : ¬ ((decide (m.hdr.origin = s.self) && decide (m.hdr.sentDir = opp port)) = true) := by
  rcases hn with h | h <;> simp [h]

theorem handleFull_hopLimit (hn : notStripped s port m.hdr) (hh : 2 * s.ring ≤ m.hdr.hops + 1) : handleFull s port m = continueEmpty s port true := by
  unfold handleFull
  rw [if_neg (notStripped_test hn), if_pos hh]

theorem handleFull_circled (hn : notStripped s port m.hdr) (hc : circled s port m.hdr) : handleFull s port m = continueEmpty s port true := by
  unfold handleFull
  rw [if_neg (notStripped_test hn)]
  split
  · rfl
  · rw [if_pos (by simpa [circled, and_assoc] using hc)]

/-- A message that is neither stripped nor discarded is acted on at first sight, and forwarded (R14 to R17, R21). -/
theorem handleFull_passes (hn : notStripped s port m.hdr) (hh : m.hdr.hops + 1 < 2 * s.ring) (hc : ¬ circled s port m.hdr) :
    handleFull s port m
      = if firstSight s m.hdr then forward (act s port (hopped m)).1 port (act s port (hopped m)).2 else forward s port (hopped m) := by
  unfold handleFull
  rw [if_neg (notStripped_test hn), if_neg (by omega), if_neg (by simpa [circled, and_assoc] using hc)]

theorem firstSight_twice (h : m.hdr.wraps = 2) : firstSight s m.hdr = false := by simp [firstSight, h]

theorem firstSight_once {w : Nat} (h : m.hdr.wraps = 1) (hf : m.hdr.firstWrap = some w) :
    firstSight s m.hdr = !onArc s.ring m.hdr.sentDir m.hdr.origin w s.self := by simp [firstSight, h, hf]

end Handle

/-- The three tests of a full slot read nothing that noting the indication writes. -/
theorem notStripped_noteFar {s : State} {port : Dir} {h : Header} : notStripped (noteFar s port false) port h ↔ notStripped s port h := by
  simp [notStripped]
theorem circled_noteFar {s : State} {port : Dir} {h : Header} : circled (noteFar s port false) port h ↔ circled s port h := by simp [circled]
theorem firstSight_noteFar (s : State) (port : Dir) (h : Header) : firstSight (noteFar s port false) h = firstSight s h := by
  simp [firstSight]

section Arrival
variable {s : State} {port : Dir} {c : Instr} {m : Msg}

theorem exec_arrives (hc : slotOf c = some (port, { farDown := false, msg := some m })) (ha : arrivesOpen s port m.hdr) :
    exec c s = .next (handleFull (noteFar s port false) port m) :=
  (exec_full hc rfl s).trans (congrArg _ (arriveFull_arrives s port m ha))

/-- A discarded message's slot goes on as an arriving empty slot does (R13). -/
theorem goesOnEmpty_of_discarded (hc : slotOf c = some (port, { farDown := false, msg := some m })) (ha : arrivesOpen s port m.hdr)
    (hd : handleFull (noteFar s port false) port m = continueEmpty (noteFar s port false) port true) : goesOnEmpty s port c :=
  ⟨_, (exec_arrives hc ha).trans (congrArg _ hd), exec_empty ha.1 port⟩

/-- With both sides open, a message past the discards that no block acts on leaves with its hop count raised alone (R15 to R17). -/
theorem passesOn_without_act (hc : slotOf c = some (port, { farDown := false, msg := some m })) (ho : bothOpen s port) (hs : stampOld s m.hdr)
    (hd : handleFull (noteFar s port false) port m = forward (noteFar s port false) port (hopped m)) :
    ∃ t, exec c s = .next t ∧ passedOn s t port m.hdr m.body ∧ queuesKept s t ∧ changesOnly [.lane] s t := by
  refine ⟨_, (exec_arrives hc ⟨ho.1, ho.2.1, hs⟩).trans (congrArg _ (hd.trans (forward_open (open_not_wrapped s port ho).2 _))), ?_, ?_, ?_⟩
  · exact slotLeaves_emit ho _
  · exact queuesKept_trans (noteFar_queuesKept ..) (emit_queuesKept ..)
  · exact changesOnly_trans (noteFar_changesOnly s port false) (emit_changesOnly _ _ _)

/-- A message of no block that passes at first sight leaves with its hop count raised alone (R30, R203). -/
theorem passesOn_inert (hc : slotOf c = some (port, { farDown := false, msg := some m })) (hp : passes s port m.hdr)
    (hb : m.body = .mark ∨ ∃ kind bytes, m.body = .unknown kind bytes) :
    ∃ t, exec c s = .next t ∧ passedOn s t port m.hdr m.body ∧ queuesKept s t ∧ changesOnly [.lane] s t := by
  obtain ⟨ho, hs, horig, hhops, hwraps⟩ := hp
  refine passesOn_without_act hc ho hs ?_
  have hn : notStripped (noteFar s port false) port m.hdr := .inl (by simpa using horig)
  have hcirc : ¬ circled (noteFar s port false) port m.hdr := fun h => by simp [h.1] at hwraps
  have hact : act (noteFar s port false) port (hopped m) = (noteFar s port false, hopped m) := act_inert (m := hopped m) hb _ _
  rw [handleFull_passes hn (by simpa using hhops) hcirc, hact, ite_self]

/-- At a wrapped far side a message of no block is turned at its first or second wrap (R17, R19). -/
theorem turnedBack_inert (hc : slotOf c = some (port, { farDown := false, msg := some m })) (ha : arrivesOpen s port m.hdr)
    (hn : notStripped s port m.hdr) (hh : m.hdr.hops + 1 < 2 * s.ring) (hf : farWrapped s port) (hw : m.hdr.wraps < 2)
    (hcirc : ¬ circled s port m.hdr) (hb : m.body = .mark ∨ ∃ kind bytes, m.body = .unknown kind bytes) :
    ∃ t, exec c s = .next t ∧ turnedBack s t port m.hdr m.body ∧ queuesKept s t ∧ changesOnly [.lane] s t := by
  have hact : act (noteFar s port false) port (hopped m) = (noteFar s port false, hopped m) := act_inert (m := hopped m) hb _ _
  have hd : handleFull (noteFar s port false) port m = emit (foldedAt s port) port (some (turned (noteFar s port false) (hopped m))) := by
    rw [handleFull_passes (notStripped_noteFar.mpr hn) (by simpa using hh) (circled_noteFar.not.mpr hcirc), hact, ite_self]
    exact forward_turns (open_port_not_wrapped ha.2.1) (wrapped_of_farWrapped hf) hw
  refine ⟨_, (exec_arrives hc ha).trans (congrArg _ hd), ⟨?_, ?_, ?_, ?_, ?_⟩, ?_, ?_⟩
  · rw [far_emit, foldedAt, far_emit, far_noteFar_same]
  · rw [far_emit, foldedAt, far_emit, far_noteFar_opp]
  · simp [foldedAt]
  · rw [outOf_emit_same, foldedAt, span_emit, noteFar_span, ha.2.1]
    simp [turned, hopped]
  · rw [outOf_emit_opp, foldedAt, outOf_emit_same, noteFar_span]
  · exact queuesKept_trans (queuesKept_trans (noteFar_queuesKept ..) (emit_queuesKept ..)) (emit_queuesKept ..)
  · exact changesOnly_trans (changesOnly_trans (noteFar_changesOnly s port false) (emit_changesOnly _ _ _)) (emit_changesOnly _ _ _)

/-- A message acted on with both sides open leaves on the far side of the state that its block has left (R16, R17). -/
theorem exec_acts (hc : slotOf c = some (port, { farDown := false, msg := some m })) (ho : bothOpen s port) (ha : arrivesOpen s port m.hdr)
    (hn : notStripped s port m.hdr) (hh : m.hdr.hops + 1 < 2 * s.ring) (hcirc : ¬ circled s port m.hdr) (hf : firstSight s m.hdr = true) :
    exec c s = .next (emit (act (noteFar s port false) port (hopped m)).1 (opp port) (some (act (noteFar s port false) port (hopped m)).2)) := by
  rw [exec_arrives hc ha, handleFull_passes (notStripped_noteFar.mpr hn) (by simpa using hh) (circled_noteFar.not.mpr hcirc),
    firstSight_noteFar, if_pos hf, forward_open ((wrapped_of_shell (act_shell ..) _).trans (open_not_wrapped s port ho).2)]

theorem putSlot_putSlot (s : State) (d : Dir) (v w : Slot) : putSlot (putSlot s d v) d w = putSlot s d w := by cases d <;> rfl

/-- A message once turned, off the arc to its first wrap station, is acted on just as one never turned is (R16). -/
theorem actsAs_unturned {c₀ : Instr} {w : Nat} (hc : slotOf c = some (port, { farDown := false, msg := some m }))
    (hc₀ : slotOf c₀ = some (port, { farDown := false, msg := some { m with hdr := { m.hdr with wraps := 0, firstWrap := none } } }))
    (ho : bothOpen s port) (ha : arrivesOpen s port m.hdr) (hn : notStripped s port m.hdr) (hh : m.hdr.hops + 1 < 2 * s.ring)
    (hw : m.hdr.wraps = 1) (hfw : m.hdr.firstWrap = some w) (harc : onArc s.ring m.hdr.sentDir m.hdr.origin w s.self = false) :
    ∃ t t₀ b, exec c s = .next t ∧ exec c₀ s = .next t₀
      ∧ outOf t (opp port) = { farDown := false, msg := some { hdr := { m.hdr with hops := m.hdr.hops + 1 }, body := b } }
      ∧ outOf t₀ (opp port) = { farDown := false, msg := some {
          hdr := { m.hdr with hops := m.hdr.hops + 1, wraps := 0, firstWrap := none }, body := b } }
      ∧ t = putSlot t₀ (opp port) (outOf t (opp port)) := by
  have hcirc : ¬ circled s port m.hdr := by
    rintro ⟨-, hself, -⟩
    obtain rfl : w = s.self := by simpa [hfw] using hself
    simp [onArc] at harc
  have hexec := exec_acts hc ho ha hn hh hcirc (by rw [firstSight_once hw hfw, harc]; rfl)
  have hexec₀ := exec_acts hc₀ ho ha hn hh (fun h => by simp [circled] at h) (by simp [firstSight])
  have hact := act_wraps (noteFar s port false) port (hopped m) 0 none
  have hopped₀ : hopped { m with hdr := { m.hdr with wraps := 0, firstWrap := none } }
      = { hopped m with hdr := { (hopped m).hdr with wraps := 0, firstWrap := none } } := rfl
  have hup : ((act (noteFar s port false) port (hopped m)).1.span (opp port)).up = true := by
    rw [span_of_station (station_of_shell (act_shell ..)), noteFar_span, bothOpen_far_up ho]
  have hmsg := act_msg (noteFar s port false) port (hopped m)
  rw [hopped₀, hact] at hexec₀
  refine ⟨_, _, (act (noteFar s port false) port (hopped m)).2.body, hexec, hexec₀, ?_, ?_, ?_⟩
  · rw [outOf_emit_same, hup, hmsg]; rfl
  · rw [outOf_emit_same, hup, hmsg]; rfl
  · rw [outOf_emit_same, emit, emit, putSlot_putSlot]

end Arrival

/-- Settles O37: the inert messages that pass, then for a message not stripped its discards, its turning, and the two kinds of passing. -/
theorem passingWithoutEffect : Obligations.PassingWithoutEffect := by
  refine ⟨fun s port h hp => ⟨passesOn_inert (m := { hdr := h, body := .mark }) rfl hp (.inl rfl), fun kind bytes =>
    passesOn_inert (m := { hdr := h, body := .unknown kind bytes }) rfl hp (.inr ⟨kind, bytes, rfl⟩)⟩, ?_⟩
  intro s port c m hc ha hn
  have hn' := notStripped_noteFar.mpr hn
  refine ⟨fun hh => goesOnEmpty_of_discarded hc ha (handleFull_hopLimit hn' (by simpa using hh)), fun hh => ⟨?_, ?_, ?_, ?_, ?_⟩⟩
  · exact fun hcirc => goesOnEmpty_of_discarded hc ha (handleFull_circled hn' (circled_noteFar.mpr hcirc))
  · intro hf hw
    have hcirc : ¬ circled (noteFar s port false) port m.hdr := fun h => by simp [h.1] at hw
    refine goesOnEmpty_of_discarded hc ha ?_
    rw [handleFull_passes hn' (by simpa using hh) hcirc, firstSight_twice hw]
    exact forward_discards (wrapped_of_farWrapped hf) hw
  · exact fun hf hw hcirc hb => turnedBack_inert hc ha hn hh hf hw hcirc hb
  · intro ho hcirc hpass
    refine passesOn_without_act hc ho ha.2.2 ?_
    have hsight : firstSight (noteFar s port false) m.hdr = false := by
      rw [firstSight_noteFar]
      rcases hpass with hw | ⟨w, hw, hfw, harc⟩
      · exact firstSight_twice hw
      · rw [firstSight_once hw hfw, harc]; rfl
    rw [handleFull_passes hn' (by simpa using hh) (circled_noteFar.not.mpr hcirc), hsight]
    rfl
  · exact fun c₀ w ho hw hfw harc hc₀ => actsAs_unturned hc hc₀ ho ha hn hh hw hfw harc

end Sys2Proof.Machine

namespace Sys2Proof.Machine

/-! ### Cold values -/

theorem placeAt_replicate_none {α : Type} (n i : Nat) : placeAt (List.replicate n (none : Option α)) i = none := by
  unfold placeAt
  rw [List.getElem?_replicate]
  split <;> rfl

/-- A table whose places all hold one value reads as that value, within it and beyond. -/
theorem getElem?_replicate_getD {α : Type} (n i : Nat) (a : α) : ((List.replicate n a)[i]?).getD a = a := by
  rw [List.getElem?_replicate]
  split <;> rfl

theorem reset_entry (i : Nat) : State.reset.entry i = none := placeAt_replicate_none 64 i
theorem reset_slot (n : Nat) : State.reset.slot n = none := placeAt_replicate_none 8 n
theorem reset_record (r : Nat) : State.reset.record r = none := placeAt_replicate_none 16 r
theorem reset_cell (d : Dir) (lane : Nat) : State.reset.cell d lane = Cell.reset := getElem?_replicate_getD 48 (cellAt d lane) Cell.reset
theorem reset_output (p : Nat) : State.reset.output p = Output.reset := getElem?_replicate_getD 8 p Output.reset
theorem reset_mon (port : Dir) (lane : Nat) : State.reset.mon port lane = LaneMon.reset :=
  getElem?_replicate_getD 48 (monAt port lane) LaneMon.reset
theorem reset_span (side : Dir) : State.reset.span side = SpanMon.reset := by cases side <;> rfl

/-- Settles O2: every table of the reset state reads as its cold value, and a cold reset writes that state but for what stays (log 10). -/
theorem resetIsCold : Obligations.ResetIsCold := by
  refine ⟨rfl, rfl, ⟨rfl, rfl, rfl, rfl, rfl⟩, reset_entry, reset_slot, rfl, rfl, ⟨rfl, rfl, rfl, rfl, rfl, rfl, rfl, rfl, rfl, rfl⟩,
    reset_cell, ?_, ?_, reset_span, rfl, rfl, rfl, rfl, reset_record, ⟨rfl, rfl, rfl, rfl, rfl⟩, fun s => rfl⟩
  · intro p
    rw [reset_output]
    exact ⟨rfl, rfl, rfl⟩
  · intro port lane
    rw [reset_mon]
    exact ⟨rfl, rfl, rfl, rfl, rfl, rfl⟩

/-! ### Start-up -/

theorem clamp_bounds {lo hi : Nat} (h : lo ≤ hi) (v : Nat) : lo ≤ clamp lo hi v ∧ clamp lo hi v ≤ hi := by unfold clamp; omega

/-- An image that passes the tests of R201 has a ring size of 2 to 16 and a station number below it. -/
theorem loadTest_none {image : List Byte} (h : loadTest image = none) :
    fieldAt image 0 1 < fieldAt image 1 1 ∧ 2 ≤ fieldAt image 1 1 ∧ fieldAt image 1 1 ≤ 16 := by
  unfold loadTest at h
  split_ifs at h with _ hring hstation
  simp only [Bool.or_eq_true, decide_eq_true_eq] at hring
  omega

/-- The configuration as used lies within the ranges of Table 11-4 (R200, R201). -/
theorem loadCfg_ranges {image : List Byte} (h : loadTest image = none) :
    (loadCfg image).station < (loadCfg image).ringSize ∧ 2 ≤ (loadCfg image).ringSize ∧ (loadCfg image).ringSize ≤ 16
      ∧ (loadCfg image).holdOff ≤ 100 ∧ 1 ≤ (loadCfg image).restoreWait ∧ (loadCfg image).restoreWait ≤ 30
      ∧ 1 ≤ (loadCfg image).threshold ∧ (loadCfg image).threshold ≤ 8000 ∧ (loadCfg image).tariffs.length = 8
      ∧ ∀ x ∈ (loadCfg image).tariffs, x.minimum ≤ 100 := by
  obtain ⟨hstation, hlow, hhigh⟩ := loadTest_none h
  have hhold := clamp_bounds (show 0 ≤ 100 by decide) (fieldAt image 2 1)
  have hrestore := clamp_bounds (show 1 ≤ 30 by decide) (fieldAt image 3 1)
  have hthreshold := clamp_bounds (show 1 ≤ 8000 by decide) (fieldAt image 4 2)
  refine ⟨hstation, hlow, hhigh, hhold.2, hrestore.1, hrestore.2, hthreshold.1, hthreshold.2, by simp [loadCfg], ?_⟩
  intro x hx
  obtain ⟨c, -, rfl⟩ := List.mem_map.mp hx
  exact (clamp_bounds (show 0 ≤ 100 by decide) _).2

theorem exec_load {s : State} (h : s.phase = .loading) (image : List Byte) : exec (.configurationLoad image) s = .next (endLoad s image) := by
  simp [exec, execConfigurationLoad, h]

theorem followInputs_changesOnly (s : State) : changesOnly [.mons] s (followInputs s) := withMons_changesOnly _ _
theorem startReceiver_changesOnly (s : State) : changesOnly [.site] s (startReceiver s) := withSite_changesOnly _ _

/-- What every load begins with: the monitors follow their inputs and the receiver hunts (R129, R134, R192). -/
theorem loadBegins_changesOnly (s : State) : changesOnly [.mons, .site] s (startReceiver (followInputs s)) :=
  changesOnly_trans (changesOnly_mono (followInputs_changesOnly s) (by decide)) (changesOnly_mono (startReceiver_changesOnly _) (by decide))

/-- A good load in one equation (R5, R134, R199 to R201). -/
theorem endLoad_good {s : State} {image : List Byte} (h : loadTest image = none) :
    endLoad s image = startOutputs (((startReceiver (followInputs s)).withPhase .normal).withCfg (loadCfg image)) := by simp [endLoad, h]

theorem endLoad_bad {s : State} {image : List Byte} {cause : BypassCause} (h : loadTest image = some cause) :
    endLoad s image = (startReceiver (followInputs s)).withPhase (.bypass cause) := by simp [endLoad, h]

/-- A good load starts normal running with both spans Down, so both outputs carry generated slots with the indication set (R5, R18, R20). -/
theorem goodLoad {s : State} {image : List Byte} (hp : s.phase = .loading) (hload : loadTest image = none) :
    ∃ t, exec (.configurationLoad image) s = .next t
      ∧ t.phase = .normal ∧ t.cfg = loadCfg image ∧ t.site = { s.site with rx := .hunting }
      ∧ (t.span .east).up = false ∧ (t.span .west).up = false
      ∧ (t.span .east).confirm = (if s.pins.lightEast && s.pins.framingEast then some (s.nowMs + 2000) else none)
      ∧ (t.span .west).confirm = (if s.pins.lightWest && s.pins.framingWest then some (s.nowMs + 2000) else none)
      ∧ (∀ d, outOf t d = { farDown := true, msg := none } ∧ t.far d = s.far d) ∧ queuesKept s t ∧ t.lane.lastServed = s.lane.lastServed
      ∧ changesOnly [.phase, .cfg, .lane, .mons, .site] s t := by
  refine ⟨_, (exec_load hp image).trans (congrArg _ (endLoad_good hload)), rfl, rfl, rfl, rfl, rfl, rfl, rfl, ?_, ⟨rfl, rfl, rfl, rfl⟩, rfl, ?_⟩
  · intro d
    cases d <;> exact ⟨rfl, rfl⟩
  · exact changesOnly_trans (changesOnly_mono (loadBegins_changesOnly s) (by decide))
      (changesOnly_trans (changesOnly_mono (withPhase_changesOnly _ _) (by decide))
        (changesOnly_trans (changesOnly_mono (withCfg_changesOnly _ _) (by decide))
          (changesOnly_mono (changesOnly_trans (emit_changesOnly _ _ _) (emit_changesOnly _ _ _)) (by decide))))

/-- A failed test gives bypass with its cause (R22, R201). -/
theorem badLoad {s : State} {image : List Byte} {cause : BypassCause} (hp : s.phase = .loading) (hload : loadTest image = some cause) :
    ∃ t, exec (.configurationLoad image) s = .next t
      ∧ t.phase = .bypass cause ∧ t.site = { s.site with rx := .hunting } ∧ changesOnly [.phase, .mons, .site] s t :=
  ⟨_, (exec_load hp image).trans (congrArg _ (endLoad_bad hload)), rfl, rfl,
    changesOnly_trans (changesOnly_mono (loadBegins_changesOnly s) (by decide)) (changesOnly_mono (withPhase_changesOnly _ _) (by decide))⟩

/-- Settles O33: the pin's release, the two ends of a load, the ranges of the configuration as used, and the two blank images. -/
theorem startUp : Obligations.StartUp := by
  refine ⟨fun s h => by simp [exec, execResetPinRelease, h]; rfl, fun s image => goodLoad, fun s image cause => badLoad,
    fun image => loadCfg_ranges, ?_, ?_⟩ <;> decide +kernel

/-! ### Requests that the port takes -/

/-- A request that the port is ready for, with parameters of the right count, is handled and answered in the reply place (R193, R194). -/
theorem siteRequest_ready {s : State} (h : portReady s) (tag : Byte) {code : Byte} {params : List Byte} (hl : lengthOk code params.length = true)
    (handle : State → Answer) :
    siteRequest s tag code params handle = (handle s).state.withSite { (handle s).state.site with
      reply := some { tag := tag, code := code, status := (handle s).status, data := (handle s).data } } := by
  obtain ⟨⟨hrx, hreply, hrestart⟩, hp⟩ := h
  simp [siteRequest, takeRequest, hrx, isOccupied, hreply, hrestart, checked, hl, hp, Phase.isBypass]

/-- A request answered with a state: that state with the reply in the reply place. -/
theorem siteRequest_answered {s u : State} (h : portReady s) (tag : Byte) {code : Byte} {params : List Byte} {x : Status} {data : ReplyData}
    (hl : lengthOk code params.length = true) {handle : State → Answer} (ha : handle s = { state := u, status := x, data := data }) :
    siteRequest s tag code params handle = u.withSite { u.site with
      reply := some { tag := tag, code := code, status := x, data := data } } := by
  rw [siteRequest_ready h tag hl, ha]

/-- A request turned down leaves its reply and nothing else. -/
theorem siteRequest_turnDown {s : State} (h : portReady s) (tag : Byte) {code : Byte} {params : List Byte} {x : Status}
    (hl : lengthOk code params.length = true) {handle : State → Answer} (ha : handle s = turnDown s x) :
    siteRequest s tag code params handle = onlyReply s tag code x .none :=
  siteRequest_answered h tag hl ha

/-- A request handled with the site port as it was has its reply as `repliesWith` says. -/
theorem repliesWith_of_site {s u : State} (tag code : Byte) (x : Status) (data : ReplyData) (h : u.site = s.site) :
    repliesWith s (u.withSite { u.site with reply := some { tag := tag, code := code, status := x, data := data } }) tag code x data := by
  simp [repliesWith, h]

/-! ### RemoteRead -/

theorem joins_joinCounted (s : State) (b : Body) : joins s (joinCounted s b) .east s.lane.counter b := ⟨rfl, rfl⟩

theorem joinCounted_changesOnly (s : State) (b : Body) : changesOnly [.lane] s (joinCounted s b) :=
  changesOnly_trans (join_changesOnly s .east _ b) (withLane_changesOnly _ _)

section RemoteRead
variable {s : State} {params : List Byte}

/-- A RemoteRead whose target, match id and clock pass goes by the pending query and the queue alone (R189). -/
theorem handleRemoteRead_checked (ht : fieldAt params 0 1 < s.ring) (hs : fieldAt params 0 1 ≠ s.self) (hm : fieldAt params 1 3 ≠ 0)
    (hsync : s.clock.synced = true) :
    handleRemoteRead params s
      = if s.bill.query.isSome then turnDown s .queryPending
        else if canJoinSite s .east then
          { state := takeQuery s (fieldAt params 0 1) (fieldAt params 1 3), status := .accepted, data := .query s.lane.counter }
        else turnDown s .busy := by
  have hr : ¬ s.ring ≤ fieldAt params 0 1 := by omega
  simp [handleRemoteRead, hr, hs, hm, hsync]

end RemoteRead

/-- Settles O29: the three ways of a RemoteRead whose parameters and clock pass. -/
theorem remoteReadQueries : Obligations.RemoteReadQueries := by
  intro s tag params hready hlen ht hself hm hsync
  have hhandle := handleRemoteRead_checked ht hself hm hsync
  have hl : lengthOk codeRemoteRead params.length = true := by rw [hlen]; rfl
  refine ⟨fun hq hj => ?_, fun hq => ?_, fun hq hj => ?_⟩
  · have hanswer : handleRemoteRead params s
        = { state := takeQuery s (fieldAt params 0 1) (fieldAt params 1 3), status := .accepted, data := .query s.lane.counter } := by
      simp [hhandle, hq, hj]
    refine ⟨_, congrArg Host.Outcome.next (siteRequest_answered hready tag hl hanswer),
      joins_joinCounted s _, rfl, rfl, rfl, repliesWith_of_site (s := s) tag _ _ _ rfl, ?_⟩
    exact changesOnly_trans (changesOnly_mono (joinCounted_changesOnly s _) (by decide))
      (changesOnly_trans (changesOnly_mono (withBill_changesOnly _ _) (by decide)) (changesOnly_mono (withSite_changesOnly _ _) (by decide)))
  · have hpending : handleRemoteRead params s = turnDown s .queryPending := by
      rw [hhandle, if_pos (Option.isSome_iff_ne_none.mpr hq)]
    exact congrArg Host.Outcome.next (siteRequest_turnDown hready tag hl hpending)
  · have hbusy : handleRemoteRead params s = turnDown s .busy := by simp [hhandle, hq, hj]
    exact congrArg Host.Outcome.next (siteRequest_turnDown hready tag hl hbusy)

end Sys2Proof.Machine

namespace Sys2Proof.Machine

/-! ### Notices and claim slots -/

/-- A raised notice stands in the queue with its content (R197). -/
theorem noticeAt_raiseNotice {s : State} (h : s.running = true) (src : Nat) (c : NoticeBody) : noticeAt (raiseNotice s src c) src = some c := by
  unfold noticeAt
  rw [raiseNotice_site, if_pos h]
  unfold placeNotice
  split
  · rename_i hany
    obtain ⟨n, hn⟩ : ∃ n, s.site.notices.find? (fun n => n.source == src) = some n := by
      rw [← Option.isSome_iff_exists, List.find?_isSome]
      simpa using hany
    have hsrc : n.source = src := by simpa using List.find?_some (p := fun n : Notice => n.source == src) hn
    have hkeep : ((fun n => n.source == src) ∘ fun n : Notice => if n.source == src then
        { n with content := c, seconds := s.now, superseded := raiseSat 255 n.superseded } else n) = fun n => n.source == src := by
      funext x
      simp only [Function.comp_apply]
      split <;> rfl
    rw [List.find?_map, hkeep, hn]
    simp [hsrc]
  · rename_i hany
    have hnone : s.site.notices.find? (fun n => n.source == src) = none := by
      rw [List.find?_eq_none]
      simpa using hany
    simp [List.find?_append, hnone]

theorem placeAt_set_none {α : Type} (l : List (Option α)) (i : Nat) : placeAt (l.set i none) i = none := by
  unfold placeAt
  rw [List.getElem?_set_self']
  cases l[i]? <;> rfl

theorem raiseNotice_changesOnly (s : State) (src : Nat) (c : NoticeBody) : changesOnly [.site] s (raiseNotice s src c) := by
  unfold raiseNotice
  split
  · exact withSite_changesOnly _ _
  · exact changesOnly_refl _ s
theorem setEntry_changesOnly (s : State) (i : Nat) (e : Entry) : changesOnly [.entries] s (setEntry s i e) := withEntries_changesOnly _ _
theorem setSlot_changesOnly (s : State) (n : Nat) (v : Option ClaimSlot) : changesOnly [.claims] s (setSlot s n v) := withClaims_changesOnly _ _

theorem concludeSlot_changesOnly (s : State) (n : Nat) (c : ClaimSlot) (o : Outcome) : changesOnly [.claims, .site] s (concludeSlot s n c o) :=
  changesOnly_trans (changesOnly_mono (setSlot_changesOnly s n none) (by decide)) (changesOnly_mono (raiseNotice_changesOnly _ _ _) (by decide))

@[simp] theorem concludeSlot_lane (s : State) (n : Nat) (c : ClaimSlot) (o : Outcome) : (concludeSlot s n c o).lane = s.lane := by
  simp [concludeSlot]
@[simp] theorem concludeSlot_entries (s : State) (n : Nat) (c : ClaimSlot) (o : Outcome) : (concludeSlot s n c o).entries = s.entries := by
  simp [concludeSlot]

/-- A concluded slot is free (R72). -/
theorem slot_concludeSlot (s : State) (n : Nat) (c : ClaimSlot) (o : Outcome) : (concludeSlot s n c o).slot n = none := by
  unfold concludeSlot State.slot
  rw [raiseNotice_claims]
  exact placeAt_set_none _ _

/-- Its source tells the outcome (R83). -/
theorem noticeAt_concludeSlot {s : State} (h : s.phase = .normal) (n : Nat) (c : ClaimSlot) (o : Outcome) :
    noticeAt (concludeSlot s n c o) (sourceSlot n) = some (.bookingOutcome c.mode c.firstKey c.key c.attempt o) :=
  noticeAt_raiseNotice (s := setSlot s n none) (running_of_normal h) _ _

/-! ### Lookups go by the calendar alone -/

theorem queue_of_lane {s t : State} (h : t.lane = s.lane) (d : Dir) : t.queue d = s.queue d := by
  cases d <;> simp [State.queue, h]

theorem entry_of_entries {s t : State} (h : t.entries = s.entries) (i : Nat) : t.entry i = s.entry i := by simp [State.entry, h]

theorem lookup_of_entries {s t : State} (h : t.entries = s.entries) (k : Key) : lookup t k = lookup s k := by
  simp only [lookup, firstEntry, entry_of_entries h]

theorem findEntry_of_entries {s t : State} (h : t.entries = s.entries) (k : Key) : findEntry t k = findEntry s k := by
  simp only [findEntry, lookup_of_entries h, entry_of_entries h]

/-! ### OUTBOUND_JOIN -/

theorem waitingSlot_dir {s : State} {d : Dir} {n : Nat} {c : ClaimSlot} (h : waitingSlot s d = some n) (hc : s.slot n = some c) :
    c.req.dir = d := by
  have := List.find?_some h
  simp only [hc, Bool.and_eq_true, beq_iff_eq] at this
  exact this.2

theorem joins_join (s : State) (d : Dir) (n : Nat) (b : Body) : joins s (join s d n b) d n b := ⟨queue_join s d n b, queue_join_opp s d n b⟩

theorem joins_of_lane {s t u : State} {d : Dir} {n : Nat} {b : Body} (h : joins s t d n b) (hl : u.lane = t.lane) : joins s u d n b :=
  ⟨(queue_of_lane hl d).trans h.1, (queue_of_lane hl (opp d)).trans h.2⟩

/-- A waiting CONFIRM of a new booking joins while the origin's side still stands: the entry becomes Held, the slot is concluded (R68, R72). -/
theorem joinOutbound_confirm {s : State} {n i : Nat} {c : ClaimSlot} {e : Entry} (hstate : c.state = .outConfirm) (hmode : c.mode = .new)
    (hf : findEntry s c.key = some (i, e)) (ht : e.state = .tentative) (hw : s.now < e.bk.winStart) :
    joinOutbound s n c
      = concludeSlot (setEntry (join s c.req.dir c.key.seq (.confirm .new)) i { e with state := .held }) n c .committed := by
  have hstands : ownSideStands s c = true := by simp [ownSideStands, hf, hmode, ht, hw]
  have hfind := (findEntry_of_entries (join_entries s c.req.dir c.key.seq (.confirm .new)) c.key).trans hf
  simp [joinOutbound, hstate, hstands, commitOwnSide, hmode, hfind]

theorem exec_outboundJoin {s : State} {d : Dir} {n : Nat} {c : ClaimSlot} (hs : waitingSlot s d = some n) (hc : s.slot n = some c)
    (hj : canJoin s d = true) : exec (.outboundJoin d) s = .next (joinOutbound s n c) := by
  simp [exec, execOutboundJoin, hs, joinWaiting, hc, hj]

theorem outboundJoin_commits {s : State} {d : Dir} {n i : Nat} {c : ClaimSlot} {e : Entry} (hs : waitingSlot s d = some n)
    (hc : s.slot n = some c) (hstate : c.state = .outConfirm) (hmode : c.mode = .new) (hf : findEntry s c.key = some (i, e))
    (ht : e.state = .tentative) (hw : s.now < e.bk.winStart) (hj : canJoin s d = true) (hp : s.phase = .normal) :
    ∃ t, exec (.outboundJoin d) s = .next t
      ∧ joins s t d c.key.seq (.confirm .new) ∧ t.entries = s.entries.set i (some { e with state := .held }) ∧ t.slot n = none
      ∧ noticeAt t (sourceSlot n) = some (.bookingOutcome .new c.firstKey c.key c.attempt .committed)
      ∧ changesOnly [.lane, .entries, .claims, .site] s t := by
  obtain rfl := waitingSlot_dir hs hc
  refine ⟨_, (exec_outboundJoin hs hc hj).trans (congrArg _ (joinOutbound_confirm hstate hmode hf ht hw)), ?_, ?_, ?_, ?_, ?_⟩
  · exact joins_of_lane (joins_join s _ _ _) (by simp)
  · simp [setEntry]
  · exact slot_concludeSlot ..
  · rw [noticeAt_concludeSlot (by simpa using hp), hmode]
  · exact changesOnly_trans (changesOnly_mono (join_changesOnly s _ _ _) (by decide))
      (changesOnly_trans (changesOnly_mono (setEntry_changesOnly _ _ _) (by decide))
        (changesOnly_mono (concludeSlot_changesOnly _ _ _ _) (by decide)))

/-! ### WALK_RESUME -/

/-- What a walk does to the queues and its cursor: messages join at the tails, the cursor goes on or the walk ends (R92). -/
structure WalkedOn (s t : State) (i : Nat) : Prop where
  queue : ∀ d, ∃ rest, t.queue d = s.queue d ++ rest
  cursor : t.recov.walk = none ∨ ∃ j, i ≤ j ∧ t.recov.walk = some j
  changes : changesOnly [.lane, .recov] s t

theorem WalkedOn.of_withRecov (s : State) (v : Recall) (i : Nat) (h : v.walk = none ∨ v.walk = some i) : WalkedOn s (s.withRecov v) i where
  queue d := ⟨[], (List.append_nil _).symm⟩
  cursor := h.imp_right fun hi => ⟨i, le_rfl, hi⟩
  changes := changesOnly_mono (withRecov_changesOnly s v) (by decide)

theorem WalkedOn.step {s u t : State} {i : Nat} (hq : ∀ d, ∃ rest, u.queue d = s.queue d ++ rest) (hu : changesOnly [.lane, .recov] s u)
    (h : WalkedOn u t (i + 1)) : WalkedOn s t i where
  queue d := by
    obtain ⟨r₁, h₁⟩ := hq d
    obtain ⟨r₂, h₂⟩ := h.queue d
    exact ⟨r₁ ++ r₂, by rw [h₂, h₁, List.append_assoc]⟩
  cursor := h.cursor.imp_right fun ⟨j, hj, hw⟩ => ⟨j, by omega, hw⟩
  changes := changesOnly_trans hu h.changes

theorem eq_opp_of_ne {x d : Dir} (h : x ≠ d) : x = opp d := by
  cases x with
  | east =>
    cases d with
    | east => exact absurd rfl h
    | west => rfl
  | west =>
    cases d with
    | east => rfl
    | west => exact absurd rfl h

theorem queue_join_grows (s : State) (d x : Dir) (n : Nat) (b : Body) : ∃ rest, (join s d n b).queue x = s.queue x ++ rest := by
  by_cases h : x = d
  · subst h
    exact ⟨_, queue_join s x n b⟩
  · obtain rfl := eq_opp_of_ne h
    exact ⟨[], by rw [queue_join_opp, List.append_nil]⟩

theorem walkFrom_walksOn (n : Nat) (s : State) (i : Nat) : WalkedOn s (walkFrom n s i) i := by
  induction n generalizing s i with
  | zero => exact .of_withRecov s _ i (.inl rfl)
  | succ n ih =>
    have skip : WalkedOn s (walkFrom n s (i + 1)) i :=
      .step (fun d => ⟨[], (List.append_nil _).symm⟩) (changesOnly_refl _ s) (ih s (i + 1))
    unfold walkFrom
    split
    · exact skip
    · split
      · split
        · exact .step (fun d => queue_join_grows ..) (changesOnly_mono (join_changesOnly s _ _ _) (by decide)) (ih _ (i + 1))
        · exact .of_withRecov s _ i (.inr rfl)
      · exact skip

/-- A walk whose entry at the cursor can be announced queues its REANNOUNCE and goes on behind it (R92). -/
theorem walkAt_announces {s : State} {i : Nat} {e : Entry} (hi : i < 64) (he : s.entry i = some e) (hr : isResponder s e = true)
    (hj : canJoinSite s e.bk.dir = true) :
    ∃ n, walkAt s i = walkFrom n (join s e.bk.dir e.key.seq (reannounceOf s e)) (i + 1) := by
  obtain ⟨n, hn⟩ : ∃ n, Config.entryCount - i = n + 1 := ⟨63 - i, by simp only [Config.entryCount]; omega⟩
  refine ⟨n, ?_⟩
  rw [walkAt, hn, walkFrom]
  simp [he, hr, hj]

theorem walkResume_announces {s : State} {i : Nat} {e : Entry} (hw : s.recov.walk = some i) (hi : i < 64) (he : s.entry i = some e)
    (hr : isResponder s e = true) (hj : canJoinSite s e.bk.dir = true) :
    ∃ t rest, exec .walkResume s = .next t
      ∧ t.queue e.bk.dir = s.queue e.bk.dir ++ newMsg s e.bk.dir e.key.seq (reannounceOf s e) :: rest
      ∧ (t.recov.walk = none ∨ ∃ j, i < j ∧ t.recov.walk = some j)
      ∧ changesOnly [.lane, .recov] s t := by
  obtain ⟨n, hn⟩ := walkAt_announces hi he hr hj
  have hwalk := walkFrom_walksOn n (join s e.bk.dir e.key.seq (reannounceOf s e)) (i + 1)
  obtain ⟨rest, hrest⟩ := hwalk.queue e.bk.dir
  refine ⟨_, rest, ?_, ?_, hwalk.cursor, ?_⟩
  · rw [← hn]
    simp [exec, execWalkResume, hw]
  · rw [hrest, queue_join]
    simp
  · exact changesOnly_trans (changesOnly_mono (join_changesOnly s _ _ _) (by decide)) hwalk.changes

/-- Settles O51: the CONFIRM that joins, the held-over HOLDLOST that joins, the walk that goes on. -/
theorem waitingMessagesJoin : Obligations.WaitingMessagesJoin := by
  refine ⟨fun s d n i c e => outboundJoin_commits, ?_, fun s i e => walkResume_announces⟩
  intro s m rest hm hlen
  have hheld := joinHeldOver_free s hlen
  rw [hm] at hheld
  exact congrArg _ hheld

end Sys2Proof.Machine

namespace Sys2Proof.Machine

/-! ### Numbers in bytes -/

theorem numOf_byteOf {n : Nat} (h : n < 256) : numOf [byteOf n] = n := by
  simp [numOf, byteOf, BitVec.toNat_ofNat]; omega
theorem numOf_bytes2 {n : Nat} (h : n < 65536) : numOf (bytes2 n) = n := by
  simp [numOf, bytes2, byteOf, BitVec.toNat_ofNat]; omega
theorem numOf_bytes3 {n : Nat} (h : n < 16777216) : numOf (bytes3 n) = n := by
  simp [numOf, bytes3, byteOf, BitVec.toNat_ofNat]; omega
theorem numOf_bytes4 {n : Nat} (h : n < 4294967296) : numOf (bytes4 n) = n := by
  simp [numOf, bytes4, byteOf, BitVec.toNat_ofNat]; omega

/-! ### Fields behind a row of bytes -/

theorem byteAt_append (a b : List Byte) (i : Nat) : byteAt (a ++ b) (a.length + i) = byteAt b i := by
  simp [byteAt, List.getElem?_append_right]

/-- A field that lies behind a row of bytes is read from what follows the row. -/
theorem fieldAt_append (a b : List Byte) {k : Nat} (hk : a.length = k) (i n : Nat) : fieldAt (a ++ b) (k + i) n = fieldAt b i n := by
  subst hk
  simp only [fieldAt, Nat.add_assoc, byteAt_append]

/-! ### Drops -/

theorem dropBytes_length (n : Nat) (ds : List Drop) : (dropBytes n ds).length = 2 * n := by
  induction n generalizing ds with
  | zero => rfl
  | succ n ih => cases ds <;> simp [dropBytes, ih] <;> omega

theorem dropsAt_succ (l : List Byte) (i n : Nat) :
    dropsAt l i (n + 1) = { station := fieldAt l i 1, port := fieldAt l (i + 1) 1 } :: dropsAt l (i + 2) n := by
  simp only [dropsAt, List.range_succ_eq_map, List.map_cons, List.map_map, Nat.mul_zero, Nat.add_zero, List.cons.injEq, true_and]
  refine List.map_congr_left fun j _ => ?_
  simp only [Function.comp_apply, Nat.succ_eq_add_one]
  congr 2 <;> omega

/-- Drops laid out behind a row of bytes are read back (Table 11-6). -/
theorem dropsAt_dropBytes (pre post : List Byte) (n : Nat) (ds : List Drop) (hn : ds.length ≤ n) (hwf : ∀ x ∈ ds, x.wf = true) :
    dropsAt (pre ++ (dropBytes n ds ++ post)) pre.length ds.length = ds := by
  induction ds generalizing pre n with
  | nil => rfl
  | cons d ds ih =>
    obtain ⟨n, rfl⟩ : ∃ m, n = m + 1 := ⟨n - 1, by simp at hn; omega⟩
    have hd : d.station < 16 ∧ d.port < 8 := by simpa [Drop.wf] using hwf d (by simp)
    have hstation : fieldAt (pre ++ (dropBytes (n + 1) (d :: ds) ++ post)) pre.length 1 = d.station :=
      (fieldAt_append pre _ rfl 0 1).trans (numOf_byteOf (by omega))
    have hport : fieldAt (pre ++ (dropBytes (n + 1) (d :: ds) ++ post)) (pre.length + 1) 1 = d.port :=
      (fieldAt_append pre _ rfl 1 1).trans (numOf_byteOf (by omega))
    have hrest := ih (pre ++ [byteOf d.station, byteOf d.port]) n (by simpa using hn) (fun x hx => hwf x (by simp [hx]))
    have hlist : pre ++ [byteOf d.station, byteOf d.port] ++ (dropBytes n ds ++ post) = pre ++ (dropBytes (n + 1) (d :: ds) ++ post) := by
      simp [dropBytes]
    rw [hlist] at hrest
    rw [List.length_cons, dropsAt_succ, hstation, hport]
    exact congrArg _ (by simpa using hrest)

/-! ### Codes -/

theorem modeOf_modeCode (m : Mode) : modeOf (modeCode m) = some m := by cases m <;> rfl
theorem classOfCode_classCode (c : BookingClass) : classOfCode (classCode c) = some c := by cases c <;> rfl
theorem reasonOf_reasonCode (r : Reason) : reasonOf (reasonCode r) = some r := by cases r <;> rfl
theorem reasonCode_bounds (r : Reason) : 0 < reasonCode r ∧ reasonCode r < 256 := by cases r <;> decide
theorem classCode_le (c : BookingClass) : classCode c ≤ 2 := by cases c <;> decide
theorem flagBit_le (b : Bool) : flagBit b ≤ 1 := by cases b <;> decide
theorem dirBit_le (d : Dir) : dirBit d ≤ 1 := by cases d <;> decide
theorem flagBit_beq (b : Bool) : (flagBit b == 1) = b := by cases b <;> rfl
theorem dirOf_dirBit (n : Nat) (d : Dir) : dirOf (2 * n + dirBit d) = d := by
  cases d with
  | east => exact if_pos (by simp [dirBit])
  | west => exact if_neg (by simp [dirBit])

theorem stationOf_stationByte (o : Option Nat) (h : ∀ w, o = some w → w < 16) : stationOf (stationByte o) = o := by
  cases o with
  | none => rfl
  | some w =>
    have hw := h w rfl
    have hb : (byteOf w).toNat = w := by simp [byteOf, BitVec.toNat_ofNat]; omega
    have hne : byteOf w ≠ 0xFF := fun he => by rw [he] at hb; simp at hb; omega
    rw [stationByte, stationOf, if_neg hne, hb]

theorem verdictOf_verdictBytes (v : Verdict) (h : v.wf = true) :
    verdictOf (fieldAt (verdictBytes v) 0 1) (fieldAt (verdictBytes v) 1 1) = some v := by
  cases v with
  | clear => rfl
  | refused r station =>
    have hs : station < 16 := by simpa [Verdict.wf] using h
    obtain ⟨hpos, hlt⟩ := reasonCode_bounds r
    have hcode : fieldAt (verdictBytes (.refused r station)) 0 1 = reasonCode r := numOf_byteOf hlt
    have hstation : fieldAt (verdictBytes (.refused r station)) 1 1 = station := numOf_byteOf (by omega)
    rw [hcode, hstation, verdictOf, if_neg (by omega), reasonOf_reasonCode]
    rfl

/-! ### The class byte and a booking -/

/-- The number in the class byte (Table 11-6). -/
theorem numOf_classByte {b : Booking} (h : b.rateClass < 8) :
    numOf [classByte b] = b.rateClass * 32 + classCode b.cls * 8 + flagBit b.isProtected * 4 + dirBit b.dir := by
  have := classCode_le b.cls
  have := flagBit_le b.isProtected
  have := dirBit_le b.dir
  exact numOf_byteOf (by omega)

/-- The class byte gives back its four fields. -/
theorem classByte_fields {b : Booking} (h : b.rateClass < 8) :
    numOf [classByte b] / 32 = b.rateClass ∧ classField (numOf [classByte b]) = classCode b.cls
      ∧ (numOf [classByte b] / 4 % 2 == 1) = b.isProtected ∧ dirOf (numOf [classByte b]) = b.dir := by
  have hc := classCode_le b.cls
  have hf := flagBit_le b.isProtected
  have hd := dirBit_le b.dir
  rw [numOf_classByte h]
  refine ⟨by omega, by unfold classField; omega, ?_, ?_⟩
  · rw [show (b.rateClass * 32 + classCode b.cls * 8 + flagBit b.isProtected * 4 + dirBit b.dir) / 4 % 2 = flagBit b.isProtected by omega,
      flagBit_beq]
  · rw [show b.rateClass * 32 + classCode b.cls * 8 + flagBit b.isProtected * 4 + dirBit b.dir
      = 2 * (b.rateClass * 16 + classCode b.cls * 4 + flagBit b.isProtected * 2) + dirBit b.dir by omega, dirOf_dirBit]

/-- A booking's fields stand in a row of bytes: match id at place i, input port at `tail`, the drops behind it (Tables 11-6 and 11-8). -/
structure HoldsBooking (l : List Byte) (i tail : Nat) (b : Booking) : Prop where
  matchId : fieldAt l i 3 = numOf (bytes3 b.matchId)
  cls : fieldAt l (i + 3) 1 = numOf [classByte b]
  first : fieldAt l (i + 4) 1 = numOf [byteOf b.first]
  count : fieldAt l (i + 5) 1 = numOf [byteOf b.count]
  winStart : fieldAt l (i + 6) 4 = numOf (bytes4 b.winStart)
  winEnd : fieldAt l (i + 10) 4 = numOf (bytes4 b.winEnd)
  input : fieldAt l tail 1 = numOf [byteOf b.input]
  size : fieldAt l (tail + 1) 1 = numOf [byteOf b.drops.length]
  drops : dropsAt l (tail + 2) b.drops.length = b.drops

/-- A well-formed booking is read back from a row that holds it (R203). -/
theorem bookingAt_eq {l : List Byte} {i tail : Nat} {b : Booking} (h : b.wf = true) (hl : HoldsBooking l i tail b) :
    bookingAt l i tail b.cls = b ∧ classField (fieldAt l (i + 3) 1) = classCode b.cls := by
  simp only [Booking.wf, groupWf, fits24, fits32, Bool.and_eq_true, decide_eq_true_eq, Bool.or_eq_true, beq_iff_eq] at h
  obtain ⟨⟨⟨⟨⟨⟨⟨⟨⟨⟨-, hid⟩, hrate⟩, -⟩, ⟨hk, -⟩, hlanes⟩, hstart⟩, hend⟩, hinput⟩, -⟩, hsize⟩, -⟩ := h
  have hlast : b.first + b.count ≤ 24 := hlanes
  obtain ⟨hclass, hfield, hprot, hdir⟩ := classByte_fields hrate
  have hdrops : fieldAt l (tail + 1) 1 = b.drops.length := hl.size.trans (numOf_byteOf (by omega))
  refine ⟨?_, hl.cls ▸ hfield⟩
  simp only [bookingAt, hl.matchId, hl.cls, hl.first, hl.count, hl.winStart, hl.winEnd, hl.input, hdrops, hl.drops, hclass, hprot, hdir,
    numOf_bytes3 hid, numOf_bytes4 hstart, numOf_bytes4 hend, numOf_byteOf (show b.first < 256 by omega),
    numOf_byteOf (show b.count < 256 by omega), numOf_byteOf (show b.input < 256 by omega)]

/-! ### The header -/

theorem decodeHeader_encodeHeader {h : Header} (hw : h.wf = true) (kind : Nat) (rest : List Byte) :
    decodeHeader (encodeHeader kind h ++ rest) = h := by
  simp only [Header.wf, fits32, Bool.and_eq_true, decide_eq_true_eq] at hw
  obtain ⟨⟨⟨⟨⟨horigin, hseq⟩, hstamp⟩, hhops⟩, hwraps⟩, hfirst⟩ := hw
  have hf := flagBit_le h.unsynced
  have hd := dirBit_le h.sentDir
  have hb : fieldAt (encodeHeader kind h ++ rest) 1 1 = h.origin * 16 + dirBit h.sentDir * 8 + flagBit h.unsynced * 4 + h.wraps :=
    numOf_byteOf (by omega)
  have hq : fieldAt (encodeHeader kind h ++ rest) 2 2 = h.seq := numOf_bytes2 hseq
  have ht : fieldAt (encodeHeader kind h ++ rest) 4 4 = h.stamp := numOf_bytes4 hstamp
  have hh : fieldAt (encodeHeader kind h ++ rest) 8 1 = h.hops := numOf_byteOf hhops
  have hs : stationOf (byteAt (encodeHeader kind h ++ rest) 9) = h.firstWrap := by
    refine stationOf_stationByte h.firstWrap fun w hw => ?_
    simpa [hw] using hfirst
  have hdir : (h.origin * 16 + dirBit h.sentDir * 8 + flagBit h.unsynced * 4 + h.wraps) / 8 = 2 * h.origin + dirBit h.sentDir := by omega
  have hflag : (h.origin * 16 + dirBit h.sentDir * 8 + flagBit h.unsynced * 4 + h.wraps) / 4 % 2 = flagBit h.unsynced := by omega
  have ho : (h.origin * 16 + dirBit h.sentDir * 8 + flagBit h.unsynced * 4 + h.wraps) / 16 = h.origin := by omega
  have hwr : (h.origin * 16 + dirBit h.sentDir * 8 + flagBit h.unsynced * 4 + h.wraps) % 4 = h.wraps := by omega
  simp only [decodeHeader, hb, hq, ht, hh, hs, hdir, hflag, ho, hwr, dirOf_dirBit, flagBit_beq]

/-! ### A CLAIM -/

/-- The 31 bytes of a CLAIM before its drops. -/
def claimFront (h : Header) (b : ClaimBody) : List Byte :=
  encodeHeader 2 h ++ ([byteOf (modeCode b.mode)] ++ bytes3 b.bk.matchId ++ [classByte b.bk, byteOf b.bk.first, byteOf b.bk.count]
    ++ bytes4 b.bk.winStart ++ bytes4 b.bk.winEnd ++ bytes4 0 ++ [byteOf b.bk.input, byteOf b.bk.drops.length])

/-- The four bytes of a CLAIM behind its drops. -/
def claimBack4 (b : ClaimBody) : List Byte := verdictBytes b.verdict ++ bytes2 b.assessed.toNat

theorem encodeClaim_eq (h : Header) (b : ClaimBody) : encodeClaim h b = claimFront h b ++ (dropBytes 4 b.bk.drops ++ claimBack4 b) := by
  simp [encodeClaim, encodeClaimBody, claimFront, claimBack4]

theorem claimFront_length (h : Header) (b : ClaimBody) : (claimFront h b).length = 31 := rfl
theorem claimBack4_length (b : ClaimBody) : (claimBack4 b).length = 4 := by unfold claimBack4; cases b.verdict <;> rfl

theorem encodeClaim_length (h : Header) (b : ClaimBody) : (encodeClaim h b).length = 43 := by
  simp [encodeClaim_eq, claimFront_length, claimBack4_length, dropBytes_length]

/-- A field behind the drops. -/
theorem fieldAt_claimBack (h : Header) (b : ClaimBody) (i n : Nat) : fieldAt (encodeClaim h b) (39 + i) n = fieldAt (claimBack4 b) i n := by
  rw [encodeClaim_eq, ← List.append_assoc]
  exact fieldAt_append _ _ (by simp [claimFront_length, dropBytes_length]) i n

theorem encodeClaim_holdsBooking (h : Header) {b : ClaimBody} (hb : b.bk.wf = true) : HoldsBooking (encodeClaim h b) 11 29 b.bk where
  matchId := rfl
  cls := rfl
  first := rfl
  count := rfl
  winStart := rfl
  winEnd := rfl
  input := rfl
  size := rfl
  drops := by
    simp only [Booking.wf, Bool.and_eq_true, decide_eq_true_eq, List.all_eq_true] at hb
    rw [encodeClaim_eq]
    exact dropsAt_dropBytes (claimFront h b) (claimBack4 b) 4 b.bk.drops hb.1.2 hb.2

theorem encodeClaim_verdict (h : Header) {b : ClaimBody} (hv : b.verdict.wf = true) :
    verdictOf (fieldAt (encodeClaim h b) 39 1) (fieldAt (encodeClaim h b) 40 1) = some b.verdict := by
  rw [fieldAt_claimBack h b 0 1, fieldAt_claimBack h b 1 1, ← verdictOf_verdictBytes b.verdict hv]
  unfold claimBack4
  cases b.verdict <;> rfl

theorem encodeClaim_assessed (h : Header) (b : ClaimBody) : BitVec.ofNat 16 (fieldAt (encodeClaim h b) 41 2) = b.assessed := by
  have hfield : fieldAt (encodeClaim h b) 41 2 = numOf (bytes2 b.assessed.toNat) := by
    rw [fieldAt_claimBack h b 2 2]
    unfold claimBack4
    cases b.verdict <;> rfl
  rw [hfield, numOf_bytes2 b.assessed.isLt, BitVec.ofNat_toNat, BitVec.setWidth_eq]

/-- Settles O13, field by field along Table 11-6. -/
theorem claimRoundTrip : Obligations.ClaimRoundTrip := by
  intro h b hh hb
  obtain ⟨hbk, hv⟩ : b.bk.wf = true ∧ b.verdict.wf = true := by simpa [ClaimBody.wf] using hb
  refine ⟨encodeClaim_length h b, ?_⟩
  have hmode : modeOf (fieldAt (encodeClaim h b) 10 1) = some b.mode := by
    rw [show fieldAt (encodeClaim h b) 10 1 = modeCode b.mode from numOf_byteOf (by cases b.mode <;> decide), modeOf_modeCode]
  obtain ⟨hbooking, hfield⟩ := bookingAt_eq hbk (encodeClaim_holdsBooking h hbk)
  have hcls : classOfCode (classField (fieldAt (encodeClaim h b) 14 1)) = some b.bk.cls := by rw [hfield, classOfCode_classCode]
  have hkind : fieldAt (encodeClaim h b) 0 1 = 2 := rfl
  have hheader : decodeHeader (encodeClaim h b) = h := decodeHeader_encodeHeader hh 2 _
  simp only [decodeClaim, hmode, hcls, encodeClaim_verdict h hv, hkind, if_true, hheader, hbooking, encodeClaim_assessed]

end Sys2Proof.Machine

namespace Sys2Proof.Machine

/-! ### The parts kept, read off `changesOnly` -/

section Kept
variable {ps : List Part} {s t : State} (h : changesOnly ps s t)
include h

theorem changesOnly_nowMs (hp : Part.nowMs ∉ ps) : t.nowMs = s.nowMs := h .nowMs hp
theorem changesOnly_cfg (hp : Part.cfg ∉ ps) : t.cfg = s.cfg := h .cfg hp
theorem changesOnly_clock (hp : Part.clock ∉ ps) : t.clock = s.clock := h .clock hp
theorem changesOnly_lane (hp : Part.lane ∉ ps) : t.lane = s.lane := h .lane hp
theorem changesOnly_entries (hp : Part.entries ∉ ps) : t.entries = s.entries := h .entries hp
theorem changesOnly_claims (hp : Part.claims ∉ ps) : t.claims = s.claims := h .claims hp
theorem changesOnly_recov (hp : Part.recov ∉ ps) : t.recov = s.recov := h .recov hp
theorem changesOnly_bill (hp : Part.bill ∉ ps) : t.bill = s.bill := h .bill hp
theorem changesOnly_site (hp : Part.site ∉ ps) : t.site = s.site := h .site hp

end Kept

/-! ### Scans -/

theorem forEach_changesOnly {ps : List Part} {f : State → Nat → State} (hf : ∀ s i, changesOnly ps s (f s i)) (l : List Nat) (s : State) :
    changesOnly ps s (forEach l s f) :=
  forEach_keeps (changesOnly ps s) f (fun t i h => changesOnly_trans h (hf t i)) l s (changesOnly_refl ps s)

/-- A scan whose every visit changes the entry of its own index alone has changed the entries of the indexes it visits. -/
theorem forEach_entry {f : State → Nat → State} {g : Option Entry → Option Entry}
    (hf : ∀ s i j, (f s i).entry j = if i = j then g (s.entry j) else s.entry j) {l : List Nat} (hl : l.Nodup) (s : State) (j : Nat) :
    (forEach l s f).entry j = if j ∈ l then g (s.entry j) else s.entry j := by
  induction l generalizing s with
  | nil => rfl
  | cons i l ih =>
    obtain ⟨hi, hl⟩ := List.nodup_cons.mp hl
    change (forEach l (f s i) f).entry j = _
    have hstep := ih hl (f s i)
    rw [hf] at hstep
    by_cases hij : i = j
    · subst hij
      simpa [hi] using hstep
    · have hji : j ≠ i := fun h => hij h.symm
      simpa [hij, hji] using hstep

/-! ### The clearing of a warm reset -/

/-- What the clearing leaves of a place of the calendar (R50). -/
def clearedEntry : Option Entry → Option Entry
  | some e => if e.state = .tentative then none else some { e with ext := none }
  | none => none

theorem clearedEntry_tentative {e : Entry} (h : e.state = .tentative) : clearedEntry (some e) = none := if_pos h
theorem clearedEntry_standing {e : Entry} (h : e.state ≠ .tentative) : clearedEntry (some e) = some { e with ext := none } := if_neg h

theorem entry_clearTentative (s : State) (i j : Nat) :
    (clearTentative s i).entry j = if i = j then clearedEntry (s.entry j) else s.entry j := by
  unfold clearTentative
  split
  · rename_i he
    split <;> simp_all [clearedEntry]
  · rename_i e he
    split
    · rename_i ht
      rw [entry_freeEntry]
      split
      · rename_i hij
        rw [← hij, he, clearedEntry_tentative ht]
      · rfl
    · rename_i ht
      split
      · rename_i hij
        rw [← hij, he, clearedEntry_standing ht, entry_setEntry_same s i _ (placeAt_lt _ _ _ he)]
      · rename_i hij
        rw [entry_setEntry_ne s i j _ hij]

theorem dropBridged_changesOnly (s : State) (k : Key) : changesOnly [.bridged] s (dropBridged s k) := withBridged_changesOnly _ _

theorem freeEntry_changesOnly (s : State) (i : Nat) : changesOnly [.entries, .bridged] s (freeEntry s i) := by
  unfold freeEntry
  split
  · exact changesOnly_trans (changesOnly_mono (dropBridged_changesOnly s _) (by decide)) (changesOnly_mono (withEntries_changesOnly _ _) (by decide))
  · exact changesOnly_refl _ s

theorem clearTentative_changesOnly (s : State) (i : Nat) : changesOnly [.entries, .bridged] s (clearTentative s i) := by
  unfold clearTentative
  split
  · exact changesOnly_refl _ s
  · split
    · exact freeEntry_changesOnly s i
    · exact changesOnly_mono (setEntry_changesOnly s i _) (by decide)

/-- The state of the clearing between the blocks' own parts: the queues and slots cleared, the calendar visited. -/
def warmSwept (s : State) : State := forEach indexes (clearSlots (clearQueues s)) clearTentative

theorem warmClear_eq (s : State) : warmClear s = clearBilling (warmSwept s) := rfl

theorem warmSwept_changesOnly (s : State) : changesOnly [.entries, .bridged] (clearSlots (clearQueues s)) (warmSwept s) :=
  forEach_changesOnly clearTentative_changesOnly _ _

theorem clearBilling_bill (s : State) : (clearBilling s).bill = { s.bill with query := none, closeQueue := [], charge := none } := rfl
theorem clearBilling_site (s : State) : (clearBilling s).site = { s.site with notices := [] } := rfl
theorem clearBilling_changesOnly (s : State) : changesOnly [.bill, .site] s (clearBilling s) :=
  changesOnly_trans (changesOnly_mono (withBill_changesOnly _ _) (by decide)) (changesOnly_mono (withSite_changesOnly _ _) (by decide))

theorem warmClear_lane (s : State) : (warmClear s).lane = { s.lane with qEast := [], qWest := [], heldOver := [] } :=
  calc (warmClear s).lane
    _ = (warmSwept s).lane := changesOnly_lane (clearBilling_changesOnly (warmSwept s)) (by decide)
    _ = (clearSlots (clearQueues s)).lane := changesOnly_lane (warmSwept_changesOnly s) (by decide)
theorem warmClear_claims (s : State) : (warmClear s).claims = { s.claims with slots := s.claims.slots.map (fun _ => none) } :=
  calc (warmClear s).claims
    _ = (warmSwept s).claims := changesOnly_claims (clearBilling_changesOnly (warmSwept s)) (by decide)
    _ = (clearSlots (clearQueues s)).claims := changesOnly_claims (warmSwept_changesOnly s) (by decide)
theorem warmClear_bill (s : State) : (warmClear s).bill = { s.bill with query := none, closeQueue := [], charge := none } := by
  have h : (warmSwept s).bill = s.bill := (changesOnly_bill (warmSwept_changesOnly s) (by decide)).trans rfl
  rw [warmClear_eq, clearBilling_bill, h]
theorem warmClear_site (s : State) : (warmClear s).site = { s.site with notices := [] } := by
  have h : (warmSwept s).site = s.site := (changesOnly_site (warmSwept_changesOnly s) (by decide)).trans rfl
  rw [warmClear_eq, clearBilling_site, h]

theorem warmClear_entry (s : State) {j : Nat} (hj : j < 64) : (warmClear s).entry j = clearedEntry (s.entry j) := by
  have hmem : j ∈ indexes := List.mem_range.mpr hj
  calc (warmClear s).entry j
    _ = (warmSwept s).entry j := entry_of_entries (changesOnly_entries (clearBilling_changesOnly (warmSwept s)) (by decide)) j
    _ = clearedEntry ((clearSlots (clearQueues s)).entry j) := by
      rw [warmSwept, forEach_entry entry_clearTentative (show indexes.Nodup from List.nodup_range), if_pos hmem]
    _ = clearedEntry (s.entry j) := rfl

theorem warmClear_changesOnly (s : State) : changesOnly [.lane, .entries, .claims, .bridged, .bill, .site] s (warmClear s) := by
  have hqueues : changesOnly [.lane] s (clearQueues s) := withLane_changesOnly _ _
  have hslots : changesOnly [.claims] (clearQueues s) (clearSlots (clearQueues s)) := withClaims_changesOnly _ _
  have hbilling : changesOnly [.bill, .site] (warmSwept s) (warmClear s) := clearBilling_changesOnly (warmSwept s)
  exact changesOnly_trans (changesOnly_mono hqueues (by decide)) (changesOnly_trans (changesOnly_mono hslots (by decide))
    (changesOnly_trans (changesOnly_mono (warmSwept_changesOnly s) (by decide)) (changesOnly_mono hbilling (by decide))))

/-- The messages queued before the reset leave no trace (R10, R12). -/
theorem warmClear_queues (s : State) (qEast qWest heldOver : List Msg) :
    warmClear { s with lane := { s.lane with qEast := qEast, qWest := qWest, heldOver := heldOver } } = warmClear s := by
  have h : clearQueues { s with lane := { s.lane with qEast := qEast, qWest := qWest, heldOver := heldOver } } = clearQueues s := rfl
  unfold warmClear
  rw [h]

/-! ### Markers and messages of a warm reset -/

/-- An entry but for its request record and its bridge set, which markers and messages write (Table 8-1). -/
def unmarked (e : Entry) : Entry := { e with request := none, bridge := none }

/-- The calendar of t is that of s but for request records and bridge sets. -/
def unmarkedKept (s t : State) : Prop := ∀ j, (t.entry j).map unmarked = (s.entry j).map unmarked

theorem unmarkedKept_trans {s t u : State} (h : unmarkedKept s t) (k : unmarkedKept t u) : unmarkedKept s u := fun j => (k j).trans (h j)

theorem unmarkedKept_of_entries {s t : State} (h : t.entries = s.entries) : unmarkedKept s t := fun j => by rw [entry_of_entries h]

theorem setEntry_unmarkedKept {s : State} {i : Nat} {e f : Entry} (he : s.entry i = some e) (hf : unmarked f = unmarked e) :
    unmarkedKept s (setEntry s i f) := by
  intro j
  by_cases hij : i = j
  · subst hij
    rw [entry_setEntry_same s i f (placeAt_lt _ _ _ he), he]
    exact congrArg some hf
  · rw [entry_setEntry_ne s i j f hij]

/-- Every queued message is one of a warm reset's own (R202). -/
def onlyWarm (s : State) : Prop := ∀ d, ∀ m ∈ s.queue d, warmMessage s m

/-- What a warm reset's work after the clearing does to markers, queues, held-over list and pending-recall set. -/
structure WarmWork (s t : State) : Prop where
  entries : unmarkedKept s t
  held : t.lane.heldOver = s.lane.heldOver
  pending : t.recov.pendingSet = s.recov.pendingSet
  queues : onlyWarm s → onlyWarm t
  changes : changesOnly [.lane, .entries, .recov, .bridged] s t

theorem WarmWork.trans {s t u : State} (h : WarmWork s t) (k : WarmWork t u) : WarmWork s u where
  entries := unmarkedKept_trans h.entries k.entries
  held := k.held.trans h.held
  pending := k.pending.trans h.pending
  queues := k.queues ∘ h.queues
  changes := changesOnly_trans h.changes k.changes

theorem warmMessage_of_cfg {s t : State} (h : t.cfg = s.cfg) {m : Msg} (hm : warmMessage s m) : warmMessage t m := by
  have hself : t.self = s.self := congrArg Cfg.station h
  exact ⟨hm.1.trans hself.symm, hm.2⟩

/-- Work that leaves the queues and the held-over list as they are. -/
theorem WarmWork.of_lane {s t : State} (hl : t.lane = s.lane) (hp : t.recov.pendingSet = s.recov.pendingSet) (he : unmarkedKept s t) 
    (hc : changesOnly [.lane, .entries, .recov, .bridged] s t) : WarmWork s t where
  entries := he
  held := congrArg Lanes.heldOver hl
  pending := hp
  queues h d m hm := warmMessage_of_cfg (hc .cfg (by decide)) (h d m (queue_of_lane hl d ▸ hm))
  changes := hc

theorem WarmWork.refl (s : State) : WarmWork s s := .of_lane rfl rfl (fun _ => rfl) (changesOnly_refl _ s)

/-- A message of the reset's own joins a queue. -/
theorem WarmWork.of_join (s : State) (d : Dir) (n : Nat) {b : Body}
    (hb : (∃ k st on, b = .switchreq k st on) ∨ (∃ k on drops, b = .bridge k on drops) ∨ b = .recallReq) : WarmWork s (join s d n b) where
  entries := unmarkedKept_of_entries (by simp)
  held := by cases d <;> rfl
  pending := by simp
  queues h x m hm := by
    refine warmMessage_of_cfg (s := s) (by simp) ?_
    by_cases hx : x = d
    · subst hx
      rw [queue_join, List.mem_append, List.mem_singleton] at hm
      rcases hm with hm | rfl
      · exact h x m hm
      · exact ⟨rfl, hb⟩
    · obtain rfl := eq_opp_of_ne hx
      exact h _ m (queue_join_opp s d n b ▸ hm)
  changes := changesOnly_mono (join_changesOnly s d n b) (by decide)

theorem setEntry_warmWork {s : State} {i : Nat} {e f : Entry} (he : s.entry i = some e) (hf : unmarked f = unmarked e) :
    WarmWork s (setEntry s i f) :=
  .of_lane rfl rfl (setEntry_unmarkedKept he hf) (changesOnly_mono (setEntry_changesOnly s i f) (by decide))

theorem withBridged_warmWork (s : State) (v : Bridged) : WarmWork s (s.withBridged v) :=
  .of_lane rfl rfl (fun _ => rfl) (changesOnly_mono (withBridged_changesOnly s v) (by decide))

theorem withRecov_warmWork (s : State) {v : Recall} (hv : v.pendingSet = s.recov.pendingSet) : WarmWork s (s.withRecov v) :=
  .of_lane rfl hv (fun _ => rfl) (changesOnly_mono (withRecov_changesOnly s v) (by decide))

theorem applyBridge_warmWork (s : State) (k : Key) (on : Bool) : WarmWork s (applyBridge s k on) := by
  unfold applyBridge
  split
  · exact .refl s
  · split
    · split
      · exact .refl s
      · split <;> exact withBridged_warmWork s _
    · exact withBridged_warmWork s _

theorem attemptSwitchreq_warmWork (s : State) (i : Nat) : WarmWork s (attemptSwitchreq s i) := by
  unfold attemptSwitchreq
  split
  · exact .refl s
  · rename_i e he
    split
    · exact .refl s
    · split
      · have hjoined : (join s e.bk.dir e.key.seq (.switchreq e.key s.self (wantedOf e))).entry i = some e := by
          rw [entry_of_entries (join_entries ..), he]
        exact (WarmWork.of_join s _ _ (.inl ⟨_, _, _, rfl⟩)).trans (setEntry_warmWork hjoined rfl)
      · exact .refl s

theorem attemptBridge_warmWork (s : State) (i : Nat) : WarmWork s (attemptBridge s i) := by
  unfold attemptBridge
  split
  · exact .refl s
  · rename_i e he
    split
    · exact .refl s
    · rename_i b hb
      split
      · have hjoined : (join s e.bk.dir e.key.seq (.bridge e.key (b.drops != 0) b.drops)).entry i = some e := by
          rw [entry_of_entries (join_entries ..), he]
        have hannounced := setEntry_warmWork (f := { e with bridge := some { b with announced := b.drops != 0, toSend := false } }) hjoined rfl
        exact ((WarmWork.of_join s _ _ (.inr (.inl ⟨_, _, _, rfl⟩))).trans hannounced).trans (applyBridge_warmWork _ _ _)
      · exact .refl s

theorem remarkOne_warmWork (s : State) (i : Nat) : WarmWork s (remarkOne s i) := by
  unfold remarkOne
  split
  · exact .refl s
  · rename_i e he
    have hmark : WarmWork s (setEntry s i (remark e)) := setEntry_warmWork he rfl
    have hrequest : WarmWork s (if remarksRequest e then attemptSwitchreq (setEntry s i (remark e)) i else setEntry s i (remark e)) := by
      split
      · exact hmark.trans (attemptSwitchreq_warmWork _ i)
      · exact hmark
    dsimp only
    split
    · exact hrequest.trans (attemptBridge_warmWork _ i)
    · exact hrequest

theorem remarkAll_warmWork (s : State) : WarmWork s (forEach indexes s remarkOne) :=
  forEach_keeps (WarmWork s) remarkOne (fun t i h => h.trans (remarkOne_warmWork t i)) indexes s (.refl s)

/-! ### The recall controller at a warm reset -/

/-- What sending a RECALL leaves of the recall controller's record (R87). -/
theorem sendRecall_recov (s : State) :
    (sendRecall s).recov.pendingSet = s.recov.pendingSet ∧ (sendRecall s).recov.walk = s.recov.walk ∧ (sendRecall s).recov.state = s.recov.state := by
  unfold sendRecall
  dsimp only
  split <;> exact ⟨rfl, rfl, rfl⟩

/-- A count of the message counter after a message has joined. -/
theorem counted_warmWork (s : State) (n : Nat) : WarmWork s (s.withLane { s.lane with counter := n }) where
  entries _ := rfl
  held := rfl
  pending := rfl
  queues h d m hm := h d m (by cases d <;> exact hm)
  changes := changesOnly_mono (withLane_changesOnly s _) (by decide)

theorem joinCounted_recall_warmWork (s : State) : WarmWork s (joinCounted s .recallReq) :=
  (WarmWork.of_join s .east s.lane.counter (.inr (.inr rfl))).trans (counted_warmWork _ _)

theorem sendRecall_warmWork (s : State) : WarmWork s (sendRecall s) := by
  unfold sendRecall
  dsimp only
  split
  · refine WarmWork.trans ?_ (joinCounted_recall_warmWork _)
    exact withRecov_warmWork s rfl
  · exact withRecov_warmWork s rfl

theorem enterRecovering_warmWork (s : State) : WarmWork s (enterRecovering s) := by
  refine WarmWork.trans ?_ (sendRecall_warmWork _)
  exact withRecov_warmWork s rfl

theorem restartRecall_warmWork (s : State) : WarmWork s (restartRecall s) := by
  unfold restartRecall
  dsimp only
  generalize (if s.recov.state ≠ .normal ∧ s.recov.kind = .cold then RestartKind.cold else RestartKind.warm) = kind
  split
  · refine WarmWork.trans ?_ (enterRecovering_warmWork _)
    exact withRecov_warmWork s rfl
  · exact withRecov_warmWork s rfl

/-- The pending-recall set stays, the walk stops, and recovery begins again where the clock is Synced (R85, R86). -/
theorem restartRecall_recov (s : State) :
    (restartRecall s).recov.pendingSet = s.recov.pendingSet ∧ (restartRecall s).recov.walk = none
      ∧ (restartRecall s).recov.state = if s.clock.synced then .recovering else .awaitingSync := by
  unfold restartRecall
  dsimp only
  generalize (if s.recov.state ≠ .normal ∧ s.recov.kind = .cold then RestartKind.cold else RestartKind.warm) = kind
  split
  · rename_i hs
    exact sendRecall_recov _
  · rename_i hs
    exact ⟨rfl, rfl, rfl⟩

/-! ### The MARK timer -/

theorem startMark_time (s : State) : (startMark s).clock.synced = s.clock.synced ∧ (startMark s).clock.seconds = s.clock.seconds
    ∧ (startMark s).clock.fraction = s.clock.fraction := by
  unfold startMark
  split <;> exact ⟨rfl, rfl, rfl⟩

theorem startMark_synced (s : State) : (startMark s).clock.synced = s.clock.synced := (startMark_time s).1

/-! ### The start after the clearing -/

/-- The stages of a warm start: the close queue rebuilt, the markers set, the MARK timer started (R166, R202). -/
def warmQueued (s : State) : State := rebuildCloseQueue s
def warmRemarked (s : State) : State := forEach indexes (warmQueued s) remarkOne
def warmMarked (s : State) : State := startMark (warmRemarked s)

theorem warmStart_eq (s : State) : warmStart s = restartRecall (warmMarked s) := rfl

theorem warmQueued_changesOnly (s : State) : changesOnly [.bill] s (warmQueued s) := withBill_changesOnly _ _
theorem warmRemarked_warmWork (s : State) : WarmWork (warmQueued s) (warmRemarked s) := remarkAll_warmWork (warmQueued s)
theorem warmMarked_timer (s : State) : changesOnly [.clock] (warmRemarked s) (warmMarked s) := startMark_changesOnly (warmRemarked s)
theorem warmStart_recalled (s : State) : WarmWork (warmMarked s) (warmStart s) := restartRecall_warmWork (warmMarked s)

section WarmStart
variable (s : State)

theorem warmStart_bill : (warmStart s).bill = { s.bill with closeQueue := indexes.filter (isClosing s) } :=
  calc (warmStart s).bill
    _ = (warmMarked s).bill := changesOnly_bill (warmStart_recalled s).changes (by decide)
    _ = (warmRemarked s).bill := changesOnly_bill (warmMarked_timer s) (by decide)
    _ = (warmQueued s).bill := changesOnly_bill (warmRemarked_warmWork s).changes (by decide)

theorem warmMarked_lane : (warmMarked s).lane = (warmRemarked s).lane := changesOnly_lane (warmMarked_timer s) (by decide)

theorem warmStart_held : (warmStart s).lane.heldOver = s.lane.heldOver := by
  rw [(warmStart_recalled s).held, warmMarked_lane, (warmRemarked_warmWork s).held]
  rfl

theorem warmStart_unmarkedKept : unmarkedKept s (warmStart s) :=
  have hqueued : unmarkedKept s (warmQueued s) := unmarkedKept_of_entries rfl
  have htimer : unmarkedKept (warmRemarked s) (warmMarked s) := unmarkedKept_of_entries (changesOnly_entries (warmMarked_timer s) (by decide))
  unmarkedKept_trans (unmarkedKept_trans hqueued (warmRemarked_warmWork s).entries) (unmarkedKept_trans htimer (warmStart_recalled s).entries)

theorem warmStart_onlyWarm (h : onlyWarm s) : onlyWarm (warmStart s) := by
  have hmarks : onlyWarm (warmRemarked s) := (warmRemarked_warmWork s).queues h
  refine (warmStart_recalled s).queues fun d m hm => ?_
  rw [queue_of_lane (warmMarked_lane s)] at hm
  exact warmMessage_of_cfg (changesOnly_cfg (warmMarked_timer s) (by decide)) (hmarks d m hm)

theorem warmStart_changesOnly : changesOnly [.clock, .lane, .entries, .recov, .bridged, .bill] s (warmStart s) :=
  changesOnly_trans (changesOnly_mono (warmQueued_changesOnly s) (by decide))
    (changesOnly_trans (changesOnly_mono (warmRemarked_warmWork s).changes (by decide))
      (changesOnly_trans (changesOnly_mono (warmMarked_timer s) (by decide)) (changesOnly_mono (warmStart_recalled s).changes (by decide))))

theorem warmStart_pendingSet : (warmStart s).recov.pendingSet = s.recov.pendingSet :=
  calc (warmStart s).recov.pendingSet
    _ = (warmMarked s).recov.pendingSet := (warmStart_recalled s).pending
    _ = (warmRemarked s).recov.pendingSet := congrArg Recall.pendingSet (changesOnly_recov (warmMarked_timer s) (by decide))
    _ = s.recov.pendingSet := (warmRemarked_warmWork s).pending

theorem warmRemarked_clock : (warmRemarked s).clock = s.clock :=
  (changesOnly_clock (warmRemarked_warmWork s).changes (by decide)).trans rfl

theorem warmMarked_synced : (warmMarked s).clock.synced = s.clock.synced := by
  rw [warmMarked, startMark_synced, warmRemarked_clock]

/-- The walk stops, and recovery begins again where the clock is Synced (R85, R86). -/
theorem warmStart_recov : (warmStart s).recov.walk = none
    ∧ (warmStart s).recov.state = if s.clock.synced then .recovering else .awaitingSync := by
  obtain ⟨-, hwalk, hstate⟩ := restartRecall_recov (warmMarked s)
  rw [warmMarked_synced] at hstate
  rw [warmStart_eq]
  exact ⟨hwalk, hstate⟩

theorem warmStart_clock : (warmStart s).clock = (startMark (warmRemarked s)).clock :=
  changesOnly_clock (warmStart_recalled s).changes (by decide)

/-- The time stays (R202). -/
theorem warmStart_time : (warmStart s).clock.synced = s.clock.synced ∧ (warmStart s).clock.seconds = s.clock.seconds
    ∧ (warmStart s).clock.fraction = s.clock.fraction := by
  rw [warmStart_clock, ← warmRemarked_clock s]
  exact startMark_time _

/-- The MARK timer starts, while the clock is Synced (R30). -/
theorem warmStart_markDeadline (h : s.clock.synced = true) : (warmStart s).clock.markDeadline = some (s.nowMs + 10000) := by
  have hclock := warmRemarked_clock s
  have hnow : (warmRemarked s).nowMs = s.nowMs := (changesOnly_nowMs (warmRemarked_warmWork s).changes (by decide)).trans rfl
  rw [warmStart_clock, startMark_clock (by rw [hclock, h]), hnow]

end WarmStart

/-! ### WARM_RESET -/

/-- The restart is no longer pending (R202). -/
def restartDone (s : State) : State := s.withSite { s.site with restart := .none }
theorem restartDone_site (s : State) : (restartDone s).site = { s.site with restart := .none } := rfl

/-- What a warm reset leaves: the clearing, the start, and the restart no longer pending (R202). -/
def warmed (s : State) : State := restartDone (warmStart (warmClear s))

theorem exec_warmReset {s : State} (h : s.site.restart = .sent) : exec .warmReset s = .next (warmed s) := by
  change execWarmReset s = _
  unfold execWarmReset
  rw [if_pos h]
  rfl

/-- The model's test of a Closing entry is that of the statement. -/
theorem isClosing_eq (s : State) (i : Nat) : isClosing s i = (s.entry i).any (fun e => e.state == .closing) := by
  unfold isClosing
  split <;> rename_i h <;> rw [h] <;> rfl

theorem clearedEntry_closing (e : Option Entry) :
    (clearedEntry e).any (fun e => e.state == .closing) = e.any (fun e => e.state == .closing) := by
  cases e with
  | none => rfl
  | some e =>
    by_cases h : e.state = .tentative
    · rw [clearedEntry_tentative h]
      simp [h]
    · rw [clearedEntry_standing h]
      rfl

theorem placeAt_map_none {α : Type} (l : List (Option α)) (n : Nat) : placeAt (l.map (fun _ => (none : Option α))) n = none := by
  unfold placeAt
  rw [List.getElem?_map]
  cases l[n]? <;> rfl

section WarmReset
variable (s : State)

theorem warmed_site_only : changesOnly [.site] (warmStart (warmClear s)) (warmed s) := withSite_changesOnly _ _

theorem warmed_changesOnly : changesOnly [.clock, .lane, .entries, .claims, .recov, .bridged, .bill, .site] s (warmed s) :=
  changesOnly_trans (changesOnly_mono (warmClear_changesOnly s) (by decide))
    (changesOnly_trans (changesOnly_mono (warmStart_changesOnly _) (by decide)) (changesOnly_mono (warmed_site_only s) (by decide)))

theorem warmed_claims : (warmed s).claims = { s.claims with slots := s.claims.slots.map (fun _ => none) } :=
  calc (warmed s).claims
    _ = (warmStart (warmClear s)).claims := changesOnly_claims (warmed_site_only s) (by decide)
    _ = (warmClear s).claims := changesOnly_claims (warmStart_changesOnly _) (by decide)
    _ = _ := warmClear_claims s

theorem warmed_slot (n : Nat) : (warmed s).slot n = none := by
  unfold State.slot
  rw [warmed_claims]
  exact placeAt_map_none _ n

theorem warmed_bill : (warmed s).bill = { s.bill with
    query := none, charge := none, closeQueue := (List.range 64).filter (fun i => (s.entry i).any (fun e => e.state == .closing)) } := by
  have hqueue : indexes.filter (isClosing (warmClear s)) = (List.range 64).filter (fun i => (s.entry i).any (fun e => e.state == .closing)) := by
    refine List.filter_congr fun i hi => ?_
    rw [isClosing_eq, warmClear_entry s (List.mem_range.mp hi), clearedEntry_closing]
  rw [changesOnly_bill (warmed_site_only s) (by decide), warmStart_bill, warmClear_bill, hqueue]

theorem warmed_site : (warmed s).site = { s.site with notices := [], restart := .none } := by
  have hstart : (warmStart (warmClear s)).site = (warmClear s).site := changesOnly_site (warmStart_changesOnly _) (by decide)
  rw [warmed, restartDone_site, hstart, warmClear_site]

theorem warmClear_clock : (warmClear s).clock = s.clock := changesOnly_clock (warmClear_changesOnly s) (by decide)

theorem warmed_time : (warmed s).clock.synced = s.clock.synced ∧ (warmed s).clock.seconds = s.clock.seconds
    ∧ (warmed s).clock.fraction = s.clock.fraction := by
  rw [changesOnly_clock (warmed_site_only s) (by decide), ← warmClear_clock s]
  exact warmStart_time (warmClear s)

theorem warmed_markDeadline (h : s.clock.synced = true) : (warmed s).clock.markDeadline = some (s.nowMs + 10000) := by
  have hnow : (warmClear s).nowMs = s.nowMs := changesOnly_nowMs (warmClear_changesOnly s) (by decide)
  rw [changesOnly_clock (warmed_site_only s) (by decide), ← hnow]
  exact warmStart_markDeadline (warmClear s) (by rw [warmClear_clock, h])

theorem warmed_recov : (warmed s).recov.pendingSet = s.recov.pendingSet ∧ (warmed s).recov.walk = none
    ∧ (warmed s).recov.state = if s.clock.synced then .recovering else .awaitingSync := by
  have hkept : (warmClear s).recov = s.recov := changesOnly_recov (warmClear_changesOnly s) (by decide)
  obtain ⟨hwalk, hstate⟩ := warmStart_recov (warmClear s)
  have hpending := warmStart_pendingSet (warmClear s)
  rw [hkept] at hpending
  rw [warmClear_clock] at hstate
  rw [changesOnly_recov (warmed_site_only s) (by decide)]
  exact ⟨hpending, hwalk, hstate⟩

theorem warmed_held : (warmed s).lane.heldOver = [] := by
  rw [changesOnly_lane (warmed_site_only s) (by decide), warmStart_held, warmClear_lane]

/-- What stands queued after the reset, the reset itself has queued (R202). -/
theorem warmed_queue (d : Dir) : ∀ m ∈ (warmed s).queue d, warmMessage s m := by
  have hempty : onlyWarm (warmClear s) := by
    intro x m hm
    have hnil : (warmClear s).queue x = [] := by
      unfold State.queue
      rw [warmClear_lane]
      cases x <;> rfl
    rw [hnil] at hm
    exact absurd hm List.not_mem_nil
  intro m hm
  rw [queue_of_lane (changesOnly_lane (warmed_site_only s) (by decide))] at hm
  have hcfg : (warmStart (warmClear s)).cfg = s.cfg :=
    (changesOnly_cfg (warmStart_changesOnly _) (by decide)).trans (changesOnly_cfg (warmClear_changesOnly s) (by decide))
  exact warmMessage_of_cfg hcfg.symm (warmStart_onlyWarm _ hempty d m hm)

/-- An entry after the reset is that of the clearing but for its markers. -/
theorem warmed_entry {i : Nat} (hi : i < 64) : ((warmed s).entry i).map unmarked = (clearedEntry (s.entry i)).map unmarked := by
  rw [← warmClear_entry s hi, entry_of_entries (changesOnly_entries (warmed_site_only s) (by decide))]
  exact warmStart_unmarkedKept (warmClear s) i

theorem warmed_entry_tentative {i : Nat} {e : Entry} (hi : i < 64) (he : s.entry i = some e) (ht : e.state = .tentative) :
    (warmed s).entry i = none := by
  have h := warmed_entry s hi
  rw [he, clearedEntry_tentative ht] at h
  exact Option.map_eq_none_iff.mp h

theorem warmed_entry_standing {i : Nat} {e : Entry} (hi : i < 64) (he : s.entry i = some e) (ht : e.state ≠ .tentative) :
    ∃ f, (warmed s).entry i = some f ∧ unmarked f = unmarked { e with ext := none } := by
  have h := warmed_entry s hi
  rw [he, clearedEntry_standing ht] at h
  exact Option.map_eq_some_iff.mp h

/-- The messages queued before the reset leave no trace (R10, R12). -/
theorem exec_warmReset_queues (h : s.site.restart = .sent) (qEast qWest heldOver : List Msg) :
    exec .warmReset { s with lane := { s.lane with qEast := qEast, qWest := qWest, heldOver := heldOver } } = .next (warmed s) := by
  rw [exec_warmReset (s := { s with lane := { s.lane with qEast := qEast, qWest := qWest, heldOver := heldOver } }) h]
  unfold warmed
  rw [warmClear_queues]

end WarmReset

/-- Settles O32: the clearing visits every index once, the start changes entries in their request records and bridge sets alone, and every message
it queues is of a warm reset's own kinds. -/
theorem warmResetClears : Obligations.WarmResetClears := by
  unfold Obligations.WarmResetClears
  intro s h
  obtain ⟨hsynced, hseconds, hfraction⟩ := warmed_time s
  obtain ⟨hpending, hwalk, hstate⟩ := warmed_recov s
  refine ⟨warmed s, exec_warmReset h, warmed_slot s, by rw [warmed_claims], by rw [warmed_claims],
    fun i e hi he ht => warmed_entry_tentative s hi he ht, fun i e hi he ht => ?_, warmed_bill s, warmed_site s, hsynced, hseconds, hfraction,
    warmed_markDeadline s, hpending, hwalk, hstate, warmed_held s, warmed_queue s, exec_warmReset_queues s h, warmed_changesOnly s⟩
  obtain ⟨f, hf, hfe⟩ := warmed_entry_standing s hi he ht
  unfold unmarked at hfe
  simp only [Entry.mk.injEq] at hfe
  simp_all

end Sys2Proof.Machine

namespace Sys2Proof.Machine

/-! ### What leaves the ring clock as it is -/

theorem forEach_clock (f : State → Nat → State) (hf : ∀ s i, (f s i).clock = s.clock) (l : List Nat) (s : State) :
    (forEach l s f).clock = s.clock := forEach_field State.clock f hf l s

/-! ### The lane switch -/

@[simp] theorem writeWorkCells_clock (s : State) (i : Nat) (e : Entry) : (writeWorkCells s i e).clock = s.clock := by
  unfold writeWorkCells
  split
  · exact forEach_clock _ (fun _ _ => updCell_clock ..) _ s
  · rfl
@[simp] theorem writeProtCells_clock (s : State) (i : Nat) (e : Entry) : (writeProtCells s i e).clock = s.clock := by
  unfold writeProtCells
  split
  · exact forEach_clock _ (fun _ _ => updCell_clock ..) _ s
  · rfl
@[simp] theorem clearWorkCells_clock (s : State) (e : Entry) : (clearWorkCells s e).clock = s.clock := by
  unfold clearWorkCells
  split
  · exact forEach_clock _ (fun _ _ => updCell_clock ..) _ s
  · rfl
@[simp] theorem clearProtCells_clock (s : State) (e : Entry) : (clearProtCells s e).clock = s.clock := by
  unfold clearProtCells
  split
  · exact forEach_clock _ (fun _ _ => updCell_clock ..) _ s
  · rfl
@[simp] theorem writeSelector_clock (s : State) (i : Nat) (v : Selector) : (writeSelector s i v).clock = s.clock := by
  unfold writeSelector; (repeat' split) <;> simp
@[simp] theorem judgePreempted_clock (k : Key) (s : State) (i : Nat) : (judgePreempted k s i).clock = s.clock := by
  unfold judgePreempted; (repeat' split) <;> simp
@[simp] theorem judgeAllPreempted_clock (s : State) (k : Key) : (judgeAllPreempted s k).clock = s.clock :=
  forEach_clock _ (judgePreempted_clock k) _ s

/-! ### Monitors -/

@[simp] theorem writeWorkPlace_clock (s : State) (p : Dir) (l : Nat) (k : Key) (i v : Nat) : (writeWorkPlace s p l k i v).clock = s.clock := by
  unfold writeWorkPlace; dsimp only; split <;> simp
@[simp] theorem writeWorkPlaces_clock (s : State) (i : Nat) (e : Entry) (v : Nat) : (writeWorkPlaces s i e v).clock = s.clock := by
  unfold writeWorkPlaces
  split
  · exact forEach_clock _ (fun _ _ => writeWorkPlace_clock ..) _ s
  · rfl
@[simp] theorem watchProtection_clock (s : State) (i : Nat) (e : Entry) (v : Nat) : (watchProtection s i e v).clock = s.clock :=
  forEach_clock _ (fun _ _ => updMon_clock ..) _ s
@[simp] theorem unwatchProtection_clock (s : State) (e : Entry) : (unwatchProtection s e).clock = s.clock :=
  forEach_clock _ (fun _ _ => updMon_clock ..) _ s
@[simp] theorem laneNotice_clock (s : State) (p : Dir) (l : Nat) (k : PlaceKind) (o : Option Place) (c : Option Cond) (x y : Bool) (v : Nat) :
    (laneNotice s p l k o c x y v).clock = s.clock := by
  unfold laneNotice
  split
  · dsimp only
    split <;> simp
  · rfl
@[simp] theorem closeLane_clock (t : Nat) (s : State) (p : Dir) (l : Nat) : (closeLane t s p l).clock = s.clock := by
  unfold closeLane; dsimp only; split <;> simp
@[simp] theorem closeLanes_clock (t : Nat) (s : State) : (closeLanes t s).clock = s.clock := by
  unfold closeLanes; simp [forEach_clock]
@[simp] theorem closePaths_clock (s : State) (i : Nat) : (closePaths s i).clock = s.clock := by
  unfold closePaths; (repeat' split) <;> simp
@[simp] theorem closeRecords_clock (t : Nat) (s : State) : (closeRecords t s).clock = s.clock := by
  unfold closeRecords; simp [forEach_clock]
@[simp] theorem closeInput_clock (s : State) (p : Nat) : (closeInput s p).clock = s.clock := by
  unfold closeInput; dsimp only; split <;> simp
@[simp] theorem closeInputs_clock (s : State) : (closeInputs s).clock = s.clock := forEach_clock _ closeInput_clock _ s

/-! ### The protection controller -/

@[simp] theorem attemptSwitchreq_clock (s : State) (i : Nat) : (attemptSwitchreq s i).clock = s.clock := by
  unfold attemptSwitchreq; (repeat' split) <;> simp
@[simp] theorem attemptMarked_clock (s t : State) (i : Nat) : (attemptMarked s t i).clock = t.clock := by
  unfold attemptMarked; split <;> simp
@[simp] theorem changeState_clock (s : State) (i : Nat) (p : ProtPart) (c : ProtCause) : (changeState s i p c).clock = s.clock := by
  unfold changeState
  split
  · rfl
  · split
    · rfl
    · dsimp only
      split <;> simp
@[simp] theorem expireHoldOff_clock (s : State) (i : Nat) : (expireHoldOff s i).clock = s.clock := by
  unfold expireHoldOff; (repeat' split) <;> simp
@[simp] theorem enterHoldOff_clock (s : State) (i n : Nat) (c : ProtCause) : (enterHoldOff s i n c).clock = s.clock := by
  unfold enterHoldOff; dsimp only; split <;> simp
@[simp] theorem enterRestoreWait_clock (s : State) (i n : Nat) (c : ProtCause) : (enterRestoreWait s i n c).clock = s.clock :=
  changeState_clock s i _ c
@[simp] theorem applyOutcome_clock (s : State) (i : Nat) (p : ProtPart) (st : ProtState) (c : ProtCause) :
    (applyOutcome s i p st c).clock = s.clock := by unfold applyOutcome; split <;> simp
@[simp] theorem resendAtBoundary_clock (s : State) (i : Nat) (e : Entry) (p : ProtPart) (c : PathClass) :
    (resendAtBoundary s i e p c).clock = s.clock := by unfold resendAtBoundary; dsimp only; (repeat' split) <;> simp
@[simp] theorem protectionBoundary_clock (s : State) (i : Nat) : (protectionBoundary s i).clock = s.clock := by
  unfold protectionBoundary
  split
  · rfl
  · split
    · dsimp only
      split <;> simp
    · rfl
@[simp] theorem applyBridge_clock (s : State) (k : Key) (b : Bool) : (applyBridge s k b).clock = s.clock := by
  unfold applyBridge; (repeat' split) <;> simp
@[simp] theorem attemptBridge_clock (s : State) (i : Nat) : (attemptBridge s i).clock = s.clock := by
  unfold attemptBridge; (repeat' split) <;> simp
@[simp] theorem originBridgeOn_clock (s : State) (i : Nat) (e : Entry) (x : StationSet) : (originBridgeOn s i e x).clock = s.clock := by
  simp [originBridgeOn]
@[simp] theorem originBridgeOff_clock (s : State) (i : Nat) (e : Entry) : (originBridgeOff s i e).clock = s.clock := by
  simp [originBridgeOff]
@[simp] theorem actSwitchreq_clock (s : State) (k : Key) (n : Nat) (b : Bool) : (actSwitchreq s k n b).clock = s.clock := by
  unfold actSwitchreq
  split
  · rfl
  · split
    · rfl
    · split
      · rfl
      · dsimp only
        split_ifs <;> simp
@[simp] theorem openProtection_clock (s : State) (i : Nat) (e : Entry) (v : Nat) : (openProtection s i e v).clock = s.clock := by
  simp [openProtection]
@[simp] theorem closeProtection_clock (s : State) (e : Entry) : (closeProtection s e).clock = s.clock := by simp [closeProtection]
@[simp] theorem bridgeSeen_clock (s : State) (i : Nat) : (bridgeSeen s i).clock = s.clock := by
  unfold bridgeSeen; (repeat' split) <;> simp
@[simp] theorem correctRequest_clock (s : State) (i : Nat) (b : Bool) (x : StationSet) : (correctRequest s i b x).clock = s.clock := by
  unfold correctRequest; (repeat' split) <;> simp
@[simp] theorem actBridgeOn_clock (s : State) (k : Key) (x : StationSet) : (actBridgeOn s k x).clock = s.clock := by
  unfold actBridgeOn
  dsimp only
  split
  · simp
  · split
    · split
      · split <;> simp
      · simp
    · simp
@[simp] theorem actBridgeOff_clock (s : State) (k : Key) : (actBridgeOff s k).clock = s.clock := by
  unfold actBridgeOff
  dsimp only
  split
  · simp
  · split
    · split <;> simp
    · simp
@[simp] theorem bridgeOffAtEnd_clock (s : State) (e : Entry) : (bridgeOffAtEnd s e).clock = s.clock := by
  unfold bridgeOffAtEnd; (repeat' split) <;> simp
@[simp] theorem endProtection_clock (s : State) (i : Nat) (e : Entry) : (endProtection s i e).clock = s.clock := by simp [endProtection]

/-! ### Meters and match bills -/

@[simp] theorem restartLatches_clock (s : State) (i : Nat) : (restartLatches s i).clock = s.clock := by
  unfold restartLatches; (repeat' split) <;> simp
@[simp] theorem meterCount_clock (t : Nat) (s : State) (i : Nat) : (meterCount t s i).clock = s.clock := by
  unfold meterCount; (repeat' split) <;> simp
@[simp] theorem meterBoundary_clock (t : Nat) (s : State) (i : Nat) : (meterBoundary t s i).clock = s.clock := by simp [meterBoundary]
@[simp] theorem meterAll_clock (t : Nat) (s : State) : (meterAll t s).clock = s.clock := forEach_clock _ (meterBoundary_clock t) _ s
@[simp] theorem bindTo_clock (s : State) (i : Nat) (e : Entry) (r : Nat) (x : MatchRecord) : (bindTo s i e r x).clock = s.clock := by
  simp [bindTo]
@[simp] theorem leaveUnbound_clock (s : State) (i : Nat) (e : Entry) (c : UnboundCause) : (leaveUnbound s i e c).clock = s.clock := by
  unfold leaveUnbound; dsimp only; split_ifs <;> simp
@[simp] theorem closeRecord_clock (s : State) (n : Nat) (r : MatchRecord) : (closeRecord s n r).clock = s.clock := by simp [closeRecord]
@[simp] theorem matchStage_clock (s : State) (n : Nat) (l : Line) (b : Bool) : (matchStage s n l b).clock = s.clock := by
  unfold matchStage
  split
  · rfl
  · dsimp only
    (repeat' split) <;> simp
@[simp] theorem placeIn_clock (s : State) (i : Nat) (e : Entry) (n : Nat) (x : MatchRecord) : (placeIn s i e n x).clock = s.clock := by
  unfold placeIn; split <;> simp
@[simp] theorem placeOne_clock (s : State) (i : Nat) : (placeOne s i).clock = s.clock := by
  unfold placeOne; (repeat' split) <;> simp
@[simp] theorem placementScan_clock (s : State) : (placementScan s).clock = s.clock := forEach_clock _ placeOne_clock _ s
@[simp] theorem bindEntry_clock (s : State) (i : Nat) : (bindEntry s i).clock = s.clock := by
  unfold bindEntry; (repeat' split) <;> simp

/-! ### Windows -/

@[simp] theorem handToProtection_clock (s : State) (i v : Nat) : (handToProtection s i v).clock = s.clock := by
  unfold handToProtection; (repeat' split) <;> simp
@[simp] theorem activate_clock (s : State) (i v : Nat) : (activate s i v).clock = s.clock := by unfold activate; split <;> simp
@[simp] theorem activateOne_clock (t : Nat) (s : State) (i : Nat) : (activateOne t s i).clock = s.clock := by
  unfold activateOne; (repeat' split) <;> simp
@[simp] theorem closeOrFree_clock (s : State) (i : Nat) : (closeOrFree s i).clock = s.clock := by
  unfold closeOrFree; (repeat' split) <;> simp
@[simp] theorem release_clock (s : State) (i : Nat) : (release s i).clock = s.clock := by unfold release; split <;> simp
@[simp] theorem releaseOne_clock (t : Nat) (s : State) (i : Nat) : (releaseOne t s i).clock = s.clock := by
  unfold releaseOne; (repeat' split) <;> simp
@[simp] theorem noticeWithdrawn_clock (s : State) (i : Nat) (e : Entry) (v : Nat) (x : WithdrawEffect) :
    (noticeWithdrawn s i e v x).clock = s.clock := by unfold noticeWithdrawn; split <;> simp
@[simp] theorem lowerBeforeStart_clock (s : State) (i : Nat) (e : Entry) (v : Nat) : (lowerBeforeStart s i e v).clock = s.clock := by
  unfold lowerBeforeStart; dsimp only; (repeat' split) <;> simp
@[simp] theorem applyWithdraw_clock (s : State) (i v : Nat) : (applyWithdraw s i v).clock = s.clock := by
  unfold applyWithdraw
  dsimp only
  (repeat' split) <;> simp
@[simp] theorem attemptMarker_clock (s : State) (i : Nat) : (attemptMarker s i).clock = s.clock := by
  unfold attemptMarker; dsimp only; (repeat' split) <;> simp

/-! ### The claim controller -/

@[simp] theorem assessNew_clock (s : State) (k : Key) (b : ClaimBody) : (assessNew s k b).1.clock = s.clock := by
  unfold assessNew; split <;> simp
@[simp] theorem assessExtend_clock (s : State) (k : Key) (b : ClaimBody) : (assessExtend s k b).1.clock = s.clock := by
  unfold assessExtend; (repeat' split) <;> simp
@[simp] theorem actClaim_clock (s : State) (k : Key) (b : ClaimBody) : (actClaim s k b).1.clock = s.clock := by
  unfold actClaim; (repeat' split) <;> simp
@[simp] theorem concludeSlot_clock (s : State) (n : Nat) (c : ClaimSlot) (o : Outcome) : (concludeSlot s n c o).clock = s.clock := by
  simp [concludeSlot]
@[simp] theorem removeOwnSide_clock (s : State) (c : ClaimSlot) : (removeOwnSide s c).clock = s.clock := by
  unfold removeOwnSide; (repeat' split) <;> simp
@[simp] theorem commitOwnSide_clock (s : State) (c : ClaimSlot) : (commitOwnSide s c).clock = s.clock := by
  unfold commitOwnSide; (repeat' split) <;> simp
@[simp] theorem joinOutbound_clock (s : State) (n : Nat) (c : ClaimSlot) : (joinOutbound s n c).clock = s.clock := by
  unfold joinOutbound; dsimp only; (repeat' split) <;> simp
@[simp] theorem offerOutbound_clock (s : State) (n : Nat) (c : ClaimSlot) : (offerOutbound s n c).clock = s.clock := by
  unfold offerOutbound; dsimp only; split <;> simp
@[simp] theorem reachResult_clock (s : State) (n : Nat) (c : ClaimSlot) (r : ClaimResult) : (reachResult s n c r).clock = s.clock := by
  unfold reachResult; split <;> simp
@[simp] theorem claimBack_clock (s : State) (k : Key) (b : ClaimBody) : (claimBack s k b).clock = s.clock := by
  unfold claimBack; (repeat' split) <;> simp
@[simp] theorem noticeCommitted_clock (s : State) (i : Nat) (e : Entry) (m : Mode) : (noticeCommitted s i e m).clock = s.clock := by
  unfold noticeCommitted; split <;> simp
@[simp] theorem lateConfirm_clock (s : State) (k : Key) (m : Mode) : (lateConfirm s k m).clock = s.clock := by
  unfold lateConfirm; (repeat' split) <;> simp
@[simp] theorem actConfirm_clock (s : State) (k : Key) (m : Mode) : (actConfirm s k m).clock = s.clock := by
  unfold actConfirm; dsimp only; (repeat' split) <;> simp
@[simp] theorem actAbandon_clock (s : State) (k : Key) (m : Mode) : (actAbandon s k m).clock = s.clock := by
  unfold actAbandon; dsimp only; (repeat' split) <;> simp
@[simp] theorem actHoldlost_clock (s : State) (k : Key) (m : Mode) (n : Nat) : (actHoldlost s k m n).clock = s.clock := by
  unfold actHoldlost; (repeat' split) <;> simp
@[simp] theorem actWithdraw_clock (s : State) (k : Key) (v : Nat) : (actWithdraw s k v).clock = s.clock := by
  unfold actWithdraw; split <;> simp

/-! ### The recall controller -/

@[simp] theorem sendRecall_clock (s : State) : (sendRecall s).clock = s.clock := by unfold sendRecall; dsimp only; split <;> simp
@[simp] theorem enterRecovering_clock (s : State) : (enterRecovering s).clock = s.clock := by simp [enterRecovering]
@[simp] theorem recallSynced_clock (s : State) : (recallSynced s).clock = s.clock := by unfold recallSynced; split <;> simp
@[simp] theorem recallBack_clock (s : State) (n : Nat) : (recallBack s n).clock = s.clock := by unfold recallBack; split <;> simp
@[simp] theorem walkFrom_clock (n : Nat) (s : State) (i : Nat) : (walkFrom n s i).clock = s.clock := by
  induction n generalizing s i with
  | zero => rfl
  | succ n ih => unfold walkFrom; (repeat' split) <;> simp [ih]
@[simp] theorem walkAt_clock (s : State) (i : Nat) : (walkAt s i).clock = s.clock := walkFrom_clock _ s i
@[simp] theorem actRecall_clock (s : State) (n : Nat) : (actRecall s n).clock = s.clock := by
  unfold actRecall; dsimp only; split <;> simp
@[simp] theorem install_clock (s : State) (r : Reannounce) : (install s r).clock = s.clock := by
  unfold install; dsimp only; (repeat' split) <;> simp
@[simp] theorem recallConflict_clock (s : State) (k : Key) (r : Reason) (x : Option Nat) : (recallConflict s k r x).clock = s.clock := by
  simp [recallConflict]
@[simp] theorem judgeReannounce_clock (s : State) (r : Reannounce) : (judgeReannounce s r).clock = s.clock := by
  unfold judgeReannounce; (repeat' split) <;> simp
@[simp] theorem actReannounce_clock (s : State) (r : Reannounce) : (actReannounce s r).clock = s.clock := by
  unfold actReannounce; dsimp only; (repeat' split) <;> simp
@[simp] theorem leaveRecovery_clock (s : State) (c : EndCause) : (leaveRecovery s c).clock = s.clock := by
  unfold leaveRecovery; dsimp only; (repeat' split) <;> simp

/-! ### Continuations and ring time -/

@[simp] theorem joinWaiting_clock (s : State) (d : Dir) (n : Nat) : (joinWaiting s d n).clock = s.clock := by
  unfold joinWaiting; (repeat' split) <;> simp
@[simp] theorem takeCharge_clock (s : State) : (takeCharge s).clock = s.clock := by unfold takeCharge; split <;> simp
@[simp] theorem noticeCharged_clock (s : State) (i : Nat) (m : Meter) (l : Line) (o : ChargeOutcome) :
    (noticeCharged s i m l o).clock = s.clock := raiseNotice_clock s _ _
@[simp] theorem placeLine_clock (s : State) (i n : Nat) (m : Meter) (l : Line) : (placeLine s i n m l).clock = s.clock := by
  unfold placeLine; dsimp only; split <;> simp
@[simp] theorem keepLine_clock (s : State) (i : Nat) (e : Entry) (m : Meter) (l : Line) (c : UnboundCause) :
    (keepLine s i e m l c).clock = s.clock := by simp [keepLine]
@[simp] theorem completeCharge_clock (s : State) (i : Nat) (e : Entry) (m : Meter) : (completeCharge s i e m).clock = s.clock := by
  unfold completeCharge; split <;> simp
@[simp] theorem attemptsOne_clock (s : State) (i : Nat) : (attemptsOne s i).clock = s.clock := by unfold attemptsOne; split <;> simp
@[simp] theorem boundary_clock (t : Nat) (s : State) : (boundary t s).clock = s.clock := by simp [boundary, forEach_clock]

/-! ### Messages at their blocks -/

@[simp] theorem handBack_clock (s : State) (m : Msg) : (handBack s m).clock = s.clock := by unfold handBack; split <;> simp
@[simp] theorem actQuery_clock (s : State) (x n t k : Nat) : (actQuery s x n t k).clock = s.clock := by
  unfold actQuery; split <;> simp
@[simp] theorem actAnswer_clock (s : State) (x y n k : Nat) (c : Option Statement) : (actAnswer s x y n k c).clock = s.clock := by
  unfold actAnswer; (repeat' split) <;> simp
@[simp] theorem act_clock (s : State) (p : Dir) (m : Msg) : (act s p m).1.clock = s.clock := by unfold act; split <;> simp

/-! ### Site requests keep both shells -/

@[simp] theorem takeBooking_clock (s : State) (n : Nat) (b : Booking) : (takeBooking s n b).clock = s.clock := by simp [takeBooking]
@[simp] theorem handleBooking_clock (s : State) (b : Booking) : (handleBooking s b).state.clock = s.clock := by
  unfold handleBooking; (repeat' split) <;> simp
@[simp] theorem handleBook_clock (p : List Byte) (s : State) : (handleBook p s).state.clock = s.clock := by
  unfold handleBook; split <;> simp
@[simp] theorem withdrawEntry_clock (s : State) (i : Nat) (e : Entry) (g : Option Nat) : (withdrawEntry s i e g).state.clock = s.clock := by
  unfold withdrawEntry; dsimp only; split_ifs <;> simp
@[simp] theorem handleWithdraw_clock (p : List Byte) (s : State) : (handleWithdraw p s).state.clock = s.clock := by
  unfold handleWithdraw; split <;> simp
@[simp] theorem takeExtension_clock (s : State) (n i : Nat) (e : Entry) (v : Nat) : (takeExtension s n i e v).clock = s.clock := by
  simp [takeExtension]
@[simp] theorem extendEntry_clock (s : State) (i : Nat) (e : Entry) (v : Nat) : (extendEntry s i e v).state.clock = s.clock := by
  unfold extendEntry; (repeat' split) <;> simp
@[simp] theorem handleExtend_clock (p : List Byte) (s : State) : (handleExtend p s).state.clock = s.clock := by
  unfold handleExtend; split <;> simp
theorem manualRequest_clock (p : List Byte) (s : State) (f : Nat → Entry → ProtPart → Answer) (h : ∀ i e x, (f i e x).state.clock = s.clock) :
    (manualRequest p s f).state.clock = s.clock := by unfold manualRequest; (repeat' split) <;> simp [h]
@[simp] theorem forceDrop_clock (s : State) (i : Nat) (p : ProtPart) : (forceDrop s i p).state.clock = s.clock := by
  unfold forceDrop; split <;> simp
@[simp] theorem lockoutDrop_clock (s : State) (i : Nat) (p : ProtPart) : (lockoutDrop s i p).state.clock = s.clock := by
  unfold lockoutDrop; split <;> simp
@[simp] theorem clearDrop_clock (s : State) (i : Nat) (e : Entry) (p : ProtPart) : (clearDrop s i e p).state.clock = s.clock := by
  unfold clearDrop; split <;> simp
@[simp] theorem readIndex_clock (s : State) (i : Nat) : (readIndex s i).state.clock = s.clock := by
  unfold readIndex; (repeat' split) <;> simp
@[simp] theorem readKey_clock (s : State) (k : Key) : (readKey s k).state.clock = s.clock := by unfold readKey; split <;> simp
@[simp] theorem handleReadEntry_clock (p : List Byte) (s : State) : (handleReadEntry p s).state.clock = s.clock := by
  unfold handleReadEntry; split <;> simp
theorem matchRequest_clock (p : List Byte) (s : State) (f : Nat → MatchRecord → Answer) (h : ∀ n r, (f n r).state.clock = s.clock) :
    (matchRequest p s f).state.clock = s.clock := by unfold matchRequest; (repeat' split) <;> simp [h]
@[simp] theorem closeMatchRecord_clock (s : State) (n : Nat) (r : MatchRecord) : (closeMatchRecord s n r).state.clock = s.clock := by
  unfold closeMatchRecord; (repeat' split) <;> simp
@[simp] theorem takeRecord_clock (s : State) (n : Nat) (r : MatchRecord) : (takeRecord s n r).state.clock = s.clock := by
  unfold takeRecord; split <;> simp
@[simp] theorem takeQuery_clock (s : State) (x k : Nat) : (takeQuery s x k).clock = s.clock := by simp [takeQuery]
@[simp] theorem handleRemoteRead_clock (p : List Byte) (s : State) : (handleRemoteRead p s).state.clock = s.clock := by
  unfold handleRemoteRead; dsimp only; split_ifs <;> simp
/-! ### What a command can do to the ring clock -/

/-- The law of the ring clock, of the clock alone. -/
def Clock.lawful (c : Clock) : Prop :=
  (c.synced = false → c.seconds = 0 ∧ c.fraction = 0 ∧ c.markDeadline = none)
    ∧ (c.synced = false ∨ 4294967295 ≤ c.seconds → c.fraction = 0 ∧ c.late = 0)
    ∧ c.fraction < 1000 ∧ (0 < c.late → c.fraction = 999)

theorem clockLaw_iff (s : State) : clockLaw s ↔ s.clock.lawful := Iff.rfl

/-- The ring clock went from c to d as R23 and R24 let it: lawful still, no second back, and Synced once it is. -/
structure Clock.Goes (c d : Clock) : Prop where
  lawful  : c.lawful → d.lawful
  seconds : c.lawful → c.seconds ≤ d.seconds
  synced  : c.synced = true → d.synced = true

theorem Clock.Goes.refl (c : Clock) : c.Goes c := ⟨id, fun _ => Nat.le_refl _, id⟩

theorem Clock.Goes.of_eq {c d : Clock} (h : d = c) : c.Goes d := h ▸ .refl c

theorem Clock.Goes.trans {a b c : Clock} (h : a.Goes b) (k : b.Goes c) : a.Goes c where
  lawful ha := k.lawful (h.lawful ha)
  seconds ha := (h.seconds ha).trans (k.seconds (h.lawful ha))
  synced ha := k.synced (h.synced ha)

/-- Work after which the clock is as it was before, done on a clock that went. -/
theorem Clock.Goes.then_kept {c : Clock} {s t : State} (h : c.Goes s.clock) (k : t.clock = s.clock) : c.Goes t.clock := k ▸ h

/-- What the law says of a Synced clock (R24). -/
theorem Clock.lawful_synced {c : Clock} (hs : c.synced = true) :
    c.lawful ↔ (4294967295 ≤ c.seconds → c.fraction = 0 ∧ c.late = 0) ∧ c.fraction < 1000 ∧ (0 < c.late → c.fraction = 999) := by
  simp [Clock.lawful, hs]

/-- A clock that is Synced and below the limit has n milliseconds of its second (R24). -/
theorem Clock.goes_withRan {c : Clock} (hs : c.synced = true) (hm : c.seconds < 4294967295) (n : Nat) : c.Goes (c.withRan n) where
  lawful _ := by
    rw [Clock.lawful_synced (by exact hs)]
    simp only [Clock.withRan]
    omega
  seconds _ := Nat.le_refl _
  synced := id

theorem clockRuns_iff (s : State) : clockRuns s = true ↔ s.clock.synced = true ∧ s.clock.seconds < 4294967295 := by
  rw [clockRuns, Bool.and_eq_true, decide_eq_true_eq]
  rfl

theorem passTime_goes (s : State) (ms : Nat) : s.clock.Goes (passTime s ms).clock := by
  rw [passTime_clock]
  split
  · rename_i h
    obtain ⟨hs, hm⟩ := (clockRuns_iff s).1 h
    exact Clock.goes_withRan hs hm _
  · exact .refl _

theorem reach_goes (s : State) (d : Nat) : s.clock.Goes (reach s d).clock := passTime_goes s _

theorem startMark_goes (s : State) : s.clock.Goes (startMark s).clock := by
  unfold startMark
  split
  · rename_i h
    exact ⟨fun hl => by simpa [Clock.lawful, h] using hl, fun _ => Nat.le_refl _, id⟩
  · exact .refl _

/-- A completed second goes on to the next one, at the limit with fraction 0 (R24). -/
theorem Clock.goes_nextSecond {c : Clock} (hs : c.synced = true) : c.Goes c.nextSecond where
  lawful _ := by
    have hlimit : carried c = 0 ∨ c.seconds + 1 < 4294967295 := by
      unfold carried
      split
      · exact .inr ‹_›
      · exact .inl rfl
    rw [Clock.lawful_synced (by exact hs)]
    simp only [Clock.nextSecond, Clock.withRan]
    omega
  seconds _ := Nat.le_succ _
  synced := id

theorem runSecond_goes (s : State) : s.clock.Goes (runSecond s).clock := by
  unfold runSecond
  split
  · rename_i h
    rw [boundary_clock]
    exact Clock.goes_nextSecond ((clockRuns_iff s).1 h).1
  · exact .refl _

theorem jump_clock (s : State) (j : Nat) :
    (jump s j).clock = { s.clock with seconds := s.clock.seconds + j, fraction := 0, late := 0 } :=
  forEach_clock (fun t n => boundary (s.clock.seconds + n + 1) t) (fun t _ => boundary_clock _ t) (List.range j) (setSeconds s _)

theorem jump_goes {s : State} (hs : s.clock.synced = true) (j : Nat) : s.clock.Goes (jump s j).clock := by
  rw [jump_clock]
  exact ⟨fun _ => by simp [Clock.lawful, hs], fun _ => Nat.le_add_right _ _, id⟩

theorem becomeSynced_clock (s : State) (v : Nat) (c : SyncCause) :
    (becomeSynced s v c).clock
      = { synced := true, seconds := v, fraction := 0, late := 0, markDeadline := some (s.nowMs + 10000) } := by
  simp [becomeSynced, after, Config.markMs]

theorem becomeSynced_goes {s : State} (hs : s.clock.synced = false) (v : Nat) (c : SyncCause) :
    s.clock.Goes (becomeSynced s v c).clock := by
  rw [becomeSynced_clock]
  refine ⟨fun _ => by simp [Clock.lawful], fun hl => ?_, fun h => by simp [hs] at h⟩
  obtain ⟨hu, -⟩ := hl
  simp [(hu hs).1]

theorem takeStamp_goes (s : State) (m : Msg) : s.clock.Goes (takeStamp s m).clock := by
  unfold takeStamp
  split_ifs with hu hs hle hfour
  · exact .refl _
  · exact becomeSynced_goes (by simpa using hs) _ _
  · exact .refl _
  · exact jump_goes (by simpa using hs) _
  · exact .of_eq (raiseNotice_clock ..)

/-! ### The clock through the header processor -/

theorem placeHead_goes (s : State) (d side : Dir) : s.clock.Goes (placeHead s d side).clock := by
  unfold placeHead
  split
  · exact .of_eq (emit_clock ..)
  · exact (Clock.Goes.of_eq (by simp)).trans (startMark_goes _)

theorem serveFolded_goes (s : State) (side : Dir) : s.clock.Goes (serveFolded s side).clock := by
  unfold serveFolded
  split
  · exact .of_eq (emit_clock ..)
  · rename_i d _
    exact placeHead_goes (s.withLane { s.lane with lastServed := d }) d side

theorem continueEmpty_goes (s : State) (port : Dir) (fill : Bool) : s.clock.Goes (continueEmpty s port fill).clock := by
  unfold continueEmpty
  dsimp only
  split_ifs
  · exact .of_eq (emit_clock ..)
  · exact (Clock.Goes.of_eq (emit_clock ..)).trans (serveFolded_goes _ port)
  · exact .of_eq (by simp)
  · exact placeHead_goes s _ _
  · exact .of_eq (emit_clock ..)

theorem forward_goes (s : State) (port : Dir) (m : Msg) : s.clock.Goes (forward s port m).clock := by
  unfold forward
  dsimp only
  split_ifs
  · exact .of_eq (emit_clock ..)
  · exact continueEmpty_goes s port true
  · exact .of_eq (by simp)

theorem handleFull_goes (s : State) (port : Dir) (m : Msg) : s.clock.Goes (handleFull s port m).clock := by
  unfold handleFull
  dsimp only
  split_ifs
  · exact (Clock.Goes.of_eq (handBack_clock s m)).trans (continueEmpty_goes _ port false)
  · exact continueEmpty_goes s port true
  · exact continueEmpty_goes s port true
  · exact (Clock.Goes.of_eq (act_clock s port _)).trans (forward_goes _ port _)
  · exact forward_goes s port _

theorem arriveFull_goes (s : State) (port : Dir) (far : Bool) (m : Msg) : s.clock.Goes (arriveFull s port far m).clock := by
  unfold arriveFull
  dsimp only
  split_ifs
  · exact .of_eq (by simp)
  · exact (Clock.Goes.of_eq (noteFar_clock ..)).trans ((takeStamp_goes _ m).trans (handleFull_goes _ port m))
  · exact .of_eq (putSlot_clock ..)

theorem arriveEmpty_goes (s : State) (port : Dir) (far : Bool) : s.clock.Goes (arriveEmpty s port far).clock := by
  unfold arriveEmpty
  split_ifs
  · exact (Clock.Goes.of_eq (noteFar_clock ..)).trans (continueEmpty_goes _ port true)
  · exact .of_eq (putSlot_clock ..)

theorem exec_slot_goes {c : Instr} {port : Dir} {slot : Slot} (hc : slotOf c = some (port, slot)) (s : State) :
    ∃ t, exec c s = .next t ∧ s.clock.Goes t.clock := by
  rw [exec_of_slotOf hc]
  refine ⟨_, rfl, ?_⟩
  split
  · exact arriveFull_goes ..
  · exact arriveEmpty_goes ..

/-! ### The clock through the site port -/

theorem siteRequest_goes (s : State) (tag code : Byte) (params : List Byte) (handle : State → Answer)
    (h : s.clock.Goes (handle s).state.clock) : s.clock.Goes (siteRequest s tag code params handle).clock := by
  have hchecked : s.clock.Goes (checked code params handle s).state.clock := by
    unfold checked
    split_ifs
    · exact .refl _
    · exact .refl _
    · exact h
  obtain he | ⟨-, he⟩ | ⟨-, he⟩ := takeRequest_spec s tag code (checked code params handle) <;> rw [siteRequest, he]
  · exact .refl _
  · exact .of_eq (joinShort_clock ..)
  · exact hchecked

theorem handleSetClock_goes (p : List Byte) (s : State) : s.clock.Goes (handleSetClock p s).state.clock := by
  unfold handleSetClock
  split_ifs with h
  · exact .refl _
  · exact becomeSynced_goes (by simpa using h) _ _

theorem exec_request_goes {c : Instr} {x : Byte × Byte × List Byte} (hc : requestOf c = some x) (s : State) :
    ∃ t, exec c s = .next t ∧ s.clock.Goes t.clock := by
  have kept (tag code : Byte) (params : List Byte) (handle : State → Answer) (h : (handle s).state.clock = s.clock) :
      s.clock.Goes (siteRequest s tag code params handle).clock := siteRequest_goes s tag code params handle (.of_eq h)
  cases c
  case book => exact ⟨_, rfl, kept _ _ _ _ (handleBook_clock ..)⟩
  case withdraw => exact ⟨_, rfl, kept _ _ _ _ (handleWithdraw_clock ..)⟩
  case extend => exact ⟨_, rfl, kept _ _ _ _ (handleExtend_clock ..)⟩
  case setClock => exact ⟨_, rfl, siteRequest_goes _ _ _ _ _ (handleSetClock_goes ..)⟩
  case force => exact ⟨_, rfl, kept _ _ _ _ (manualRequest_clock _ _ _ (fun _ _ _ => forceDrop_clock ..))⟩
  case lockout => exact ⟨_, rfl, kept _ _ _ _ (manualRequest_clock _ _ _ (fun _ _ _ => lockoutDrop_clock ..))⟩
  case clearSwitch => exact ⟨_, rfl, kept _ _ _ _ (manualRequest_clock _ _ _ (fun _ _ _ => clearDrop_clock ..))⟩
  case readEntry => exact ⟨_, rfl, kept _ _ _ _ (handleReadEntry_clock ..)⟩
  case readMonitor => exact ⟨_, rfl, kept _ _ _ _ rfl⟩
  case readMatch => exact ⟨_, rfl, kept _ _ _ _ (matchRequest_clock _ _ _ (fun _ _ => rfl))⟩
  case closeMatch => exact ⟨_, rfl, kept _ _ _ _ (matchRequest_clock _ _ _ (closeMatchRecord_clock s))⟩
  case takeStatement => exact ⟨_, rfl, kept _ _ _ _ (matchRequest_clock _ _ _ (takeRecord_clock s))⟩
  case remoteRead => exact ⟨_, rfl, kept _ _ _ _ (handleRemoteRead_clock ..)⟩
  case restart => exact ⟨_, rfl, kept _ _ _ _ rfl⟩
  all_goals simp [requestOf] at hc

theorem sendNext_clock (s : State) : (sendNext s).clock = s.clock := by unfold sendNext; (repeat' split) <;> simp

theorem answerBadFrame_clock (s : State) : (answerBadFrame s).clock = s.clock := joinShort_clock s _

/-! ### The clock through the timer commands -/

@[simp] theorem postponeRetry_clock (s : State) (n : Nat) (c : ClaimSlot) : (postponeRetry s n c).clock = s.clock := rfl
theorem retryNew_clock (s : State) (n : Nat) (c : ClaimSlot) : (retryNew s n c).clock = s.clock := by
  unfold retryNew; dsimp only; (repeat' split) <;> simp
theorem retryExtend_clock (s : State) (n : Nat) (c : ClaimSlot) : (retryExtend s n c).clock = s.clock := by
  unfold retryExtend; dsimp only; (repeat' split) <;> simp
theorem expireRetry_clock (s : State) (n : Nat) (c : ClaimSlot) : (expireRetry s n c).clock = s.clock := by
  unfold expireRetry
  split
  · exact retryNew_clock s n c
  · exact retryExtend_clock s n c
theorem expireRestoreWait_clock (s : State) (i : Nat) : (expireRestoreWait s i).clock = s.clock := by
  unfold expireRestoreWait; (repeat' split) <;> simp
theorem expireResend_clock (s : State) : (expireResend s).clock = s.clock := by unfold expireResend; split <;> simp
theorem lapseTentative_clock (s : State) (i : Nat) (e : Entry) : (lapseTentative s i e).clock = s.clock := by simp [lapseTentative]
theorem lapseExtension_clock (s : State) (i : Nat) (e : Entry) : (lapseExtension s i e).clock = s.clock := by simp [lapseExtension]
theorem lapseQuery_clock (s : State) (q : Query) : (lapseQuery s q).clock = s.clock := by simp [lapseQuery]

/-- A timer command of any kind: its deadline is reached, and what its rule gives then leaves the clock to itself. -/
theorem goes_after_reach {s t : State} {d : Nat} (h : t.clock = (reach s d).clock) : s.clock.Goes t.clock := (reach_goes s d).then_kept h

theorem expireMark_goes (s : State) : s.clock.Goes (expireMark s).clock := by
  unfold expireMark
  refine Clock.Goes.trans (.of_eq ?_) (startMark_goes _)
  split
  · exact joinCounted_clock ..
  · rfl

theorem execMarkTimerExpiry_goes (s : State) : ∃ t, execMarkTimerExpiry s = .next t ∧ s.clock.Goes t.clock := by
  refine ⟨_, rfl, ?_⟩
  split
  · exact (reach_goes ..).trans (expireMark_goes _)
  · exact .refl _

theorem execSecondBoundary_goes (s : State) : ∃ t, execSecondBoundary s = .next t ∧ s.clock.Goes t.clock := by
  refine ⟨_, rfl, ?_⟩
  split_ifs
  · exact runSecond_goes (s.withNowMs (s.nowMs + (1000 - s.clock.ran)))
  · exact .refl _

theorem execCircuitTimeout_goes (n : Nat) (s : State) : ∃ t, execCircuitTimeout n s = .next t ∧ s.clock.Goes t.clock := by
  refine ⟨_, rfl, ?_⟩
  split
  · split
    · exact goes_after_reach (reachResult_clock ..)
    · exact .refl _
  · exact .refl _

theorem execTentativeLifetimeExpiry_goes (i : Nat) (s : State) :
    ∃ t, execTentativeLifetimeExpiry i s = .next t ∧ s.clock.Goes t.clock := by
  refine ⟨_, rfl, ?_⟩
  split
  · split
    · exact goes_after_reach (lapseTentative_clock ..)
    · exact .refl _
  · exact .refl _

theorem execExtensionLifetimeExpiry_goes (i : Nat) (s : State) :
    ∃ t, execExtensionLifetimeExpiry i s = .next t ∧ s.clock.Goes t.clock := by
  refine ⟨_, rfl, ?_⟩
  split
  · split
    · exact goes_after_reach (lapseExtension_clock ..)
    · exact .refl _
  · exact .refl _

theorem execRetryDeadline_goes (n : Nat) (s : State) : ∃ t, execRetryDeadline n s = .next t ∧ s.clock.Goes t.clock := by
  refine ⟨_, rfl, ?_⟩
  split
  · split
    · exact goes_after_reach (expireRetry_clock ..)
    · exact .refl _
  · exact .refl _

theorem execAgeDeadline_goes (k : Key) (mode : Mode) (s : State) : ∃ t, execAgeDeadline k mode s = .next t ∧ s.clock.Goes t.clock := by
  refine ⟨_, rfl, ?_⟩
  split
  · exact goes_after_reach (discardRecent_clock ..)
  · exact .refl _

theorem execHoldOffExpiry_goes (i : Nat) (s : State) : ∃ t, execHoldOffExpiry i s = .next t ∧ s.clock.Goes t.clock := by
  refine ⟨_, rfl, ?_⟩
  split
  · split
    · exact goes_after_reach ((attemptMarked_clock ..).trans (expireHoldOff_clock ..))
    · exact .refl _
  · exact .refl _

theorem execRestoreWaitExpiry_goes (i : Nat) (s : State) : ∃ t, execRestoreWaitExpiry i s = .next t ∧ s.clock.Goes t.clock := by
  refine ⟨_, rfl, ?_⟩
  split
  · split
    · exact goes_after_reach ((attemptMarked_clock ..).trans (expireRestoreWait_clock ..))
    · exact .refl _
  · exact .refl _

theorem execResendDeadline_goes (s : State) : ∃ t, execResendDeadline s = .next t ∧ s.clock.Goes t.clock := by
  refine ⟨_, rfl, ?_⟩
  split
  · exact goes_after_reach (expireResend_clock _)
  · exact .refl _

theorem execQuietDeadline_goes (s : State) : ∃ t, execQuietDeadline s = .next t ∧ s.clock.Goes t.clock := by
  refine ⟨_, rfl, ?_⟩
  split
  · exact goes_after_reach (leaveRecovery_clock ..)
  · exact .refl _

theorem execRecoveryLimit_goes (s : State) : ∃ t, execRecoveryLimit s = .next t ∧ s.clock.Goes t.clock := by
  refine ⟨_, rfl, ?_⟩
  split
  · exact goes_after_reach (leaveRecovery_clock ..)
  · exact .refl _

theorem execQueryDeadline_goes (s : State) : ∃ t, execQueryDeadline s = .next t ∧ s.clock.Goes t.clock := by
  refine ⟨_, rfl, ?_⟩
  split
  · exact goes_after_reach (lapseQuery_clock ..)
  · exact .refl _

/-! ### The clock through the monitors, the lane frames and the warm reset -/

theorem losePins_clock (s : State) (side : Dir) (c : LossCause) : (losePins s side c).clock = s.clock := by cases side <;> cases c <;> rfl
theorem restorePins_clock (s : State) (side : Dir) : (restorePins s side).clock = s.clock := by cases side <;> rfl
theorem reportSpan_clock (s : State) (side : Dir) (up : Bool) (c : SpanCause) : (reportSpan s side up c).clock = s.clock := by
  unfold reportSpan; dsimp only; split_ifs <;> simp
theorem loseSpan_clock (s : State) (side : Dir) (c : LossCause) : (loseSpan s side c).clock = s.clock := by
  unfold loseSpan
  split
  · exact (reportSpan_clock ..).trans (setSpan_clock ..)
  · exact setSpan_clock ..
theorem generateSlot_clock (s : State) (side : Dir) : (generateSlot s side).clock = s.clock := by unfold generateSlot; split <;> simp
theorem regainSpan_clock (s : State) (side : Dir) : (regainSpan s side).clock = s.clock := by unfold regainSpan; split <;> simp

theorem execSpanLoss_clock (side : Dir) (c : LossCause) (s : State) : ∃ t, execSpanLoss side c s = .next t ∧ t.clock = s.clock := by
  refine ⟨_, rfl, (generateSlot_clock ..).trans ?_⟩
  split
  · exact (loseSpan_clock ..).trans (losePins_clock ..)
  · exact losePins_clock ..

theorem execSpanSignalReturn_clock (side : Dir) (s : State) : ∃ t, execSpanSignalReturn side s = .next t ∧ t.clock = s.clock := by
  refine ⟨_, rfl, ?_⟩
  split
  · exact (regainSpan_clock ..).trans (restorePins_clock ..)
  · exact restorePins_clock ..

theorem execSpanConfirmed_goes (side : Dir) (s : State) : ∃ t, execSpanConfirmed side s = .next t ∧ s.clock.Goes t.clock := by
  refine ⟨_, rfl, ?_⟩
  split
  · exact goes_after_reach ((reportSpan_clock ..).trans (setSpan_clock ..))
  · exact .refl _

theorem execInputStateChange_clock (p : Nat) (b : Bool) (s : State) : ∃ t, execInputStateChange p b s = .next t ∧ t.clock = s.clock := by
  refine ⟨_, rfl, ?_⟩
  split <;> rfl

theorem takeLanes_clock (p : Period) (s : State) : (takeLanes p s).clock = s.clock :=
  (forEach_clock _ (fun _ _ => updMon_clock ..) _ _).trans (forEach_clock _ (fun _ _ => updMon_clock ..) _ s)

theorem settleOne_clock (p : Period) (s : State) (i : Nat) : (settleOne p s i).clock = s.clock := by
  unfold settleOne
  split
  · rfl
  · dsimp only
    have watched (b : Bool) (t : State) (port : Dir) (l : List Nat) (f : LaneMon → LaneMon) :
        (if b then forEach l t (fun t lane => updMon t port lane f) else t).clock = t.clock := by
      split
      · exact forEach_clock _ (fun _ _ => updMon_clock ..) _ t
      · rfl
    split
    · rw [watched, watched]
    · rfl

theorem selectOne_clock (p : Period) (s : State) (i : Nat) : (selectOne p s i).clock = s.clock := by
  unfold selectOne; (repeat' split) <;> simp

theorem framePeriod_clock (p : Period) (s : State) : (framePeriod p s).clock = s.clock := by
  unfold framePeriod monitorPeriod
  rw [State.withSwitch_clock, forEach_clock _ (selectOne_clock p), forEach_clock _ (settleOne_clock p), takeLanes_clock]

theorem execWarmReset_goes (s : State) : ∃ t, execWarmReset s = .next t ∧ s.clock.Goes t.clock := by
  refine ⟨_, rfl, ?_⟩
  split
  · have hkept : (warmRemarked (warmClear s)).clock = s.clock :=
      (warmRemarked_clock _).trans (changesOnly_clock (warmClear_changesOnly s) (by decide))
    rw [State.withSite_clock, warmStart_clock, ← hkept]
    exact startMark_goes _
  · exact .refl _

theorem endLoad_clock (s : State) (image : List Byte) : (endLoad s image).clock = s.clock := by
  unfold endLoad
  dsimp only
  split
  · exact (emit_clock ..).trans (emit_clock ..)
  · rfl

/-! ### Every command -/

/-- Every command but a cold reset lets the ring clock go on lawfully (R23, R24). -/
theorem exec_clock_goes (c : Instr) (s : State) (hc : c ≠ .coldReset) : ∃ t, exec c s = .next t ∧ s.clock.Goes t.clock := by
  cases c
  case book | withdraw | extend | setClock | force | lockout | clearSwitch | readEntry | readMonitor | readMatch | closeMatch | takeStatement
      | remoteRead | restart => exact exec_request_goes rfl s
  case bypassSlotForward | slotDroppedOnWrap | emptySlotArrival | markReceived | unknownKindMessage | claimReceived | claimReturned
      | confirmReceived | abandonReceived | withdrawReceived | holdlostReceived | switchreqReceived | bridgeOnReceived | bridgeOffReceived
      | spanstateReceived | queryReceived | answerReceived | recallReceived | recallReturned | reannounceReceived =>
    exact exec_slot_goes rfl s
  case unknownRequest tag code _ =>
    refine ⟨_, rfl, ?_⟩
    split
    · exact .refl _
    · obtain he | ⟨-, he⟩ | ⟨-, he⟩ := takeRequest_spec s _ _ (fun t => turnDown t .badRequest) <;> rw [he]
      · exact .refl _
      · exact .of_eq (joinShort_clock ..)
      · exact .refl _
  case badFrame => exact ⟨_, rfl, by split <;> [exact .of_eq (answerBadFrame_clock s); exact .refl _]⟩
  case interByteTimeout => exact ⟨_, rfl, by split <;> [exact .of_eq (answerBadFrame_clock s); exact .refl _]⟩
  case frameSent => exact ⟨_, rfl, .of_eq (sendNext_clock s)⟩
  case warmReset => exact execWarmReset_goes s
  case coldReset => exact absurd rfl hc
  case configurationLoad image => exact ⟨_, rfl, by split <;> [exact .of_eq (endLoad_clock s image); exact .refl _]⟩
  case resetPinRelease => exact ⟨_, rfl, by split <;> exact .refl _⟩
  case outboundJoin => exact ⟨_, rfl, by split <;> [exact .of_eq (joinWaiting_clock ..); exact .refl _]⟩
  case holdlostHeldOverJoin => exact ⟨_, rfl, .of_eq (joinHeldOver_clock s)⟩
  case walkResume => exact ⟨_, rfl, by split <;> [exact .of_eq (walkAt_clock ..); exact .refl _]⟩
  case markTimerExpiry => exact execMarkTimerExpiry_goes s
  case secondBoundary => exact execSecondBoundary_goes s
  case chargeTake => exact ⟨_, rfl, .of_eq (takeCharge_clock s)⟩
  case chargeCompletion =>
    exact ⟨_, rfl, by (repeat' split) <;> [exact .refl _; exact .refl _; exact .of_eq (completeCharge_clock ..); exact .refl _]⟩
  case circuitTimeout => exact execCircuitTimeout_goes _ s
  case tentativeLifetimeExpiry => exact execTentativeLifetimeExpiry_goes _ s
  case extensionLifetimeExpiry => exact execExtensionLifetimeExpiry_goes _ s
  case retryDeadline => exact execRetryDeadline_goes _ s
  case ageDeadline => exact execAgeDeadline_goes _ _ s
  case holdOffExpiry => exact execHoldOffExpiry_goes _ s
  case restoreWaitExpiry => exact execRestoreWaitExpiry_goes _ s
  case resendDeadline => exact execResendDeadline_goes s
  case quietDeadline => exact execQuietDeadline_goes s
  case recoveryLimit => exact execRecoveryLimit_goes s
  case queryDeadline => exact execQueryDeadline_goes s
  case spanLoss side cause => exact (execSpanLoss_clock side cause s).imp fun _ h => ⟨h.1, .of_eq h.2⟩
  case spanSignalReturn side => exact (execSpanSignalReturn_clock side s).imp fun _ h => ⟨h.1, .of_eq h.2⟩
  case spanConfirmed => exact execSpanConfirmed_goes _ s
  case inputStateChange port x => exact (execInputStateChange_clock port x s).imp fun _ h => ⟨h.1, .of_eq h.2⟩
  case laneFramePeriod => exact ⟨_, rfl, .of_eq (framePeriod_clock ..)⟩

theorem goes_of_exec {c : Instr} {s t : State} (hc : c ≠ .coldReset) (h : exec c s = .next t) : s.clock.Goes t.clock := by
  obtain ⟨u, hu, hg⟩ := exec_clock_goes c s hc
  obtain rfl : u = t := by simpa using hu.symm.trans h
  exact hg

/-- Settles O12: every command but a cold reset lets the clock go on, so no second goes back and Synced is kept (R23, R24). -/
theorem ringSecondsNeverDecrease : Obligations.RingSecondsNeverDecrease := by
  intro c s t hl hx hc
  have hg := goes_of_exec hc hx
  exact ⟨hg.seconds hl, hg.synced⟩

theorem Clock.lawful_reset : Clock.reset.lawful := by simp [Clock.lawful, Clock.reset]

/-- With no command waiting a millisecond passes, or a second waits for its boundary: lawful both (R24, log 2). -/
theorem idle_goes (s : State) : s.clock.Goes (idle s).clock := by
  unfold idle
  split
  · unfold passMs
    dsimp only
    split
    · exact .refl _
    · exact passTime_goes s 1
  · exact .refl _

/-- Settles O10: the front command keeps the law or is a cold reset, which comes back to the lawful reset clock; so does the tick. -/
theorem clockLawKept : Obligations.ClockLawKept := by
  intro s t hl hx
  unfold step at hx
  split at hx
  · obtain rfl := Host.Outcome.next.inj hx
    exact (idle_goes s).lawful hl
  · rename_i c rest _
    by_cases hc : c = .coldReset
    · subst hc
      obtain rfl := Host.Outcome.next.inj hx
      exact Clock.lawful_reset
    · exact (goes_of_exec hc hx).lawful hl

end Sys2Proof.Machine

namespace Sys2Proof.Machine

/-! ### The laws at reset -/

/-- Settles O3: every table of the reset state is empty, and its clock stands Unsynced at 0. -/
theorem resetMeetsLaws : Obligations.ResetMeetsLaws := by
  have hfree {i : Nat} {e : Entry} (h : State.reset.entry i = some e) : False := by simp [reset_entry] at h
  have hqueue : closeQueueLaw State.reset :=
    ⟨List.nodup_nil, fun _ h => absurd h List.not_mem_nil, fun _ h => absurd h (Option.some_ne_none _).symm⟩
  have hbridged : bridgedLaw State.reset := ⟨List.nodup_nil, Nat.zero_le _, fun _ h => absurd h List.not_mem_nil⟩
  exact ⟨List.nodup_nil, fun _ _ _ h => (hfree h).elim, hqueue, ⟨rfl, fun _ _ _ _ h => (hfree h).elim⟩, Clock.lawful_reset, hbridged⟩

/-! ### Becoming Synced -/

@[simp] theorem sendRecall_site (s : State) : (sendRecall s).site = s.site := by unfold sendRecall; dsimp only; split <;> simp
@[simp] theorem enterRecovering_site (s : State) : (enterRecovering s).site = s.site := by simp [enterRecovering]
@[simp] theorem recallSynced_site (s : State) : (recallSynced s).site = s.site := by unfold recallSynced; split <;> simp

theorem sendRecall_changesOnly (s : State) : changesOnly [.lane, .recov] s (sendRecall s) := by
  unfold sendRecall
  dsimp only
  split
  · exact changesOnly_trans (changesOnly_mono (withRecov_changesOnly s _) (by decide)) (changesOnly_mono (joinCounted_changesOnly _ _) (by decide))
  · exact changesOnly_mono (withRecov_changesOnly s _) (by decide)

theorem recallSynced_changesOnly (s : State) : changesOnly [.lane, .recov] s (recallSynced s) := by
  unfold recallSynced
  split
  · exact changesOnly_trans (changesOnly_mono (withRecov_changesOnly s _) (by decide)) (sendRecall_changesOnly _)
  · exact changesOnly_refl _ s

/-- A recovery begins with its first RECALL sent and its two deadlines running (R86, R87). -/
theorem recallSynced_begins {s : State} (h : s.recov.state = .awaitingSync) :
    (recallSynced s).recov.state = .recovering ∧ (recallSynced s).recov.sends = 1 ∧ (recallSynced s).recov.returned = false
      ∧ (recallSynced s).recov.resend = some (s.nowMs + 500) ∧ (recallSynced s).recov.limit = some (s.nowMs + 10000) := by
  unfold recallSynced
  rw [if_pos h]
  unfold enterRecovering sendRecall
  dsimp only
  split <;> exact ⟨rfl, rfl, rfl, rfl, rfl⟩

theorem becomeSynced_changesOnly (s : State) (v : Nat) (c : SyncCause) : changesOnly [.clock, .lane, .recov, .mons, .site] s (becomeSynced s v c) :=
  changesOnly_trans (changesOnly_mono (withClock_changesOnly s _) (by decide))
    (changesOnly_trans (changesOnly_mono (withMons_changesOnly _ _) (by decide))
      (changesOnly_trans (changesOnly_mono (raiseNotice_changesOnly _ _ _) (by decide)) (changesOnly_mono (recallSynced_changesOnly _) (by decide))))

/-- Becoming Synced touches the site port's notices alone, and ClockSynced stands there (R25, R31). -/
theorem becomeSynced_site (s : State) (v : Nat) (c : SyncCause) :
    (becomeSynced s v c).site = { s.site with notices := (becomeSynced s v c).site.notices } := by
  unfold becomeSynced
  rw [recallSynced_site, raiseNotice_site]
  split <;> rfl

theorem becomeSynced_notice {s : State} (h : s.phase = .normal) (v : Nat) (c : SyncCause) :
    noticeAt (becomeSynced s v c) sourceClock = some (.clockSynced v c) := by
  have hraised {t u : State} (ht : t.site = u.site) (src : Nat) : noticeAt t src = noticeAt u src := by rw [noticeAt, ht, noticeAt]
  rw [becomeSynced, hraised (recallSynced_site _)]
  refine noticeAt_raiseNotice ?_ _ _
  exact running_of_normal (s := s) h

theorem becomeSynced_recov {s : State} (h : s.recov.state = .awaitingSync) (v : Nat) (c : SyncCause) :
    (becomeSynced s v c).recov.state = .recovering ∧ (becomeSynced s v c).recov.sends = 1 ∧ (becomeSynced s v c).recov.returned = false
      ∧ (becomeSynced s v c).recov.resend = some (s.nowMs + 500) ∧ (becomeSynced s v c).recov.limit = some (s.nowMs + 10000) := by
  have hrec (u : State) (hr : u.recov = s.recov) (hn : u.nowMs = s.nowMs) := hn ▸ recallSynced_begins (s := u) (hr ▸ h)
  exact hrec _ (raiseNotice_recov ..) (raiseNotice_nowMs ..)

/-- Settles O22: an Unsynced clock becomes Synced at the value, a Synced one turns the request down (R25, R31, R86). -/
theorem setClockSyncs : Obligations.SetClockSyncs := by
  intro s tag params hready hlen
  have hl : lengthOk codeSetClock params.length = true := by rw [hlen]; rfl
  refine ⟨fun hs => ?_, fun hs => ?_⟩
  · have hanswer : handleSetClock params s
        = { state := becomeSynced s (fieldAt params 0 4) .setClock, status := .done, data := .none } := by simp [handleSetClock, hs, answer]
    have hnormal : s.phase = .normal := hready.2
    refine ⟨_, congrArg Host.Outcome.next (siteRequest_answered hready tag hl hanswer), becomeSynced_clock s _ _,
      becomeSynced_notice hnormal _ _, ?_, fun hw => becomeSynced_recov hw _ _,
      changesOnly_trans (becomeSynced_changesOnly s _ _) (changesOnly_mono (withSite_changesOnly _ _) (by decide))⟩
    unfold repliesWith
    rw [State.withSite_site, becomeSynced_site]
  · have hwrong : handleSetClock params s = turnDown s .wrongState := by simp [handleSetClock, hs]
    exact congrArg Host.Outcome.next (siteRequest_turnDown hready tag hl hwrong)

end Sys2Proof.Machine

namespace Sys2Proof.Machine

/-! ### Reading a table after a change -/

theorem modifyAt_getD {α : Type} (l : List α) (i j : Nat) (f : α → α) (a : α) :
    ((modifyAt l i f)[j]?).getD a = if i = j ∧ j < l.length then f ((l[j]?).getD a) else (l[j]?).getD a := by
  by_cases hij : i = j
  · subst hij
    rw [modifyAt_same]
    by_cases hlt : i < l.length
    · simp [hlt]
    · simp [hlt]
  · rw [modifyAt_ne _ _ _ _ hij, if_neg (fun h => hij h.1)]

theorem cell_updCell (s : State) (d c : Dir) (l x : Nat) (f : Cell → Cell) :
    (updCell s d l f).cell c x
      = if cellAt d l = cellAt c x ∧ cellAt c x < s.switch.cells.length then f (s.cell c x) else s.cell c x :=
  modifyAt_getD _ _ _ _ _

theorem output_updOutput (s : State) (p q : Nat) (f : Output → Output) :
    (updOutput s p f).output q = if p = q ∧ q < s.switch.outputs.length then f (s.output q) else s.output q :=
  modifyAt_getD _ _ _ _ _

theorem output_of_switch {s t : State} (h : t.switch = s.switch) (p : Nat) : t.output p = s.output p := by simp [State.output, h]
theorem cell_of_cells {s t : State} (h : t.switch.cells = s.switch.cells) (d : Dir) (x : Nat) : t.cell d x = s.cell d x := by
  simp [State.cell, h]

theorem noticeAt_of_site {s t : State} (h : t.site = s.site) (src : Nat) : noticeAt t src = noticeAt s src := by rw [noticeAt, h, noticeAt]

/-- A notice of another source leaves what a source has to tell (R197). -/
theorem noticeAt_raiseNotice_ne (s : State) {src other : Nat} (h : other ≠ src) (c : NoticeBody) :
    noticeAt (raiseNotice s other c) src = noticeAt s src := by
  unfold noticeAt
  rw [raiseNotice_site]
  split
  · congr 1
    change (placeNotice s.site.notices other c s.now).find? _ = _
    unfold placeNotice
    split
    · have hkeep : ((fun n : Notice => n.source == src) ∘ fun n : Notice => if n.source == other then
          { n with content := c, seconds := s.now, superseded := raiseSat 255 n.superseded } else n) = fun n => n.source == src := by
        funext x
        simp only [Function.comp_apply]
        split <;> rfl
      rw [List.find?_map, hkeep]
      cases hf : s.site.notices.find? (fun n => n.source == src) with
      | none => rfl
      | some n =>
        have hn : n.source = src := by simpa using List.find?_some hf
        simp [hn, h.symm]
    · simp [List.find?_append, h]
  · rfl

theorem sourceEntry_ne {i j : Nat} (h : i ≠ j) : sourceEntry i ≠ sourceEntry j := fun hs => h (Nat.add_left_cancel hs)

/-! ### Scans of the calendar, visit by visit -/

/-- A scan of different indexes visits each once: the indexes before it, it, the indexes after it. -/
theorem forEach_split {l : List Nat} (hl : l.Nodup) {i : Nat} (hi : i ∈ l) : ∃ a b, (∀ j ∈ a, j ∈ l ∧ j ≠ i) ∧ (∀ j ∈ b, j ∈ l ∧ j ≠ i) ∧
    ∀ (s : State) (f : State → Nat → State), forEach l s f = forEach b (f (forEach a s f) i) f := by
  obtain ⟨a, b, rfl⟩ := List.append_of_mem hi
  rw [List.nodup_middle, List.nodup_cons, List.mem_append, not_or] at hl
  obtain ⟨⟨ha, hb⟩, -⟩ := hl
  exact ⟨a, b, fun j hj => ⟨List.mem_append_left _ hj, fun h => ha (h ▸ hj)⟩,
    fun j hj => ⟨List.mem_append_right _ (List.mem_cons_of_mem _ hj), fun h => hb (h ▸ hj)⟩, fun s f => List.foldl_append⟩

theorem forEach_indexes {i : Nat} (hi : i < 64) : ∃ a b, i ∉ a ∧ i ∉ b ∧
    ∀ (s : State) (f : State → Nat → State), forEach indexes s f = forEach b (f (forEach a s f) i) f := by
  obtain ⟨a, b, ha, hb, h⟩ := forEach_split (l := indexes) List.nodup_range (List.mem_range.2 hi)
  exact ⟨a, b, fun hn => (ha i hn).2 rfl, fun hn => (hb i hn).2 rfl, h⟩

/-- What each visit of a scan relates, the scan relates. -/
theorem forEach_relates {R : State → State → Prop} (hrefl : ∀ s, R s s) (htrans : ∀ s t u, R s t → R t u → R s u)
    {f : State → Nat → State} {l : List Nat} (hf : ∀ s, ∀ i ∈ l, R s (f s i)) (s : State) : R s (forEach l s f) := by
  induction l generalizing s with
  | nil => exact hrefl s
  | cons i l ih =>
    exact htrans _ _ _ (hf s i (List.mem_cons_self ..)) (ih (fun t j hj => hf t j (List.mem_cons_of_mem _ hj)) (f s i))

/-! ### Work that leaves the calendar's windows alone -/

/-- A meter without its latches. -/
def Meter.unlatched (m : Meter) : Meter := { m with protLatch := false, preLatch := none }

/-- What the protection controller and the latches leave of an entry. -/
def Entry.still (e : Entry) : Entry :=
  { e with prot := none, request := none, bridge := none, meter := e.meter.map Meter.unlatched }

theorem withSwitch_changesOnly (s : State) (v : Switch) : changesOnly [.switch] s (s.withSwitch v) := by
  intro p hp
  cases p with
  | switch => simp at hp
  | _ => rfl

/-- Work for entries of indexes in J, with keys in K, that starts and ends no window: the protection controller's, and the latches. It writes the
protection part, the request, the bridge set and the latches of those entries, the selectors of their outputs, and their notices. -/
structure Quiet (J : Nat → Prop) (K : Key → Prop) (s t : State) : Prop where
  changes : changesOnly [.lane, .entries, .claims, .switch, .bridged, .site] s t
  queue   : ∀ d, s.queue d <+: t.queue d
  cells   : t.switch.cells = s.switch.cells
  outputs : t.switch.outputs.length = s.switch.outputs.length
  sources : ∀ p, (t.output p).working = (s.output p).working ∧ (t.output p).protection = (s.output p).protection
  owned   : ∀ p k, ¬ K k → outputOwner (s.output p) = some k → t.output p = s.output p
  still   : ∀ i, (t.entry i).map Entry.still = (s.entry i).map Entry.still
  same    : ∀ i, ¬ J i → t.entry i = s.entry i
  said    : ∀ i, ¬ J i → noticeAt t (sourceEntry i) = noticeAt s (sourceEntry i)

/-- The entries of indexes in J have keys in K. -/
def keysIn (J : Nat → Prop) (K : Key → Prop) (s : State) : Prop := ∀ j e, J j → s.entry j = some e → K e.key

theorem outputOwner_of_sources {o p : Output} (h : o.working = p.working ∧ o.protection = p.protection) : outputOwner o = outputOwner p := by
  obtain ⟨hw, hp⟩ := h
  simp [outputOwner, hw, hp]

theorem key_of_still {e f : Entry} (h : f.still = e.still) : f.key = e.key := by
  have hkey := congrArg Entry.key h
  exact hkey

section Quiet
variable {J : Nat → Prop} {K : Key → Prop} {s t u : State} {i : Nat}

theorem Quiet.trans (h : Quiet J K s t) (k : Quiet J K t u) : Quiet J K s u where
  changes := changesOnly_trans h.changes k.changes
  queue d := (h.queue d).trans (k.queue d)
  cells := k.cells.trans h.cells
  outputs := k.outputs.trans h.outputs
  sources p := ⟨(k.sources p).1.trans (h.sources p).1, (k.sources p).2.trans (h.sources p).2⟩
  owned p x hx ho := by
    rw [k.owned p x hx (by rw [h.owned p x hx ho, ho]), h.owned p x hx ho]
  still i := (k.still i).trans (h.still i)
  same i hi := (k.same i hi).trans (h.same i hi)
  said i hi := (k.said i hi).trans (h.said i hi)

/-- Work on the claim controller or the bridged-key set. -/
theorem Quiet.of_changesOnly (h : changesOnly [.claims, .bridged] s t) : Quiet J K s t where
  changes := changesOnly_mono h (by decide)
  queue d := by rw [queue_of_lane (changesOnly_lane h (by decide))]
  cells := congrArg Switch.cells (h .switch (by decide))
  outputs := congrArg (fun x => x.outputs.length) (h .switch (by decide))
  sources p := by rw [output_of_switch (h .switch (by decide))]; exact ⟨rfl, rfl⟩
  owned p _ _ _ := output_of_switch (h .switch (by decide)) p
  still i := by rw [entry_of_entries (changesOnly_entries h (by decide))]
  same i _ := entry_of_entries (changesOnly_entries h (by decide)) i
  said i _ := noticeAt_of_site (changesOnly_site h (by decide)) _

theorem Quiet.refl (s : State) : Quiet J K s s := .of_changesOnly (changesOnly_refl _ s)

/-- Work on the calendar alone, on entries of indexes in J, that leaves them still. -/
theorem Quiet.of_entries (h : changesOnly [.entries] s t) (hstill : ∀ i, (t.entry i).map Entry.still = (s.entry i).map Entry.still)
    (hsame : ∀ i, ¬ J i → t.entry i = s.entry i) : Quiet J K s t where
  changes := changesOnly_mono h (by decide)
  queue d := by rw [queue_of_lane (changesOnly_lane h (by decide))]
  cells := congrArg Switch.cells (h .switch (by decide))
  outputs := congrArg (fun x => x.outputs.length) (h .switch (by decide))
  sources p := by rw [output_of_switch (h .switch (by decide))]; exact ⟨rfl, rfl⟩
  owned p _ _ _ := output_of_switch (h .switch (by decide)) p
  still := hstill
  same := hsame
  said i _ := noticeAt_of_site (changesOnly_site h (by decide)) _

theorem Quiet.keysIn (h : Quiet J K s t) (hk : keysIn J K s) : keysIn J K t := by
  intro j f hj hf
  have hstill := h.still j
  rw [hf] at hstill
  cases he : s.entry j with
  | none => simp [he] at hstill
  | some e =>
    rw [he, Option.map_some, Option.map_some, Option.some.injEq] at hstill
    rw [key_of_still hstill]
    exact hk j e hj he

theorem updEntry_changesOnly (s : State) (i : Nat) (f : Entry → Entry) : changesOnly [.entries] s (updEntry s i f) := by
  unfold updEntry
  split
  · exact setEntry_changesOnly _ _ _
  · exact changesOnly_refl _ s

theorem updEntry_quiet (hi : J i) {f : Entry → Entry} (hf : ∀ e, (f e).still = e.still) : Quiet J K s (updEntry s i f) := by
  refine .of_entries (updEntry_changesOnly s i f) (fun j => ?_) (fun j hj => ?_)
  · rw [entry_updEntry]
    split
    · cases s.entry j <;> simp [hf]
    · rfl
  · rw [entry_updEntry, if_neg (fun h : i = j => hj (h ▸ hi))]

theorem setEntry_quiet (hi : J i) {e f : Entry} (he : s.entry i = some e) (hf : f.still = e.still) : Quiet J K s (setEntry s i f) := by
  have hlt := placeAt_lt _ _ _ he
  refine .of_entries (setEntry_changesOnly s i f) (fun j => ?_) (fun j hj => entry_setEntry_ne s i j f (fun h => hj (h ▸ hi)))
  by_cases hij : i = j
  · subst hij
    rw [entry_setEntry_same s i f hlt, he, Option.map_some, Option.map_some, hf]
  · rw [entry_setEntry_ne s i j f hij]

/-- A notice of an entry's own. -/
theorem raiseNotice_quiet (hi : J i) (c : NoticeBody) : Quiet J K s (raiseNotice s (sourceEntry i) c) where
  changes := changesOnly_mono (raiseNotice_changesOnly _ _ _) (by decide)
  queue d := by rw [queue_of_lane (raiseNotice_lane ..)]
  cells := by rw [raiseNotice_switch]
  outputs := by rw [raiseNotice_switch]
  sources p := by rw [output_of_switch (raiseNotice_switch ..)]; exact ⟨rfl, rfl⟩
  owned p _ _ _ := output_of_switch (raiseNotice_switch ..) p
  still j := by rw [entry_of_entries (raiseNotice_entries ..)]
  same j _ := entry_of_entries (raiseNotice_entries ..) j
  said j hj := noticeAt_raiseNotice_ne s (sourceEntry_ne (fun h : i = j => hj (h ▸ hi))) c

theorem join_quiet (s : State) (d : Dir) (n : Nat) (b : Body) : Quiet J K s (join s d n b) where
  changes := changesOnly_mono (join_changesOnly _ _ _ _) (by decide)
  queue x := by
    obtain ⟨rest, h⟩ := queue_join_grows s d x n b
    exact h ▸ List.prefix_append _ _
  cells := by rw [join_switch]
  outputs := by rw [join_switch]
  sources p := by rw [output_of_switch (join_switch ..)]; exact ⟨rfl, rfl⟩
  owned p _ _ _ := output_of_switch (join_switch ..) p
  still j := by rw [entry_of_entries (join_entries ..)]
  same j _ := entry_of_entries (join_entries ..) j
  said j _ := noticeAt_of_site (join_site ..) _

/-- The selector of an output whose owner is in K, or that has none. -/
theorem updSelector_quiet {p : Nat} (hp : ∀ k, outputOwner (s.output p) = some k → K k) (v : Selector) :
    Quiet J K s (updOutput s p (fun o => { o with selector := v })) where
  changes := changesOnly_mono (withSwitch_changesOnly s _) (by decide)
  queue _ := List.prefix_rfl
  cells := rfl
  outputs := modifyAt_length ..
  sources q := by rw [output_updOutput]; split <;> exact ⟨rfl, rfl⟩
  owned q k hk ho := by
    rw [output_updOutput, if_neg]
    rintro ⟨rfl, -⟩
    exact hk (hp k ho)
  still _ := rfl
  same _ _ := rfl
  said _ _ := rfl

theorem selectorWritable_owner {e : Entry} {p : Nat} (h : selectorWritable s e p = true) {k : Key} (ho : outputOwner (s.output p) = some k) :
    k = e.key := by simpa [selectorWritable, ho] using h

end Quiet

/-! ### The protection controller's work at a boundary -/

section Protection
variable {J : Nat → Prop} {K : Key → Prop} {s : State} {i : Nat}

theorem writeSelector_quiet (hi : J i) (hk : keysIn J K s) (v : Selector) : Quiet J K s (writeSelector s i v) := by
  unfold writeSelector
  split
  · exact .refl s
  · rename_i e he
    split
    · exact .refl s
    · rename_i p _
      split
      · rename_i hw
        have hsel : Quiet J K s (updOutput s p (fun o => { o with selector := v })) :=
          updSelector_quiet (fun k ho => selectorWritable_owner hw ho ▸ hk i e hi he) v
        dsimp only
        split
        · refine hsel.trans (updEntry_quiet hi fun e => ?_)
          cases h : e.meter <;> simp [Entry.still, Meter.unlatched, h]
        · exact hsel
      · exact .refl s

theorem changeState_quiet (hi : J i) (hk : keysIn J K s) (part : ProtPart) (c : ProtCause) : Quiet J K s (changeState s i part c) := by
  unfold changeState
  split
  · exact .refl s
  · rename_i e he
    split
    · exact .refl s
    · rename_i old _
      dsimp only
      refine Quiet.trans ?_ (raiseNotice_quiet hi _)
      have hset : Quiet J K s
          (setEntry s i { e with prot := some part, request := e.request.map (Request.follow old.state.wants part.state.wants) }) :=
        setEntry_quiet hi he rfl
      split
      · exact hset
      · exact hset.trans (writeSelector_quiet hi (hset.keysIn hk) _)

theorem expireHoldOff_quiet (hi : J i) (hk : keysIn J K s) : Quiet J K s (expireHoldOff s i) := by
  unfold expireHoldOff
  split
  · exact .refl s
  · split
    · exact .refl s
    · split
      · have hbridging : Quiet J K s (changeState s i (ProtPart.enter .bridging none none 0) .holdOffExpiry) := changeState_quiet hi hk _ _
        dsimp only
        split
        · exact hbridging.trans (changeState_quiet hi (hbridging.keysIn hk) _ _)
        · exact hbridging
      · exact .refl s

theorem enterHoldOff_quiet (hi : J i) (hk : keysIn J K s) (n : Nat) (c : ProtCause) : Quiet J K s (enterHoldOff s i n c) := by
  have hold : Quiet J K s (changeState s i (ProtPart.enter .holdOff (some (after s (holdOffMs s))) none n) c) := changeState_quiet hi hk _ _
  unfold enterHoldOff
  dsimp only
  split
  · exact hold.trans (expireHoldOff_quiet hi (hold.keysIn hk))
  · exact hold

theorem applyOutcome_quiet (hi : J i) (hk : keysIn J K s) (p : ProtPart) (st : ProtState) (c : ProtCause) : Quiet J K s (applyOutcome s i p st c) := by
  unfold applyOutcome
  split
  · exact enterHoldOff_quiet hi hk _ _
  · exact changeState_quiet hi hk _ _
  · exact changeState_quiet hi hk _ _

theorem setResends_quiet (hi : J i) (n : Nat) : Quiet J K s (setResends s i n) := updEntry_quiet hi fun _ => rfl

theorem markRequest_quiet (hi : J i) : Quiet J K s (markRequest s i) := updEntry_quiet hi fun _ => rfl

theorem resendAtBoundary_quiet (hi : J i) (e : Entry) (p : ProtPart) (c : PathClass) : Quiet J K s (resendAtBoundary s i e p c) := by
  have hasked (b : Prop) [Decidable b] (n : Nat) : Quiet J K s (if b then markRequest (setResends s i n) i else s) := by
    split
    · exact (setResends_quiet hi n).trans (markRequest_quiet hi)
    · exact .refl s
  cases hst : p.state <;> simp only [resendAtBoundary, hst]
  case working | holdOff | restoreWait | lockout => exact .refl s
  case bridging | protecting | forced => exact hasked _ _

theorem protectionBoundary_quiet (hi : J i) (hk : keysIn J K s) : Quiet J K s (protectionBoundary s i) := by
  unfold protectionBoundary
  split
  · exact .refl s
  · split
    · have hset (n : Nat) : Quiet J K s (setResends s i n) := setResends_quiet hi n
      dsimp only
      split
      · exact (hset _).trans (applyOutcome_quiet hi ((hset _).keysIn hk) _ _ _)
      · exact (hset _).trans (resendAtBoundary_quiet hi _ _ _)
    · exact .refl s

theorem restartLatches_quiet (hi : J i) : Quiet J K s (restartLatches s i) := by
  obtain h | ⟨e, he, -, h⟩ := restartLatches_cases s i <;> rw [h]
  · exact .refl s
  · refine setEntry_quiet hi he ?_
    cases hm : e.meter <;> simp [Entry.still, Meter.unlatched, Meter.restart, hm]

theorem attemptSwitchreq_quiet (hi : J i) : Quiet J K s (attemptSwitchreq s i) := by
  unfold attemptSwitchreq
  split
  · exact .refl s
  · rename_i e he
    split
    · exact .refl s
    · split
      · refine (join_quiet s e.bk.dir e.key.seq _).trans (setEntry_quiet (e := e) hi ?_ rfl)
        rw [entry_of_entries (join_entries ..), he]
      · exact .refl s

theorem applyBridge_changesOnly (s : State) (k : Key) (on : Bool) : changesOnly [.bridged] s (applyBridge s k on) := by
  unfold applyBridge
  split_ifs
  · exact changesOnly_refl _ s
  · exact changesOnly_refl _ s
  · exact withBridged_changesOnly _ _
  · exact withBridged_changesOnly _ _
  · exact dropBridged_changesOnly _ _

theorem attemptBridge_quiet (hi : J i) : Quiet J K s (attemptBridge s i) := by
  unfold attemptBridge
  split
  · exact .refl s
  · rename_i e he
    split
    · exact .refl s
    · rename_i b _
      split
      · dsimp only
        have hjoined (t : State) : Quiet J K t (applyBridge t e.key (b.drops != 0)) :=
          .of_changesOnly (changesOnly_mono (applyBridge_changesOnly t _ _) (by decide))
        refine Quiet.trans ?_ (hjoined _)
        refine (join_quiet s e.bk.dir e.key.seq _).trans (setEntry_quiet (e := e) hi ?_ rfl)
        rw [entry_of_entries (join_entries ..), he]
      · exact .refl s

end Protection

end Sys2Proof.Machine

namespace Sys2Proof.Machine

/-! ### What a boundary's work leaves of an entry -/

/-- A meter but for its latches and its binding. -/
def Meter.counts (m : Meter) : Meter := { m.unlatched with binding := .none }

/-- An entry but for what work for other entries can change of it: its Preempted flag, its meter's latches and binding. -/
def Entry.outline (e : Entry) : Entry :=
  { e with preempted := e.preempted.map (fun _ => false), meter := e.meter.map Meter.counts }

/-- Entry f is what any work of a boundary has left of entry e: its key, its roles, its booking but for the end; no window that has started is Held
again, and no withdraw-pending marker is set. -/
structure Entry.Later (e f : Entry) : Prop where
  key    : f.key = e.key
  roles  : f.roles = e.roles
  frame  : { f.bk with winEnd := 0 } = { e.bk with winEnd := 0 }
  held   : f.state = .held → e.state = .held
  marker : e.marker = none → f.marker = none

/-- Entry f is what work after the meters' count leaves of an Active or Closing drop e: Active or Closing, with its path records and its counts. -/
structure Entry.Stands (e f : Entry) : Prop where
  state   : f.state = .active ∨ f.state = .closing
  closing : e.state = .closing → f.state = .closing
  paths   : f.paths = e.paths
  meter   : f.meter.map Meter.counts = e.meter.map Meter.counts

/-- What stands in a place comes from what stood there. -/
def Descends (o p : Option Entry) : Prop := ∀ f, p = some f → ∃ e, o = some e ∧ e.Later f

/-- What becomes of the place of an entry in work after the meters' count. -/
structure Follow (o p : Option Entry) : Prop where
  back   : Descends o p
  stands : ∀ e, o = some e → e.state = .active ∨ e.state = .closing → e.meter ≠ none → ∃ f, p = some f ∧ e.Stands f

theorem Entry.Later.of_parts {e f : Entry} (hkey : f.key = e.key) (hroles : f.roles = e.roles) (hbk : f.bk = e.bk) (hstate : f.state = e.state)
    (hmarker : f.marker = e.marker) : e.Later f where
  key := hkey
  roles := hroles
  frame := by rw [hbk]
  held h := hstate ▸ h
  marker h := hmarker ▸ h

theorem Entry.Later.trans {e f g : Entry} (h : e.Later f) (k : f.Later g) : e.Later g where
  key := k.key.trans h.key
  roles := k.roles.trans h.roles
  frame := k.frame.trans h.frame
  held hg := h.held (k.held hg)
  marker he := k.marker (h.marker he)

theorem Descends.trans {o p q : Option Entry} (h : Descends o p) (k : Descends p q) : Descends o q := by
  intro g hg
  obtain ⟨f, hf, hl⟩ := k g hg
  obtain ⟨e, he, hl'⟩ := h f hf
  exact ⟨e, he, hl'.trans hl⟩

theorem Descends.of_later {e f : Entry} (h : e.Later f) : Descends (some e) (some f) := by
  intro g hg
  obtain rfl := Option.some.inj hg
  exact ⟨e, rfl, h⟩

theorem Descends.to_none (o : Option Entry) : Descends o none := fun _ hf => nomatch hf

theorem Entry.Stands.metered {e f : Entry} (h : e.Stands f) (hm : e.meter ≠ none) : f.meter ≠ none := by
  intro hn
  have hmeter := h.meter
  rw [hn] at hmeter
  exact hm (Option.map_eq_none_iff.1 hmeter.symm)

theorem Entry.Stands.trans {e f g : Entry} (h : e.Stands f) (k : f.Stands g) : e.Stands g where
  state := k.state
  closing hc := k.closing (h.closing hc)
  paths := k.paths.trans h.paths
  meter := k.meter.trans h.meter

theorem Follow.trans {o p q : Option Entry} (h : Follow o p) (k : Follow p q) : Follow o q where
  back := h.back.trans k.back
  stands e he hstate hm := by
    obtain ⟨f, hf, hs⟩ := h.stands e he hstate hm
    obtain ⟨g, hg, hs'⟩ := k.stands f hf hs.state (hs.metered hm)
    exact ⟨g, hg, hs.trans hs'⟩

/-- An entry that keeps these parts follows itself. -/
theorem Follow.of_parts {e f : Entry} (hlater : e.Later f) (hstate : f.state = e.state) (hpaths : f.paths = e.paths)
    (hmeter : f.meter.map Meter.counts = e.meter.map Meter.counts) : Follow (some e) (some f) where
  back := .of_later hlater
  stands d hd hrun _ := by
    obtain rfl := Option.some.inj hd
    exact ⟨f, rfl, hstate ▸ hrun, fun hc => hstate.trans hc, hpaths, hmeter⟩

/-- A window that has not started, or has no meter, may give its place free. -/
theorem Follow.of_freed {e : Entry} (h : (e.state = .active ∨ e.state = .closing) → e.meter = none) : Follow (some e) none where
  back := .to_none _
  stands d hd hrun hm := by
    obtain rfl := Option.some.inj hd
    exact absurd (h hrun) hm

theorem Follow.of_none : Follow none none where
  back := .to_none _
  stands _ he := nomatch he

theorem Follow.of_outline {o p : Option Entry} (h : p.map Entry.outline = o.map Entry.outline) : Follow o p := by
  cases o with
  | none =>
    obtain rfl : p = none := by simpa using h
    exact .of_none
  | some e =>
    cases p with
    | none => simp at h
    | some f =>
      have hout : f.outline = e.outline := by simpa using h
      simp only [Entry.outline, Entry.mk.injEq] at hout
      obtain ⟨hkey, hbk, hroles, hstate, -, -, hmeter, -, -, -, -, -, -, -, hmarker, hpaths⟩ := hout
      exact .of_parts (.of_parts hkey hroles hbk hstate hmarker) hstate hpaths hmeter

theorem Follow.refl (o : Option Entry) : Follow o o := .of_outline rfl

theorem Descends.refl (o : Option Entry) : Descends o o := (Follow.refl o).back

theorem counts_of_unlatched {m n : Option Meter} (h : n.map Meter.unlatched = m.map Meter.unlatched) :
    n.map Meter.counts = m.map Meter.counts := by
  have hc (o : Option Meter) : o.map Meter.counts = (o.map Meter.unlatched).map (fun x => { x with binding := .none }) := by cases o <;> rfl
  rw [hc, hc, h]

theorem state_of_outline {e f : Entry} (h : f.outline = e.outline) : f.state = e.state := by
  have hs := congrArg Entry.state h
  exact hs

theorem preempted_of_outline {e f : Entry} (h : f.outline = e.outline) (he : e.preempted = none) : f.preempted = none := by
  have hp := congrArg Entry.preempted h
  simpa [Entry.outline, he] using hp

theorem Follow.of_still {o p : Option Entry} (h : p.map Entry.still = o.map Entry.still) : Follow o p := by
  cases o with
  | none =>
    obtain rfl : p = none := by simpa using h
    exact .of_none
  | some e =>
    cases p with
    | none => simp at h
    | some f =>
      have hstill : f.still = e.still := by simpa using h
      simp only [Entry.still, Entry.mk.injEq] at hstill
      obtain ⟨hkey, hbk, hroles, hstate, -, -, hmeter, -, -, -, -, -, -, -, hmarker, hpaths⟩ := hstill
      exact .of_parts (.of_parts hkey hroles hbk hstate hmarker) hstate hpaths (counts_of_unlatched hmeter)

/-! ### Work of a boundary for entries of indexes in J, with keys in K -/

/-- Any work of a boundary: it writes entries of indexes in J and, of other entries, the Preempted flag, the latches and the
binding, where it does not place a Charged line; it gives no cell and no output to a key outside K. -/
structure Works (J : Nat → Prop) (K : Key → Prop) (s t : State) : Prop where
  changes    : changesOnly [.lane, .entries, .claims, .switch, .mons, .bridged, .bill, .site] s t
  cells      : t.switch.cells.length = s.switch.cells.length
  outputs    : t.switch.outputs.length = s.switch.outputs.length
  queue      : ∀ d, s.queue d <+: t.queue d
  closeQueue : s.bill.closeQueue <+: t.bill.closeQueue
  back       : ∀ i, Descends (s.entry i) (t.entry i)
  others     : ∀ i e, ¬ J i → s.entry i = some e → e.state ≠ .charged → (t.entry i).map Entry.outline = some e.outline
  working    : ∀ d x k, ¬ K k → ownedBy (t.cell d x).working k = true → ownedBy (s.cell d x).working k = true
  protection : ∀ d x k, ¬ K k → ownedBy (t.cell d x).protection k = true → ownedBy (s.cell d x).protection k = true
  owner      : ∀ p k, ¬ K k → outputOwner (t.output p) = some k → outputOwner (s.output p) = some k

/-- Work that activates no entry: it gives no cell and no output to any key, takes none from a key outside K, and tells of no entry of another index
but a preempted one. -/
structure Tends (J : Nat → Prop) (K : Key → Prop) (s t : State) : Prop where
  works  : Works J (fun _ => False) s t
  follow : ∀ i, Follow (s.entry i) (t.entry i)
  layers : ∀ d x l, ¬ K l.owner → (s.cell d x).working = some l → (t.cell d x).working = some l
  owned  : ∀ p k, ¬ K k → outputOwner (s.output p) = some k → t.output p = s.output p
  said   : ∀ i e, ¬ J i → s.entry i = some e → e.state ≠ .charged → e.preempted = none →
    noticeAt t (sourceEntry i) = noticeAt s (sourceEntry i)

section Work
variable {J : Nat → Prop} {K : Key → Prop} {s t u : State} {i : Nat}

/-- An entry whose outline has stayed. -/
theorem exists_of_outline {o : Option Entry} {e : Entry} (h : o.map Entry.outline = some e.outline) : ∃ f, o = some f ∧ f.outline = e.outline := by
  cases o with
  | none => simp at h
  | some f => exact ⟨f, rfl, by simpa using h⟩

theorem Works.trans (h : Works J K s t) (k : Works J K t u) : Works J K s u where
  changes := changesOnly_trans h.changes k.changes
  cells := k.cells.trans h.cells
  outputs := k.outputs.trans h.outputs
  queue d := (h.queue d).trans (k.queue d)
  closeQueue := h.closeQueue.trans k.closeQueue
  back i := (h.back i).trans (k.back i)
  others i e hi he hc := by
    obtain ⟨f, hf, hout⟩ := exists_of_outline (h.others i e hi he hc)
    rw [k.others i f hi hf (by rwa [state_of_outline hout]), hout]
  working d x y hy hu := h.working d x y hy (k.working d x y hy hu)
  protection d x y hy hu := h.protection d x y hy (k.protection d x y hy hu)
  owner p y hy hu := h.owner p y hy (k.owner p y hy hu)

theorem Tends.trans (h : Tends J K s t) (k : Tends J K t u) : Tends J K s u where
  works := h.works.trans k.works
  follow i := (h.follow i).trans (k.follow i)
  layers d x l hl hs := k.layers d x l hl (h.layers d x l hl hs)
  owned p y hy ho := by rw [k.owned p y hy (by rw [h.owned p y hy ho, ho]), h.owned p y hy ho]
  said i e hi he hc hp := by
    obtain ⟨f, hf, hout⟩ := exists_of_outline (h.works.others i e hi he hc)
    rw [k.said i f hi hf (by rwa [state_of_outline hout]) (preempted_of_outline hout hp), h.said i e hi he hc hp]

theorem Works.mono {J' : Nat → Prop} {K' : Key → Prop} (h : Works J K s t) (hJ : ∀ i, J i → J' i) (hK : ∀ k, K k → K' k) : Works J' K' s t where
  changes := h.changes
  cells := h.cells
  outputs := h.outputs
  queue := h.queue
  closeQueue := h.closeQueue
  back := h.back
  others i e hi := h.others i e (fun hj => hi (hJ i hj))
  working d x k hk := h.working d x k (fun hj => hk (hK k hj))
  protection d x k hk := h.protection d x k (fun hj => hk (hK k hj))
  owner p k hk := h.owner p k (fun hj => hk (hK k hj))

theorem Tends.to_works (h : Tends J K s t) : Works J K s t := h.works.mono (fun _ => id) (fun _ => False.elim)

/-- Quiet work activates nothing and ends nothing. -/
theorem Quiet.tends (h : Quiet J K s t) : Tends J K s t where
  works :=
    { changes := changesOnly_mono h.changes (by decide)
      cells := by rw [h.cells]
      outputs := h.outputs
      queue := h.queue
      closeQueue := by rw [changesOnly_bill h.changes (by decide)]
      back i := (Follow.of_still (h.still i)).back
      others i e hi he _ := by rw [h.same i hi, he, Option.map_some]
      working d x k _ ht := by rwa [cell_of_cells h.cells] at ht
      protection d x k _ ht := by rwa [cell_of_cells h.cells] at ht
      owner p k _ ht := by rwa [outputOwner_of_sources (h.sources p)] at ht }
  follow i := .of_still (h.still i)
  layers d x l _ hs := by rwa [cell_of_cells h.cells]
  owned := h.owned
  said i _ hi _ _ _ := h.said i hi

theorem Tends.refl (s : State) : Tends J K s s := (Quiet.refl s).tends

theorem Works.refl (s : State) : Works J K s s := (Tends.refl s).to_works

theorem Works.keysIn (h : Works J K s t) (hk : keysIn J K s) : keysIn J K t := by
  intro j f hj hf
  obtain ⟨e, he, hl⟩ := h.back j f hf
  rw [hl.key]
  exact hk j e hj he

theorem Tends.keysIn (h : Tends J K s t) (hk : keysIn J K s) : keysIn J K t := h.to_works.keysIn hk

/-- Work that leaves the switch, the queues and the close queue alone: what it does to the calendar, and what it tells. -/
theorem Tends.of_changesOnly (h : changesOnly [.entries, .claims, .bridged, .mons, .site] s t) (hfollow : ∀ i, Follow (s.entry i) (t.entry i))
    (hothers : ∀ i, ¬ J i → (t.entry i).map Entry.outline = (s.entry i).map Entry.outline)
    (hsaid : ∀ i e, ¬ J i → s.entry i = some e → e.preempted = none → noticeAt t (sourceEntry i) = noticeAt s (sourceEntry i)) : Tends J K s t :=
  have hswitch : t.switch = s.switch := h .switch (by decide)
  have hcell (d : Dir) (x : Nat) : t.cell d x = s.cell d x := cell_of_cells (congrArg Switch.cells hswitch) d x
  { works :=
      { changes := changesOnly_mono h (by decide)
        cells := by rw [hswitch]
        outputs := by rw [hswitch]
        queue d := by rw [queue_of_lane (changesOnly_lane h (by decide))]
        closeQueue := by rw [changesOnly_bill h (by decide)]
        back i := (hfollow i).back
        others i e hi he _ := by rw [hothers i hi, he, Option.map_some]
        working d x k _ ht := by rwa [hcell] at ht
        protection d x k _ ht := by rwa [hcell] at ht
        owner p k _ ht := by rwa [output_of_switch hswitch] at ht }
    follow := hfollow
    layers d x l _ hs := by rwa [hcell]
    owned p _ _ _ := output_of_switch hswitch p
    said i e hi he _ hp := hsaid i e hi he hp }

/-- Work that leaves the calendar alone as well, and tells nothing. -/
theorem Tends.of_apart (h : changesOnly [.claims, .bridged, .mons] s t) : Tends J K s t :=
  .of_changesOnly (changesOnly_mono h (by decide)) (fun i => by rw [entry_of_entries (changesOnly_entries h (by decide))]; exact .refl _)
    (fun i _ => by rw [entry_of_entries (changesOnly_entries h (by decide))]) (fun _ _ _ _ _ => noticeAt_of_site (changesOnly_site h (by decide)) _)

/-- Work on the calendar and the bridged-key set. -/
theorem Tends.of_entries (h : changesOnly [.entries, .bridged] s t) (hfollow : ∀ i, Follow (s.entry i) (t.entry i))
    (hothers : ∀ i, ¬ J i → (t.entry i).map Entry.outline = (s.entry i).map Entry.outline) : Tends J K s t :=
  .of_changesOnly (changesOnly_mono h (by decide)) hfollow hothers (fun _ _ _ _ _ => noticeAt_of_site (changesOnly_site h (by decide)) _)

/-- An entry of an index in J written anew, or its place freed. -/
theorem setEntry_tends (hi : J i) {e f : Entry} (he : s.entry i = some e) (hf : Follow (some e) (some f)) : Tends J K s (setEntry s i f) := by
  have hlt := placeAt_lt _ _ _ he
  refine .of_entries (changesOnly_mono (setEntry_changesOnly s i f) (by decide)) (fun j => ?_)
    (fun j hj => by rw [entry_setEntry_ne s i j f (fun h : i = j => hj (h ▸ hi))])
  by_cases hij : i = j
  · subst hij
    rw [entry_setEntry_same s i f hlt, he]
    exact hf
  · rw [entry_setEntry_ne s i j f hij]
    exact .refl _

theorem updEntry_tends (hi : J i) {f : Entry → Entry} (hf : ∀ e, Follow (some e) (some (f e))) : Tends J K s (updEntry s i f) := by
  unfold updEntry
  split
  · exact setEntry_tends hi ‹_› (hf _)
  · exact .refl s

theorem freeEntry_tends (hi : J i) (hf : ∀ e, s.entry i = some e → Follow (some e) none) : Tends J K s (freeEntry s i) := by
  refine .of_entries (freeEntry_changesOnly s i) (fun j => ?_)
    (fun j hj => by rw [entry_freeEntry, if_neg (fun h : i = j => hj (h ▸ hi))])
  rw [entry_freeEntry]
  split
  · rename_i hij
    subst hij
    cases he : s.entry i with
    | none => exact .of_none
    | some e => exact hf e he
  · exact .refl _

/-- A cell's layers cleared under the owner test, for a key in K (R104). -/
theorem updCell_tends {f : Cell → Cell} (hw : ∀ c : Cell, (f c).working = c.working ∨ (f c).working = none ∧ ∀ l, c.working = some l → K l.owner)
    (hp : ∀ c : Cell, (f c).protection = c.protection ∨ (f c).protection = none) (d : Dir) (x : Nat) : Tends J K s (updCell s d x f) where
  works :=
    { changes := changesOnly_mono (withSwitch_changesOnly s _) (by decide)
      cells := modifyAt_length ..
      outputs := rfl
      queue _ := List.prefix_rfl
      closeQueue := List.prefix_rfl
      back _ := .refl _
      others i e _ he _ := congrArg (Option.map Entry.outline) he
      working c y k _ ht := by
        rw [cell_updCell] at ht
        split at ht
        · obtain h | ⟨h, -⟩ := hw (s.cell c y) <;> rw [h] at ht
          · exact ht
          · simp [ownedBy] at ht
        · exact ht
      protection c y k _ ht := by
        rw [cell_updCell] at ht
        split at ht
        · obtain h | h := hp (s.cell c y) <;> rw [h] at ht
          · exact ht
          · simp [ownedBy] at ht
        · exact ht
      owner _ _ _ ht := ht }
  follow _ := .refl _
  layers c y l hl hs := by
    rw [cell_updCell]
    split
    · obtain h | ⟨-, h⟩ := hw (s.cell c y)
      · rw [h, hs]
      · exact absurd (h l hs) hl
    · exact hs
  owned _ _ _ _ := rfl
  said _ _ _ _ _ _ := rfl

/-- A notice of an entry of index in J, or of one with a Preempted flag. -/
theorem raiseNotice_tends (c : NoticeBody) (h : J i ∨ ∀ e, s.entry i = some e → e.preempted ≠ none) :
    Tends J K s (raiseNotice s (sourceEntry i) c) := by
  have hentry (j : Nat) := entry_of_entries (raiseNotice_entries s (sourceEntry i) c) j
  refine .of_changesOnly (changesOnly_mono (raiseNotice_changesOnly _ _ _) (by decide)) (fun j => by rw [hentry]; exact .refl _)
    (fun j _ => by rw [hentry]) (fun j e hj he hp => noticeAt_raiseNotice_ne s (sourceEntry_ne ?_) c)
  rintro rfl
  obtain h | h := h
  · exact hj h
  · exact h e he hp

/-- The close queue with an index more. -/
theorem closeQueue_tends (s : State) (i : Nat) : Tends J K s (s.withBill { s.bill with closeQueue := s.bill.closeQueue ++ [i] }) where
  works :=
    { changes := changesOnly_mono (withBill_changesOnly s _) (by decide)
      cells := rfl
      outputs := rfl
      queue _ := List.prefix_rfl
      closeQueue := List.prefix_append ..
      back _ := .refl _
      others _ _ _ he _ := congrArg (Option.map Entry.outline) he
      working _ _ _ _ ht := ht
      protection _ _ _ _ ht := ht
      owner _ _ _ ht := ht }
  follow _ := .refl _
  layers _ _ _ _ hs := hs
  owned _ _ _ _ := rfl
  said _ _ _ _ _ _ := rfl

end Work

/-! ### The release of an entry and the re-judging of Extra entries -/

section Release
variable {J : Nat → Prop} {K : Key → Prop} {s : State} {i : Nat}

theorem forEach_tends {f : State → Nat → State} {l : List Nat} (hf : ∀ s, ∀ i ∈ l, Tends J K s (f s i)) (s : State) : Tends J K s (forEach l s f) :=
  forEach_relates Tends.refl (fun _ _ _ => Tends.trans) hf s

theorem clearWorkCells_tends {e : Entry} (hk : K e.key) : Tends J K s (clearWorkCells s e) := by
  unfold clearWorkCells
  split
  · refine forEach_tends (fun t j _ => updCell_tends (fun c => ?_) (fun c => ?_) _ _) s
    · unfold clearWorkLayer
      split
      · rename_i h
        refine .inr ⟨rfl, fun l hl => ?_⟩
        have howner : l.owner = e.key := by simpa [ownedBy, hl] using h
        exact howner ▸ hk
      · exact .inl rfl
    · unfold clearWorkLayer
      split <;> exact .inl rfl
  · exact .refl s

theorem clearProtCells_tends (s : State) (e : Entry) : Tends J K s (clearProtCells s e) := by
  unfold clearProtCells
  split
  · refine forEach_tends (fun t j _ => updCell_tends (fun c => ?_) (fun c => ?_) _ _) s <;> unfold clearProtLayer <;> split
    · exact .inl rfl
    · exact .inl rfl
    · exact .inr rfl
    · exact .inl rfl
  · exact .refl s

theorem releaseOutput_tends {e : Entry} (hk : K e.key) : Tends J K s (releaseOutput s e) := by
  unfold releaseOutput
  split
  · exact .refl s
  · rename_i p _
    exact
      { works :=
          { changes := changesOnly_mono (withSwitch_changesOnly s _) (by decide)
            cells := rfl
            outputs := modifyAt_length ..
            queue _ := List.prefix_rfl
            closeQueue := List.prefix_rfl
            back _ := .refl _
            others _ _ _ he _ := congrArg (Option.map Entry.outline) he
            working _ _ _ _ ht := ht
            protection _ _ _ _ ht := ht
            owner q k _ ht := by
              rw [output_updOutput] at ht
              split_ifs at ht
              · simp [outputOwner] at ht
              · exact ht
              · exact ht }
        follow _ := .refl _
        layers _ _ _ _ hs := hs
        owned q k hq ho := by
          rw [output_updOutput]
          split_ifs with h1 h2
          · exact absurd (Option.some.inj (ho.symm.trans (beq_iff_eq.1 h2)) ▸ hk) hq
          · rfl
          · rfl
        said _ _ _ _ _ _ := rfl }

theorem clearPlaces_tends (s : State) (k : Key) : Tends J K s (clearPlaces s k) :=
  .of_apart (changesOnly_mono (withMons_changesOnly _ _) (by decide))

/-- Setting or clearing a Preempted flag is within the outline of its entry. -/
theorem writePreempted_tends (s : State) (i : Nat) (b : Bool) : Tends J K s (writePreempted s i b) := by
  have hout (j : Nat) : ((writePreempted s i b).entry j).map Entry.outline = (s.entry j).map Entry.outline := by
    unfold writePreempted
    rw [entry_updEntry]
    split
    · cases s.entry j with
      | none => rfl
      | some e => cases hp : e.preempted <;> cases hm : e.meter <;> simp [Entry.outline, Meter.counts, Meter.unlatched, hp, hm]
    · rfl
  exact .of_entries (changesOnly_mono (updEntry_changesOnly _ _ _) (by decide)) (fun j => .of_outline (hout j)) (fun j _ => hout j)

theorem judgePreempted_tends (k : Key) (s : State) (i : Nat) : Tends J K s (judgePreempted k s i) := by
  have hjudged {e : Entry} {x : Bool} (he : s.entry i = some e) (hx : e.preempted = some x) (b : Bool) (c : NoticeBody) :
      Tends J K s (raiseNotice (writePreempted s i b) (sourceEntry i) c) := by
    refine (writePreempted_tends s i b).trans (raiseNotice_tends c (.inr fun f hf hn => ?_))
    rw [writePreempted, entry_updEntry, if_pos rfl, he] at hf
    obtain rfl := Option.some.inj hf
    simp [hx] at hn
  unfold judgePreempted
  split
  · exact .refl s
  · rename_i e he
    split
    · rename_i flag _ hflag
      split <;> split
      · exact .refl s
      · exact hjudged he hflag _ _
      · exact hjudged he hflag _ _
      · exact .refl s
    · exact .refl s

theorem judgeAllPreempted_tends (s : State) (k : Key) : Tends J K s (judgeAllPreempted s k) :=
  forEach_tends (fun t j _ => judgePreempted_tends k t j) s

theorem bridgeOffAtEnd_tends (s : State) (e : Entry) : Tends J K s (bridgeOffAtEnd s e) := by
  unfold bridgeOffAtEnd
  split
  · split
    · exact (join_quiet s _ _ _).tends
    · exact .refl s
  · exact .refl s

theorem endProtection_tends (hi : J i) (e : Entry) : Tends J K s (endProtection s i e) := by
  unfold endProtection
  refine Tends.trans (updEntry_tends hi fun f => ?_) ((judgeAllPreempted_tends _ e.key).trans ((bridgeOffAtEnd_tends _ e).trans
    (.of_apart (changesOnly_mono (dropBridged_changesOnly _ _) (by decide)))))
  exact .of_parts (.of_parts rfl rfl rfl rfl rfl) rfl rfl rfl

theorem closeOrFree_tends (hi : J i) : Tends J K s (closeOrFree s i) := by
  unfold closeOrFree
  split
  · exact .refl s
  · rename_i e he
    split
    · refine Tends.trans (setEntry_tends hi he ?_) (closeQueue_tends _ i)
      exact
        { back := .of_later ⟨rfl, rfl, rfl, fun h => EntryState.noConfusion h, fun _ => rfl⟩
          stands := fun d hd _ _ => by
            obtain rfl := Option.some.inj hd
            exact ⟨_, rfl, .inr rfl, fun _ => rfl, rfl, rfl⟩ }
    · rename_i hm
      refine freeEntry_tends hi fun f hf => .of_freed fun _ => ?_
      obtain rfl := Option.some.inj (he.symm.trans hf)
      simpa using hm

theorem release_tends (hi : J i) (hk : keysIn J K s) : Tends J K s (release s i) := by
  unfold release
  split
  · exact .refl s
  · rename_i e he
    have hke : K e.key := hk i e hi he
    exact (clearWorkCells_tends hke).trans ((clearProtCells_tends _ e).trans ((releaseOutput_tends hke).trans ((clearPlaces_tends _ e.key).trans
      ((endProtection_tends hi e).trans (closeOrFree_tends hi)))))

/-! ### The withdraw-pending markers at a boundary -/

theorem withEnd_follow (e : Entry) (v : Nat) : Follow (some e) (some (e.withEnd v)) :=
  .of_parts ⟨rfl, rfl, rfl, id, id⟩ rfl rfl rfl

theorem noticeWithdrawn_tends (hi : J i) (e : Entry) (v : Nat) (x : WithdrawEffect) : Tends J K s (noticeWithdrawn s i e v x) := by
  unfold noticeWithdrawn
  split
  · exact raiseNotice_tends _ (.inl hi)
  · exact .refl s

theorem lowerBeforeStart_tends (hi : J i) {e : Entry} (he : s.entry i = some e) (hstate : e.state ≠ .active ∧ e.state ≠ .closing) (v : Nat) :
    Tends J K s (lowerBeforeStart s i e v) := by
  have hlowered : Tends J K s (if decide (min e.bk.winEnd v ≤ e.bk.winStart) then freeEntry s i else setEntry s i (e.withEnd (min e.bk.winEnd v))) := by
    split
    · refine freeEntry_tends hi fun f hf => .of_freed fun h => ?_
      obtain rfl := Option.some.inj (he.symm.trans hf)
      exact absurd h (by simp [hstate])
    · exact setEntry_tends hi he (withEnd_follow e _)
  unfold lowerBeforeStart
  dsimp only
  split
  · exact hlowered.trans (noticeWithdrawn_tends hi _ _ _)
  · exact hlowered

theorem applyWithdraw_tends (hi : J i) (hk : keysIn J K s) (v : Nat) : Tends J K s (applyWithdraw s i v) := by
  unfold applyWithdraw
  split
  · exact .refl s
  · rename_i e he
    dsimp only
    have hlimit : Tends J K s (if e.ext.isSome then limitRecent s e.key v else s) := by
      split
      · exact .of_apart (changesOnly_mono (withClaims_changesOnly _ _) (by decide))
      · exact .refl s
    have hlimited : (if e.ext.isSome then limitRecent s e.key v else s).entry i = some e := by split <;> exact he
    have hset (n : Nat) := hlimit.trans (setEntry_tends (K := K) hi hlimited (withEnd_follow e n))
    split
    · rename_i hstate
      exact hlimit.trans (lowerBeforeStart_tends hi hlimited (by simp [hstate]) v)
    · rename_i hstate
      exact hlimit.trans (lowerBeforeStart_tends hi hlimited (by simp [hstate]) v)
    · split
      · split
        · exact (hset _).trans (noticeWithdrawn_tends hi _ _ _)
        · exact hset _
      · have hreleased := (hset s.now).trans (release_tends hi ((hset s.now).keysIn hk))
        split
        · exact hreleased.trans (noticeWithdrawn_tends hi _ _ _)
        · exact hreleased
    · exact .refl s
    · exact .refl s

theorem attemptMarker_tends (hi : J i) (hk : keysIn J K s) : Tends J K s (attemptMarker s i) := by
  unfold attemptMarker
  split
  · exact .refl s
  · rename_i e he
    split
    · exact .refl s
    · split
      · exact .refl s
      · have hclear (t : State) (ht : t.entry i = some e) : Tends J K t (setEntry t i { e with marker := none }) :=
          setEntry_tends hi ht (.of_parts ⟨rfl, rfl, rfl, id, fun _ => rfl⟩ rfl rfl rfl)
        have hjoined (b : Body) : Tends J K s (setEntry (join s e.bk.dir e.key.seq b) i { e with marker := none }) :=
          (join_quiet s _ _ b).tends.trans (hclear _ (by rw [entry_of_entries (join_entries ..), he]))
        dsimp only
        split
        · split
          · exact hclear s he
          · split
            · exact (hjoined _).trans (applyWithdraw_tends hi ((hjoined _).keysIn hk) _)
            · exact .refl s
        · split
          · exact (hjoined _).trans (applyWithdraw_tends hi ((hjoined _).keysIn hk) _)
          · exact .refl s

/-- The attempts of one entry but the one of its withdraw-pending marker. -/
def attemptsQuiet (s : State) (i : Nat) : State := attemptBridge (attemptSwitchreq (restartLatches (protectionBoundary s i) i) i) i

theorem attemptsQuiet_quiet (hi : J i) (hk : keysIn J K s) : Quiet J K s (attemptsQuiet s i) :=
  (protectionBoundary_quiet hi hk).trans ((restartLatches_quiet hi).trans ((attemptSwitchreq_quiet hi).trans (attemptBridge_quiet hi)))

theorem attemptsOne_eq {s : State} {i : Nat} {e : Entry} (he : s.entry i = some e) : attemptsOne s i = attemptMarker (attemptsQuiet s i) i := by
  unfold attemptsOne
  rw [he]
  rfl

theorem attemptsOne_tends (hi : J i) (hk : keysIn J K s) : Tends J K s (attemptsOne s i) := by
  cases he : s.entry i with
  | none =>
    unfold attemptsOne
    rw [he]
    exact .refl s
  | some e =>
    have hquiet : Tends J K s (attemptsQuiet s i) := (attemptsQuiet_quiet hi hk).tends
    rw [attemptsOne_eq he]
    exact hquiet.trans (attemptMarker_tends hi (hquiet.keysIn hk))

end Release

end Sys2Proof.Machine

namespace Sys2Proof.Machine

/-! ### The activation of an entry -/

section Activation
variable {J : Nat → Prop} {K : Key → Prop} {s t : State} {i : Nat}

/-- Work on match records and notices, the close queue as it was (R177 to R182, R188). -/
structure Apart (s t : State) : Prop where
  changes    : changesOnly [.bill, .site] s t
  closeQueue : t.bill.closeQueue = s.bill.closeQueue

theorem Apart.trans {u : State} (h : Apart s t) (k : Apart t u) : Apart s u :=
  ⟨changesOnly_trans h.changes k.changes, k.closeQueue.trans h.closeQueue⟩

theorem Apart.entry (h : Apart s t) (j : Nat) : t.entry j = s.entry j := entry_of_entries (changesOnly_entries h.changes (by decide)) j

theorem setRecord_apart (s : State) (n : Nat) (r : Option MatchRecord) : Apart s (setRecord s n r) :=
  ⟨changesOnly_mono (withBill_changesOnly _ _) (by decide), rfl⟩

theorem raiseNotice_apart (s : State) (src : Nat) (c : NoticeBody) : Apart s (raiseNotice s src c) :=
  ⟨changesOnly_mono (raiseNotice_changesOnly _ _ _) (by decide), by rw [raiseNotice_bill]⟩

theorem closeRecord_apart (s : State) (n : Nat) (r : MatchRecord) : Apart s (closeRecord s n r) :=
  (setRecord_apart s n _).trans (raiseNotice_apart _ _ _)

theorem matchStage_apart (s : State) (n : Nat) (l : Line) (b : Bool) : Apart s (matchStage s n l b) := by
  unfold matchStage
  split
  · exact ⟨changesOnly_refl _ s, rfl⟩
  · rename_i r _
    dsimp only
    have hadded (c : Prop) [Decidable c] (x : Option MatchRecord) (src : Nat) (body : NoticeBody) :
        Apart s (if c then setRecord s n x else raiseNotice (setRecord s n x) src body) := by
      split
      · exact setRecord_apart s n x
      · exact (setRecord_apart s n x).trans (raiseNotice_apart _ _ _)
    split
    · exact (hadded _ _ _ _).trans (closeRecord_apart _ n _)
    · exact hadded _ _ _ _

/-- Work on match records, monitors and notices. -/
theorem Works.of_changesOnly (h : changesOnly [.bill, .mons, .site] s t) (hq : t.bill.closeQueue = s.bill.closeQueue) : Works J K s t :=
  have hswitch : t.switch = s.switch := h .switch (by decide)
  have hcell (d : Dir) (x : Nat) : t.cell d x = s.cell d x := cell_of_cells (congrArg Switch.cells hswitch) d x
  have hentry (j : Nat) : t.entry j = s.entry j := entry_of_entries (changesOnly_entries h (by decide)) j
  { changes := changesOnly_mono h (by decide)
    cells := by rw [hswitch]
    outputs := by rw [hswitch]
    queue d := by rw [queue_of_lane (changesOnly_lane h (by decide))]
    closeQueue := by rw [hq]
    back j := by rw [hentry]; exact .refl _
    others j e _ he _ := by rw [hentry, he, Option.map_some]
    working d x k _ ht := by rwa [hcell] at ht
    protection d x k _ ht := by rwa [hcell] at ht
    owner p k _ ht := by rwa [output_of_switch hswitch] at ht }

theorem Apart.works (h : Apart s t) : Works J K s t := .of_changesOnly (changesOnly_mono h.changes (by decide)) h.closeQueue

/-- Work on the monitors and notices. -/
theorem Works.of_monitors (h : changesOnly [.mons, .site] s t) : Works J K s t :=
  .of_changesOnly (changesOnly_mono h (by decide)) (by rw [changesOnly_bill h (by decide)])

theorem forEach_works {f : State → Nat → State} {l : List Nat} (hf : ∀ s, ∀ i ∈ l, Works J K s (f s i)) (s : State) : Works J K s (forEach l s f) :=
  forEach_relates Works.refl (fun _ _ _ => Works.trans) hf s

/-- A cell's layers written for a key in K (R104). -/
theorem updCell_works {f : Cell → Cell} (hw : ∀ c : Cell, (f c).working = c.working ∨ ∃ l, (f c).working = some l ∧ K l.owner)
    (hp : ∀ c : Cell, (f c).protection = c.protection ∨ ∃ l, (f c).protection = some l ∧ K l.owner) (d : Dir) (x : Nat) :
    Works J K s (updCell s d x f) where
  changes := changesOnly_mono (withSwitch_changesOnly s _) (by decide)
  cells := modifyAt_length ..
  outputs := rfl
  queue _ := List.prefix_rfl
  closeQueue := List.prefix_rfl
  back _ := .refl _
  others i e _ he _ := congrArg (Option.map Entry.outline) he
  working c y k hk ht := by
    rw [cell_updCell] at ht
    split at ht
    · obtain h | ⟨l, h, hl⟩ := hw (s.cell c y) <;> rw [h] at ht
      · exact ht
      · exact absurd (beq_iff_eq.1 ht ▸ hl) hk
    · exact ht
  protection c y k hk ht := by
    rw [cell_updCell] at ht
    split at ht
    · obtain h | ⟨l, h, hl⟩ := hp (s.cell c y) <;> rw [h] at ht
      · exact ht
      · exact absurd (beq_iff_eq.1 ht ▸ hl) hk
    · exact ht
  owner _ _ _ ht := ht

theorem writeWorkCells_works {e : Entry} (hk : K e.key) : Works J K s (writeWorkCells s i e) := by
  unfold writeWorkCells
  split
  · refine forEach_works (fun t j _ => updCell_works ?_ ?_ _ _) s
    · exact fun c => .inr ⟨_, rfl, hk⟩
    · exact fun c => .inl rfl
  · exact .refl s

theorem writeProtCells_works {e : Entry} (hk : K e.key) : Works J K s (writeProtCells s i e) := by
  unfold writeProtCells
  split
  · refine forEach_works (fun t j _ => updCell_works ?_ ?_ _ _) s
    · exact fun c => .inl rfl
    · exact fun c => .inr ⟨_, rfl, hk⟩
  · exact .refl s

theorem writeOutput_works {e : Entry} (hk : K e.key) : Works J K s (writeOutput s i e) := by
  unfold writeOutput
  split
  · exact .refl s
  · rename_i p _
    exact
      { changes := changesOnly_mono (withSwitch_changesOnly s _) (by decide)
        cells := rfl
        outputs := modifyAt_length ..
        queue _ := List.prefix_rfl
        closeQueue := List.prefix_rfl
        back _ := .refl _
        others _ _ _ he _ := congrArg (Option.map Entry.outline) he
        working _ _ _ _ ht := ht
        protection _ _ _ _ ht := ht
        owner q k hq ht := by
          have hne : k ≠ e.key := fun h => hq (h ▸ hk)
          rw [output_updOutput] at ht
          split at ht
          · revert ht
            unfold outputOwner
            cases isDropEntry e <;> cases hasProtDrop e.roles <;> cases (s.output q).working <;> simp [outSourceOf, hne.symm]
          · exact ht }

theorem updMon_changesOnly (s : State) (port : Dir) (lane : Nat) (f : LaneMon → LaneMon) : changesOnly [.mons, .site] s (updMon s port lane f) :=
  changesOnly_mono (withMons_changesOnly s _) (by decide)

theorem writeWorkPlace_changesOnly (s : State) (port : Dir) (lane : Nat) (k : Key) (i v : Nat) :
    changesOnly [.mons, .site] s (writeWorkPlace s port lane k i v) := by
  unfold writeWorkPlace
  dsimp only
  split
  · exact updMon_changesOnly _ _ _ _
  · exact changesOnly_trans (updMon_changesOnly _ _ _ _) (changesOnly_mono (raiseNotice_changesOnly _ _ _) (by decide))

theorem writeWorkPlaces_changesOnly (s : State) (i : Nat) (e : Entry) (v : Nat) : changesOnly [.mons, .site] s (writeWorkPlaces s i e v) := by
  unfold writeWorkPlaces
  split
  · exact forEach_changesOnly (fun u lane => writeWorkPlace_changesOnly u _ lane _ i v) _ s
  · exact changesOnly_refl _ s

theorem watchProtection_changesOnly (s : State) (i : Nat) (e : Entry) (v : Nat) : changesOnly [.mons, .site] s (watchProtection s i e v) :=
  forEach_changesOnly (fun u _ => updMon_changesOnly u _ _ _) _ s

theorem openProtection_works {e : Entry} (hk : K e.key) (v : Nat) : Works J K s (openProtection s i e v) :=
  (writeProtCells_works hk).trans ((judgeAllPreempted_tends _ e.key).to_works.trans (.of_monitors (watchProtection_changesOnly _ i e v)))

theorem handToProtection_works (hk : ∀ e, s.entry i = some e → K e.key) (v : Nat) : Works J K s (handToProtection s i v) := by
  unfold handToProtection
  split
  · exact .refl s
  · rename_i e he
    split
    · exact openProtection_works (hk e he) v
    · exact .refl s

/-! ### Match binding and placement -/

/-- A binding is within the outline of its entry. -/
theorem entry_setBinding_outline (s : State) (i : Nat) (b : Binding) (j : Nat) :
    ((setBinding s i b).entry j).map Entry.outline = (s.entry j).map Entry.outline := by
  unfold setBinding
  rw [entry_updEntry]
  split
  · cases s.entry j with
    | none => rfl
    | some e => cases hm : e.meter <;> simp [Entry.outline, Meter.counts, Meter.unlatched, hm]
  · rfl

theorem setBinding_works (s : State) (i : Nat) (b : Binding) : Works J K s (setBinding s i b) :=
  (Tends.of_entries (changesOnly_mono (updEntry_changesOnly _ _ _) (by decide)) (fun j => .of_outline (entry_setBinding_outline s i b j))
    (fun j _ => entry_setBinding_outline s i b j)).to_works

theorem bindTo_works (s : State) (i : Nat) (e : Entry) (n : Nat) (x : MatchRecord) : Works J K s (bindTo s i e n x) :=
  (setRecord_apart s n _).works.trans (setBinding_works _ i _)

theorem leaveUnbound_works (s : State) (i : Nat) (e : Entry) (c : UnboundCause) : Works J K s (leaveUnbound s i e c) := by
  have htold (b : Prop) [Decidable b] (body : NoticeBody) :
      Works J K s (if b then setBinding s i (.unbound c) else raiseNotice (setBinding s i (.unbound c)) (sourceEntry i) body) := by
    split
    · exact setBinding_works s i _
    · exact (setBinding_works s i _).trans (raiseNotice_apart _ _ _).works
  unfold leaveUnbound
  cases e.meter with
  | none => exact htold _ _
  | some m => exact htold _ _

/-- A Charged entry whose line has found its record gives its place free (R181). -/
theorem freeCharged_works {e : Entry} (he : s.entry i = some e) (hc : e.state = .charged) : Works J K s (freeEntry s i) where
  changes := changesOnly_mono (freeEntry_changesOnly s i) (by decide)
  cells := by rw [freeEntry_switch]
  outputs := by rw [freeEntry_switch]
  queue d := by rw [queue_of_lane (freeEntry_lane ..)]
  closeQueue := by rw [freeEntry_bill]
  back j := by
    rw [entry_freeEntry]
    split
    · exact .to_none _
    · exact .refl _
  others j f _ hf hstate := by
    rw [entry_freeEntry, if_neg, hf, Option.map_some]
    rintro rfl
    rw [he] at hf
    exact hstate (Option.some.inj hf ▸ hc)
  working d x k _ ht := by rwa [cell_of_cells (congrArg Switch.cells (freeEntry_switch ..))] at ht
  protection d x k _ ht := by rwa [cell_of_cells (congrArg Switch.cells (freeEntry_switch ..))] at ht
  owner p k _ ht := by rwa [output_of_switch (freeEntry_switch ..)] at ht

theorem placeIn_works {e : Entry} (he : s.entry i = some e) (n : Nat) (x : MatchRecord) : Works J K s (placeIn s i e n x) := by
  unfold placeIn
  split
  · rename_i l hstate _
    have hstage := (setRecord_apart s n (some { x with firstActivation := min x.firstActivation (firstActiveOf e) })).trans (matchStage_apart _ n l false)
    exact hstage.works.trans (freeCharged_works (by rw [hstage.entry, he]) hstate)
  · exact bindTo_works s i e n x

theorem placeOne_works (s : State) (i : Nat) : Works J K s (placeOne s i) := by
  unfold placeOne
  split
  · exact .refl s
  · rename_i e he
    split
    · split
      · exact placeIn_works he _ _
      · exact (setRecord_apart s _ _).works.trans (placeIn_works (by exact he) _ _)
      · exact leaveUnbound_works s i e _
    · exact .refl s

theorem placementScan_works (s : State) : Works J K s (placementScan s) := forEach_works (fun t j _ => placeOne_works t j) s

theorem bindEntry_works (s : State) (i : Nat) : Works J K s (bindEntry s i) := by
  unfold bindEntry
  split
  · exact .refl s
  · split
    · exact .refl s
    · split
      · exact bindTo_works ..
      · exact (setRecord_apart s _ _).works.trans ((bindTo_works ..).trans (placementScan_works _))
      · exact leaveUnbound_works ..

/-! ### Activation and release in a boundary -/

/-- An entry of an index in J written anew. -/
theorem setEntry_works (hi : J i) {e f : Entry} (he : s.entry i = some e) (hf : e.Later f) : Works J K s (setEntry s i f) where
  changes := changesOnly_mono (setEntry_changesOnly s i f) (by decide)
  cells := rfl
  outputs := rfl
  queue _ := List.prefix_rfl
  closeQueue := List.prefix_rfl
  back j := by
    by_cases hij : i = j
    · subst hij
      rw [entry_setEntry_same s i f (placeAt_lt _ _ _ he), he]
      exact .of_later hf
    · rw [entry_setEntry_ne s i j f hij]
      exact .refl _
  others j d hj hd _ := by rw [entry_setEntry_ne s i j f (fun h => hj (h ▸ hi)), hd, Option.map_some]
  working _ _ _ _ ht := ht
  protection _ _ _ _ ht := ht
  owner _ _ _ ht := ht

theorem startEntry_later (e : Entry) (v : Nat) : e.Later (startEntry v e) := ⟨rfl, rfl, rfl, fun h => EntryState.noConfusion h, id⟩

/-- The stages of an activation before the match binding: the entry started, its cells and its output written, its places, its flag judged, its
protection path opened (R109 to R111, R120, R151, R154). -/
def activated (s : State) (i : Nat) (e : Entry) (v : Nat) : State :=
  handToProtection (judgePreempted e.key
    (writeWorkPlaces (writeOutput (writeWorkCells (setEntry s i (startEntry v e)) i e) i e) i e v) i) i v

theorem activate_eq {s : State} {i : Nat} {e : Entry} (he : s.entry i = some e) (v : Nat) : activate s i v = bindEntry (activated s i e v) i := by
  unfold activate
  rw [he]
  rfl

/-- What an activation does once the entry has started. -/
theorem written_works {e : Entry} (he : s.entry i = some e) (hke : K e.key) (v : Nat) :
    Works J K (setEntry s i (startEntry v e)) (activated s i e v) := by
  have hwritten : Works J K (setEntry s i (startEntry v e)) (judgePreempted e.key
      (writeWorkPlaces (writeOutput (writeWorkCells (setEntry s i (startEntry v e)) i e) i e) i e v) i) :=
    (writeWorkCells_works hke).trans ((writeOutput_works hke).trans
      ((Works.of_monitors (writeWorkPlaces_changesOnly _ i e v)).trans (judgePreempted_tends e.key _ i).to_works))
  refine hwritten.trans (handToProtection_works (fun f hf => ?_) v)
  obtain ⟨g, hg, hl⟩ := hwritten.back i f hf
  rw [entry_setEntry_same s i _ (placeAt_lt _ _ _ he)] at hg
  rw [hl.key, ← Option.some.inj hg]
  exact hke

theorem activated_works (hi : J i) (hk : keysIn J K s) {e : Entry} (he : s.entry i = some e) (v : Nat) :
    Works J K s (activated s i e v) :=
  (setEntry_works hi he (startEntry_later e v)).trans (written_works he (hk i e hi he) v)

theorem activateOne_works (hi : J i) (hk : keysIn J K s) (v : Nat) : Works J K s (activateOne v s i) := by
  unfold activateOne
  split
  · rename_i e he
    split
    · rw [activate_eq he]
      exact (activated_works hi hk he v).trans (bindEntry_works _ i)
    · exact .refl s
  · exact .refl s

theorem meterCount_works (hi : J i) (v : Nat) : Works J K s (meterCount v s i) := by
  unfold meterCount
  split
  · exact .refl s
  · rename_i e he
    split
    · split
      · exact setEntry_works hi he ⟨rfl, rfl, rfl, id, id⟩
      · exact .refl s
    · exact .refl s

theorem meterBoundary_works (hi : J i) (v : Nat) : Works J K s (meterBoundary v s i) :=
  (meterCount_works hi v).trans (restartLatches_quiet hi).tends.to_works

theorem releaseOne_works (hi : J i) (hk : keysIn J K s) (v : Nat) : Works J K s (releaseOne v s i) := by
  unfold releaseOne
  split
  · split
    · have hmeter : Works J K s (meterBoundary v s i) := meterBoundary_works hi v
      exact hmeter.trans (release_tends hi (hmeter.keysIn hk)).to_works
    · exact .refl s
  · exact .refl s

/-- A scan whose visits relate a state to the next one where a premise holds that they keep. -/
theorem scan_relates {R : State → State → Prop} {P : State → Prop} (hrefl : ∀ s, R s s) (htrans : ∀ s t u, R s t → R t u → R s u)
    (hkeep : ∀ s t, R s t → P s → P t) {f : State → Nat → State} (hf : ∀ s i, J i → P s → R s (f s i)) {l : List Nat} (hl : ∀ i ∈ l, J i)
    (hp : P s) : R s (forEach l s f) := by
  induction l generalizing s with
  | nil => exact hrefl s
  | cons j l ih =>
    have hj := hf s j (hl j (List.mem_cons_self ..)) hp
    exact htrans _ _ _ hj (ih (fun i h => hl i (List.mem_cons_of_mem _ h)) (hkeep _ _ hj hp))

theorem scan_works {f : State → Nat → State} (hf : ∀ s i, J i → keysIn J K s → Works J K s (f s i)) {l : List Nat} (hl : ∀ i ∈ l, J i)
    (hk : keysIn J K s) : Works J K s (forEach l s f) :=
  scan_relates Works.refl (fun _ _ _ => Works.trans) (fun _ _ => Works.keysIn) hf hl hk

theorem scan_tends {f : State → Nat → State} (hf : ∀ s i, J i → keysIn J K s → Tends J K s (f s i)) {l : List Nat} (hl : ∀ i ∈ l, J i)
    (hk : keysIn J K s) : Tends J K s (forEach l s f) :=
  scan_relates Tends.refl (fun _ _ _ => Tends.trans) (fun _ _ => Tends.keysIn) hf hl hk

end Activation

end Sys2Proof.Machine

namespace Sys2Proof.Machine

/-! ### The phases of a boundary -/

/-- The records of the second that ended are fixed and counted (R122, R125, R130, R159). -/
def secondClosed (t : Nat) (s : State) : State := closeInputs (meterAll t (closeRecords t s))

/-- The entries that end are released, and then those that start are activated (R109, R112). -/
def windowsMoved (t : Nat) (s : State) : State := forEach indexes (forEach indexes s (releaseOne t)) (activateOne t)

/-- The attempts of every entry (R11, R138, R143, R149, R81). -/
def attemptsAll (s : State) : State := forEach indexes s attemptsOne

theorem boundary_eq (t : Nat) (s : State) :
    boundary t s = forEach indexes (attemptsAll (windowsMoved t (secondClosed t s))) restartLatches := rfl

/-! ### The second that ended -/

section SecondClosed
variable {J : Nat → Prop} {K : Key → Prop} {s : State} {i t : Nat}

theorem laneNotice_changesOnly (s : State) (port : Dir) (lane : Nat) (kind : PlaceKind) (o : Option Place) (c : Option Cond) (x y : Bool) (v : Nat) :
    changesOnly [.mons, .site] s (laneNotice s port lane kind o c x y v) := by
  unfold laneNotice
  split
  · dsimp only
    split
    · exact changesOnly_mono (raiseNotice_changesOnly _ _ _) (by decide)
    · exact changesOnly_refl _ s
  · exact changesOnly_refl _ s

theorem closeLane_changesOnly (t : Nat) (s : State) (port : Dir) (lane : Nat) : changesOnly [.mons, .site] s (closeLane t s port lane) := by
  unfold closeLane
  dsimp only
  split
  · exact changesOnly_refl _ s
  · exact changesOnly_trans (updMon_changesOnly _ _ _ _) (changesOnly_trans (laneNotice_changesOnly _ _ _ _ _ _ _ _ _) (laneNotice_changesOnly _ _ _ _ _ _ _ _ _))

theorem closeLanes_changesOnly (t : Nat) (s : State) : changesOnly [.mons, .site] s (closeLanes t s) :=
  changesOnly_trans (forEach_changesOnly (fun u j => closeLane_changesOnly t u .west j) _ s)
    (forEach_changesOnly (fun u j => closeLane_changesOnly t u .east j) _ _)

theorem closeInput_changesOnly (s : State) (p : Nat) : changesOnly [.mons, .site] s (closeInput s p) := by
  unfold closeInput
  dsimp only
  split
  · exact changesOnly_trans (changesOnly_mono (withMons_changesOnly s _) (by decide)) (changesOnly_mono (raiseNotice_changesOnly _ _ _) (by decide))
  · exact changesOnly_refl _ s

theorem closeInputs_changesOnly (s : State) : changesOnly [.mons, .site] s (closeInputs s) := forEach_changesOnly closeInput_changesOnly _ s

/-- The path records of a drop that is not Active, or keeps none, stay (R125). -/
theorem closePaths_idle {e : Entry} (he : s.entry i = some e) (h : e.state ≠ .active ∨ e.paths = none) : closePaths s i = s := by
  unfold closePaths
  rw [he]
  dsimp only
  split
  · rename_i hstate hpaths
    simp [hstate, hpaths] at h
  · rfl

/-- An Active drop's path records are closed, the selected one with the worst condition of its open record where it has one (R125). -/
theorem closePaths_active {e : Entry} {p : Paths} (he : s.entry i = some e) (hstate : e.state = .active) (hp : e.paths = some p) :
    ∃ w o r, closePaths s i = setEntry s i { e with paths := some { selOpen := none, working := some w, protection := o, selected := some r } }
      ∧ ∀ c, p.selOpen = some c → r.cond = c := by
  refine ⟨workingRecord s e, protectionRecord s e,
    { cond := closeCond p.selOpen (judgeSelected s e (fun port lane => (s.mon port lane).last)), overlay := selectedOverlay s e,
      settle := (workingRecord s e).settle }, ?_, ?_⟩
  · unfold closePaths
    rw [he]
    dsimp only
    rw [hstate, hp]
  · intro c hc
    simp [closeCond, hc]

theorem closePaths_works (hi : J i) : Works J K s (closePaths s i) := by
  cases he : s.entry i with
  | none =>
    unfold closePaths
    rw [he]
    exact .refl s
  | some e =>
    by_cases h : e.state = .active ∧ e.paths ≠ none
    · obtain ⟨hstate, hpaths⟩ := h
      obtain ⟨p, hp⟩ := Option.ne_none_iff_exists'.1 hpaths
      obtain ⟨w, o, r, hclosed, -⟩ := closePaths_active he hstate hp
      rw [hclosed]
      exact setEntry_works hi he ⟨rfl, rfl, rfl, id, id⟩
    · rw [closePaths_idle he (by tauto)]
      exact .refl s

theorem secondClosed_works (s : State) (t : Nat) : Works (fun _ => True) K s (secondClosed t s) :=
  (Works.of_monitors (closeLanes_changesOnly t s)).trans ((forEach_works (fun _ _ _ => closePaths_works trivial) _).trans
    ((forEach_works (fun _ _ _ => meterBoundary_works trivial t) _).trans (.of_monitors (closeInputs_changesOnly _))))

/-- A scan whose visits each write their own entry alone leaves an index outside its list as it was. -/
theorem entry_forEach_ne {f : State → Nat → State} (hf : ∀ s j i, j ≠ i → (f s j).entry i = s.entry i) {l : List Nat} (hl : i ∉ l) (s : State) :
    (forEach l s f).entry i = s.entry i := by
  induction l generalizing s with
  | nil => rfl
  | cons j l ih =>
    obtain ⟨hj, hl⟩ := not_or.1 (List.mem_cons.not.1 hl)
    exact (ih hl (f s j)).trans (hf s j i (Ne.symm hj))

/-- A scan of the calendar whose visits each write their own entry alone does with an entry what its own visit does, in some state. -/
theorem entry_forEach_own {f : State → Nat → State} (hf : ∀ s j i, j ≠ i → (f s j).entry i = s.entry i) (hi : i < 64) (s : State) :
    ∃ u, u.entry i = s.entry i ∧ (forEach indexes s f).entry i = (f u i).entry i := by
  obtain ⟨l, m, hl, hm, hscan⟩ := forEach_indexes hi
  exact ⟨forEach l s f, entry_forEach_ne hf hl s, by rw [hscan, entry_forEach_ne hf hm]⟩

theorem entry_closePaths_ne (s : State) (j i : Nat) (h : j ≠ i) : (closePaths s j).entry i = s.entry i := by
  cases he : s.entry j with
  | none =>
    unfold closePaths
    rw [he]
  | some e =>
    by_cases hact : e.state = .active ∧ e.paths ≠ none
    · obtain ⟨hstate, hpaths⟩ := hact
      obtain ⟨p, hp⟩ := Option.ne_none_iff_exists'.1 hpaths
      obtain ⟨w, o, r, hclosed, -⟩ := closePaths_active he hstate hp
      rw [hclosed, entry_setEntry_ne s j i _ h]
    · rw [closePaths_idle he (by tauto)]

/-! ### The meters' count -/

/-- Table 9-2 as the meter counts by it (R161). -/
theorem count_countedAs (m : Meter) (isExtra : Bool) (r : SecondRec) :
    countedAs m (m.count (meterClass isExtra (m.preLatch == some true) m.protLatch r)) isExtra r := by
  have hfirst (h : isExtra = false ∨ m.preLatch ≠ some true) : (isExtra && m.preLatch == some true) = false := by
    rcases h with h | h <;> simp [h]
  refine ⟨?_, fun hx hp => ?_, fun h => ?_⟩
  · unfold Meter.count
    split <;> rfl
  · simp [meterClass, hx, hp, Meter.count, Meter.tally]
  · have hnot := hfirst h
    refine ⟨?_, ?_, ?_, ?_, ?_⟩
    · rintro (hc | hc | ⟨g, hc⟩) <;> simp [meterClass, hnot, hc, Meter.count, Meter.tally]
    · intro g hc hx
      simp [meterClass, hc, hx, Meter.count, Meter.tally]
    · intro g hc hx
      simp [meterClass, hx, hc, Meter.count, Meter.tally]
    · intro hc
      simp [meterClass, hnot, hc, Meter.count, Meter.tally]
    · intro hc
      simp [meterClass, hnot, hc, Meter.count, Meter.tally]

/-- A meter n after the boundary t that found it as m in an Active drop with a selected-path record r: counted where it had to be, and not to be counted
again (R159). -/
def Meter.counted (t : Nat) (isExtra : Bool) (r : SecondRec) (m n : Meter) : Prop :=
  n.countsAt t = false ∧ (m.countsAt t = true → countedAs m n isExtra r)

theorem Meter.counted_restart {t : Nat} {isExtra : Bool} {r : SecondRec} {m n : Meter} (h : Meter.counted t isExtra r m n) (p b : Bool) :
    Meter.counted t isExtra r m (n.restart p b) := h

theorem exists_of_bound {o q : Option Meter} (h : o.map Meter.binding = q.map Meter.binding) {n : Meter} (ho : o = some n) : ∃ m, q = some m := by
  cases q with
  | none => simp [ho] at h
  | some m => exact ⟨m, rfl⟩

theorem meterCount_idle {e : Entry} (he : s.entry i = some e) (h : e.state ≠ .active) : meterCount t s i = s := by
  unfold meterCount
  rw [he]
  dsimp only
  split
  · rename_i hstate _ _
    exact absurd hstate h
  · rfl

/-- The count of one entry writes its meter alone; an Active drop's with a selected-path record is counted. -/
theorem meterCount_entry {e : Entry} (he : s.entry i = some e) : ∃ o, (meterCount t s i).entry i = some { e with meter := o }
    ∧ o.map Meter.binding = e.meter.map Meter.binding
    ∧ ∀ m r, e.state = .active → e.meter = some m → e.paths.bind Paths.selected = some r →
        ∃ n, o = some n ∧ Meter.counted t (e.bk.cls == .extra) r m n := by
  unfold meterCount
  rw [he]
  dsimp only
  split
  · rename_i m r hstate hm hr
    split
    · refine ⟨_, entry_setEntry_same s i _ (placeAt_lt _ _ _ he), by rw [hm]; unfold Meter.count; split <;> rfl, ?_⟩
      intro m' r' _ hm' hr'
      obtain rfl := Option.some.inj (hm.symm.trans hm')
      obtain rfl := Option.some.inj (hr.symm.trans hr')
      refine ⟨_, rfl, by simp [Meter.countsAt], fun _ => count_countedAs m _ r⟩
    · rename_i hno
      refine ⟨e.meter, he, rfl, ?_⟩
      intro m' r' _ hm' hr'
      obtain rfl := Option.some.inj (hm.symm.trans hm')
      exact ⟨m, hm, by simpa using hno, fun h => absurd h hno⟩
  · rename_i hnone
    exact ⟨e.meter, he, rfl, fun m r hstate hm hr => (hnone m r hstate hm hr).elim⟩

/-- A restart writes the latches alone (R160). -/
theorem restartLatches_entry {e : Entry} (he : s.entry i = some e) : ∃ p b, (restartLatches s i).entry i
    = some { e with meter := if e.state = .active then e.meter.map (Meter.restart p b) else e.meter } := by
  unfold restartLatches
  rw [he]
  dsimp only
  split
  · rename_i h
    exact ⟨_, _, by rw [entry_setEntry_same s i _ (placeAt_lt _ _ _ he)]⟩
  · exact ⟨false, false, he⟩

theorem meterBoundary_entry {e : Entry} (he : s.entry i = some e) : ∃ o, (meterBoundary t s i).entry i = some { e with meter := o }
    ∧ o.map Meter.binding = e.meter.map Meter.binding ∧ (e.state ≠ .active → o = e.meter)
    ∧ ∀ m r, e.state = .active → e.meter = some m → e.paths.bind Paths.selected = some r →
        ∃ n, o = some n ∧ Meter.counted t (e.bk.cls == .extra) r m n := by
  obtain ⟨o, ho, hbound, hcounted⟩ := meterCount_entry (t := t) he
  obtain ⟨p, b, hrestart⟩ := restartLatches_entry ho
  refine ⟨_, hrestart, ?_, ?_, ?_⟩
  · rw [← hbound]
    dsimp only
    split
    · cases o <;> rfl
    · rfl
  · intro hidle
    rw [meterCount_idle he hidle, he] at ho
    have hmeter := congrArg Entry.meter (Option.some.inj ho)
    simpa [hidle] using hmeter.symm
  · intro m r hstate hm hr
    obtain ⟨n, hn, hc⟩ := hcounted m r hstate hm hr
    exact ⟨n.restart p b, by simp [hstate, hn], Meter.counted_restart hc p b⟩

theorem entry_restartLatches_ne (s : State) (j i : Nat) (h : j ≠ i) : (restartLatches s j).entry i = s.entry i :=
  (restartLatches_quiet (K := fun _ => True) (J := (· = j)) rfl).same i (Ne.symm h)

theorem entry_meterBoundary_ne (t : Nat) (s : State) (j i : Nat) (h : j ≠ i) : (meterBoundary t s j).entry i = s.entry i := by
  unfold meterBoundary
  rw [entry_restartLatches_ne _ j i h]
  unfold meterCount
  split
  · rfl
  · split
    · split
      · exact entry_setEntry_ne _ _ _ _ h
      · rfl
    · rfl

/-! ### An entry in the second that ended -/

/-- An entry's meter has nothing left to count of second t − 1 (R159). -/
def Entry.isCounted (t : Nat) (e : Entry) : Prop :=
  ∀ m r, e.state = .active → e.meter = some m → e.paths.bind Paths.selected = some r → m.countsAt t = false

/-- Entry f is what the closing of second t − 1 makes of entry e: its path records closed and its meter counted where it is Active (R125, R159). -/
structure Entry.Closed (t : Nat) (e f : Entry) : Prop where
  rest    : { f with meter := e.meter, paths := e.paths } = e
  idle    : e.state ≠ .active → f = e
  bound   : f.meter.map Meter.binding = e.meter.map Meter.binding
  counted : f.isCounted t
  records : ∀ p, e.state = .active → e.paths = some p → ∃ w o r, f.paths = some { selOpen := none, working := some w, protection := o, selected := some r }
    ∧ (∀ c, p.selOpen = some c → r.cond = c)
    ∧ ∀ m, e.meter = some m → ∃ n, f.meter = some n ∧ Meter.counted t (e.bk.cls == .extra) r m n

theorem Entry.Closed.parts {e f : Entry} (h : e.Closed t f) : f.key = e.key ∧ f.bk = e.bk ∧ f.roles = e.roles ∧ f.state = e.state := by
  have hkey := congrArg Entry.key h.rest
  have hbk := congrArg Entry.bk h.rest
  have hroles := congrArg Entry.roles h.rest
  have hstate := congrArg Entry.state h.rest
  exact ⟨hkey, hbk, hroles, hstate⟩

theorem Entry.Closed.metered {e f : Entry} (h : e.Closed t f) (hm : e.meter ≠ none) : f.meter ≠ none := by
  intro hn
  have hbound := h.bound
  rw [hn] at hbound
  exact hm (Option.map_eq_none_iff.1 hbound.symm)

theorem entry_secondClosed {e : Entry} (hi : i < 64) (he : s.entry i = some e) : ∃ f, (secondClosed t s).entry i = some f ∧ e.Closed t f := by
  obtain ⟨u, hu, hpaths⟩ := entry_forEach_own entry_closePaths_ne hi (closeLanes t s)
  obtain ⟨v, hv, hmeters⟩ := entry_forEach_own (entry_meterBoundary_ne t) hi (closeRecords t s)
  rw [entry_of_entries (changesOnly_entries (closeLanes_changesOnly t s) (by decide)), he] at hu
  have hfinal : (secondClosed t s).entry i = (meterBoundary t v i).entry i := by
    rw [secondClosed, entry_of_entries (changesOnly_entries (closeInputs_changesOnly _) (by decide)), meterAll, hmeters]
  change (closeRecords t s).entry i = _ at hpaths
  by_cases hact : e.state = .active ∧ e.paths ≠ none
  · obtain ⟨hstate, hsome⟩ := hact
    obtain ⟨p, hp⟩ := Option.ne_none_iff_exists'.1 hsome
    obtain ⟨w, o, r, hclosed, hcond⟩ := closePaths_active hu hstate hp
    rw [hclosed, entry_setEntry_same u i _ (placeAt_lt _ _ _ hu)] at hpaths
    obtain ⟨x, hx, hbound, hidle, hcounted⟩ := meterBoundary_entry (t := t) (hv.trans hpaths)
    refine ⟨_, hfinal.trans hx, rfl, fun h => absurd hstate h, hbound, ?_, ?_⟩
    · intro n r' _ hn _
      obtain ⟨m, hm⟩ := exists_of_bound hbound hn
      obtain ⟨n', hn', hfixed, -⟩ := hcounted m r hstate hm rfl
      obtain rfl := Option.some.inj (hn'.symm.trans hn)
      exact hfixed
    · intro p' _ hp'
      obtain rfl := Option.some.inj (hp.symm.trans hp')
      exact ⟨w, o, r, rfl, hcond, fun m hm => hcounted m r hstate hm rfl⟩
  · have hstay : e.state ≠ .active ∨ e.paths = none := (not_and_or.1 hact).imp_right not_not.1
    rw [closePaths_idle hu hstay, hu] at hpaths
    obtain ⟨x, hx, hbound, hidle, -⟩ := meterBoundary_entry (t := t) (hv.trans hpaths)
    refine ⟨_, hfinal.trans hx, rfl, fun h => ?_, hbound, fun m r hstate _ hr => ?_, fun p hstate hp => ?_⟩
    · rw [hidle h]
    · have hpaths : e.paths = none := hstay.resolve_left (not_not.2 hstate)
      simp [hpaths] at hr
    · simp [hstate, hp] at hstay

end SecondClosed

end Sys2Proof.Machine

namespace Sys2Proof.Machine

/-! ### A boundary as a whole -/

theorem boundary_works (v : Nat) (s : State) : Works (fun _ => True) (fun _ => True) s (boundary v s) := by
  have hall : ∀ i ∈ indexes, True := fun _ _ => trivial
  have hkeys (u : State) : keysIn (fun _ => True) (fun _ => True) u := fun _ _ _ _ => trivial
  have hmoved : Works (fun _ => True) (fun _ => True) (secondClosed v s) (windowsMoved v (secondClosed v s)) :=
    (scan_works (fun _ _ hi hk => releaseOne_works hi hk v) hall (hkeys _)).trans
      (scan_works (fun _ _ hi hk => activateOne_works hi hk v) hall (hkeys _))
  have hattempts (u : State) : Works (fun _ => True) (fun _ => True) u (attemptsAll u) :=
    scan_works (fun _ _ hi hk => (attemptsOne_tends hi hk).to_works) hall (hkeys u)
  have hlatches (u : State) : Works (fun _ => True) (fun _ => True) u (forEach indexes u restartLatches) :=
    scan_works (fun _ _ hi _ => (restartLatches_quiet hi).tends.to_works) hall (hkeys u)
  exact (secondClosed_works s v).trans (hmoved.trans ((hattempts _).trans (hlatches _)))

/-- A boundary leaves the station, the clock and the recall controller alone. -/
theorem boundary_changesOnly (v : Nat) (s : State) :
    changesOnly [.lane, .entries, .claims, .switch, .mons, .bridged, .bill, .site] s (boundary v s) := (boundary_works v s).changes

theorem jump_changesOnly (s : State) (j : Nat) :
    changesOnly [.clock, .lane, .entries, .claims, .switch, .mons, .bridged, .bill, .site] s (jump s j) := by
  have hset : changesOnly [.clock, .lane, .entries, .claims, .switch, .mons, .bridged, .bill, .site] s (setSeconds s (s.clock.seconds + j)) :=
    changesOnly_mono (withClock_changesOnly s _) (by decide)
  exact changesOnly_trans hset (forEach_relates (fun u => changesOnly_refl _ u) (fun _ _ _ => changesOnly_trans)
    (fun u n _ => changesOnly_mono (boundary_changesOnly (s.clock.seconds + n + 1) u) (by decide)) _)

/-! ### The stamp of a message that passes -/

/-- A MARK of another station, both sides open: its stamp is taken and the slot goes on, its hop count raised (R8, R15, R25, R30). -/
theorem exec_mark {s : State} {port : Dir} {h : Header} (ho : bothOpen s port) (hother : h.origin ≠ s.self) (hhops : h.hops + 1 < 2 * s.ring)
    (hwraps : h.wraps = 0) : exec (.markReceived port false h) s
      = .next (emit (takeStamp (noteFar s port false) { hdr := h, body := .mark }) (opp port) (some (hopped { hdr := h, body := .mark }))) := by
  obtain ⟨hopen, hopp⟩ := open_not_wrapped s port ho
  obtain ⟨hnormal, -⟩ := ho
  have hshell := takeStamp_shell (noteFar s port false) { hdr := h, body := .mark }
  have hcfg : (takeStamp (noteFar s port false) { hdr := h, body := .mark }).cfg = s.cfg :=
    (congrArg StationShell.cfg (station_of_shell hshell)).trans (noteFar_cfg ..)
  have hstays : wrapped (takeStamp (noteFar s port false) { hdr := h, body := .mark }) (opp port) = false := by
    rw [wrapped_of_shell hshell, hopp]
  have hown : (h.origin = (takeStamp (noteFar s port false) { hdr := h, body := .mark }).self && h.sentDir = opp port) = false := by
    simpa [State.self, hcfg] using fun heq => absurd heq hother
  have hfar : ¬ 2 * (takeStamp (noteFar s port false) { hdr := h, body := .mark }).ring ≤ h.hops + 1 := by
    simpa [State.ring, hcfg] using hhops
  refine congrArg Host.Outcome.next ?_
  unfold arriveFull
  simp only [running_of_normal hnormal, if_true, hopen, Bool.false_eq_true, if_false]
  generalize takeStamp (noteFar s port false) { hdr := h, body := .mark } = u at hstays hown hfar ⊢
  have hact : act u port (hopped { hdr := h, body := .mark }) = (u, hopped { hdr := h, body := .mark }) := rfl
  unfold handleFull
  simp only [hown, hfar, hwraps, firstSight, hact, forward, hstays]
  rfl

/-- A slot whose stamp is taken on the way leaves as any other (R5, R8). -/
theorem passedOn_emit {s u : State} {port : Dir} (h : Header) (b : Body) (ho : bothOpen s port) (hu : u.shell = (noteFar s port false).shell) :
    passedOn s (emit u (opp port) (some (hopped { hdr := h, body := b }))) port h b := by
  obtain ⟨hfar, hopp, hout, hother, hlast⟩ := slotLeaves_emit ho (some (hopped { hdr := h, body := b }))
  refine ⟨?_, ?_, ?_, ?_, ?_⟩
  · rw [far_emit, far_of_shell hu, ← far_emit _ (opp port) _ (some (hopped { hdr := h, body := b })), hfar]
  · rw [far_emit, far_of_shell hu, ← hopp, far_emit]
  · rw [outOf_emit_same, span_of_station (station_of_shell hu), ← outOf_emit_same, hout]
    rfl
  · rw [outOf_emit_other, outOf_of_shell hu, ← hother, outOf_emit_other]
  · rw [lastServed_emit, lastServed_of_shell hu, ← hlast, lastServed_emit]

theorem takeStamp_unsynced {s : State} {m : Msg} (hm : m.hdr.unsynced = false) (hs : s.clock.synced = false) :
    takeStamp s m = becomeSynced s m.hdr.stamp (.stamp m.hdr.origin (kindCode m.body)) := by simp [takeStamp, hm, hs]

theorem takeStamp_jumps {s : State} {m : Msg} (hm : m.hdr.unsynced = false) (hs : s.clock.synced = true) (hlow : s.clock.seconds < m.hdr.stamp)
    (hhigh : m.hdr.stamp ≤ s.clock.seconds + 4) : takeStamp s m = jump s (m.hdr.stamp - s.clock.seconds) := by
  simp [takeStamp, hm, hs, Nat.not_le.2 hlow, hhigh]

theorem takeStamp_skewed {s : State} {m : Msg} (hm : m.hdr.unsynced = false) (hs : s.clock.synced = true)
    (hhigh : s.clock.seconds + 5 ≤ m.hdr.stamp) : takeStamp s m
      = raiseNotice s sourceClock (.clockSkew m.hdr.stamp s.clock.seconds m.hdr.origin (kindCode m.body)) := by
  have hnew : ¬ m.hdr.stamp ≤ s.clock.seconds := by omega
  have hfar : ¬ m.hdr.stamp ≤ s.clock.seconds + 4 := by omega
  simp [takeStamp, hm, hs, hnew, hfar]

theorem raiseNotice_queuesKept (s : State) (src : Nat) (c : NoticeBody) : queuesKept s (raiseNotice s src c) := by
  unfold queuesKept
  rw [raiseNotice_lane]
  exact ⟨rfl, rfl, rfl, rfl⟩

/-- Settles O38: the stamp is taken before the slot is handled, and what it does to the clock is the case of its distance (R25, R26). -/
theorem stampTaken : Obligations.StampTaken := by
  intro s port h ho hother hhops hwraps hm
  have hexec := exec_mark ho hother hhops hwraps
  have hpassed := passedOn_emit h .mark ho (takeStamp_shell (noteFar s port false) { hdr := h, body := .mark })
  obtain ⟨hnormal, -⟩ := ho
  have hnoted : changesOnly [.lane] s (noteFar s port false) := noteFar_changesOnly s port false
  have hsite (u : State) (m : Option Msg) (src : Nat) : noticeAt (emit u (opp port) m) src = noticeAt u src := noticeAt_of_site (emit_site ..) src
  refine ⟨fun hs => ⟨_, hexec, ?_, ?_, ?_, hpassed, ?_⟩, fun hs hlow hhigh => ⟨_, hexec, ?_, hpassed, ?_⟩, fun hs hhigh => ⟨_, hexec, ?_, ?_, hpassed, ?_, ?_⟩⟩
  · rw [emit_clock, takeStamp_unsynced hm (by simpa using hs), becomeSynced_clock, noteFar_nowMs]
  · rw [hsite, takeStamp_unsynced hm (by simpa using hs), becomeSynced_notice (by simpa using hnormal)]
    rfl
  · intro hw
    rw [emit_recov, takeStamp_unsynced hm (by simpa using hs)]
    obtain ⟨hstate, -⟩ := becomeSynced_recov (s := noteFar s port false) (by simpa using hw) h.stamp (.stamp h.origin 1)
    exact hstate
  · rw [takeStamp_unsynced hm (by simpa using hs)]
    exact changesOnly_trans (changesOnly_mono hnoted (by decide))
      (changesOnly_trans (becomeSynced_changesOnly _ _ _) (changesOnly_mono (emit_changesOnly _ _ _) (by decide)))
  · rw [emit_clock, takeStamp_jumps hm (by simpa using hs) (by simpa using hlow) (by simpa using hhigh), jump_clock, noteFar_clock]
    simp [Nat.add_sub_cancel' hlow.le]
  · rw [takeStamp_jumps hm (by simpa using hs) (by simpa using hlow) (by simpa using hhigh)]
    exact changesOnly_trans (changesOnly_mono hnoted (by decide))
      (changesOnly_trans (jump_changesOnly _ _) (changesOnly_mono (emit_changesOnly _ _ _) (by decide)))
  · rw [emit_clock, takeStamp_skewed hm (by simpa using hs) (by simpa using hhigh), raiseNotice_clock, noteFar_clock]
  · rw [hsite, takeStamp_skewed hm (by simpa using hs) (by simpa using hhigh), noticeAt_raiseNotice (running_of_normal (by simpa using hnormal)),
      noteFar_clock]
    rfl
  · rw [takeStamp_skewed hm (by simpa using hs) (by simpa using hhigh)]
    exact queuesKept_trans (noteFar_queuesKept ..) (queuesKept_trans (raiseNotice_queuesKept ..) (emit_queuesKept ..))
  · rw [takeStamp_skewed hm (by simpa using hs) (by simpa using hhigh)]
    exact changesOnly_trans (changesOnly_mono hnoted (by decide))
      (changesOnly_trans (changesOnly_mono (raiseNotice_changesOnly _ _ _) (by decide)) (changesOnly_mono (emit_changesOnly _ _ _) (by decide)))

end Sys2Proof.Machine

namespace Sys2Proof.Machine

/-! ### The MARK timer -/

section MarkTimer
variable {s : State} {d : Nat}

theorem exec_markTimer (h : s.clock.markDeadline = some d) : exec .markTimerExpiry s = .next (expireMark (reach s d)) := by
  change execMarkTimerExpiry s = _
  rw [execMarkTimerExpiry, h]

theorem markWaits_reach (s : State) (d : Nat) : markWaits (reach s d) = markWaits s := by rw [markWaits, markWaits, reach_lane]

theorem canJoin_reach (s : State) (d : Nat) (x : Dir) : canJoin (reach s d) x = canJoin s x := by
  simp [canJoin, hasPlace, heldFor, queue_of_lane (reach_lane s d)]

theorem reach_changesOnly (s : State) (d : Nat) : changesOnly [.nowMs, .clock] s (reach s d) := by
  intro p hp
  cases p <;> simp [Part.same] at hp ⊢

/-- The MARK timer starts again at a Synced station: nothing else of the time that has come moves (R30). -/
theorem startMark_timeCame {t : State} (hs : s.clock.synced = true) (hclock : t.clock = (reach s d).clock) (hnow : t.nowMs = (reach s d).nowMs) :
    timeCame s (startMark t) d ∧ (startMark t).clock.markDeadline = some (max s.nowMs d + 10000) := by
  have hsynced : t.clock.synced = true := by rw [hclock, reach_synced, hs]
  have hstarted : startMark t = t.withClock { t.clock with markDeadline := some (after t Config.markMs) } := by simp [startMark, hsynced]
  rw [hstarted]
  refine ⟨⟨by simp [hnow], by simp [hclock], by simp [hclock], ?_⟩, by simp [after, hnow, Config.markMs]⟩
  have hran := reach_ran s d
  simpa [Clock.ran, hclock] using hran

theorem markTimer_queues (h : s.clock.markDeadline = some d) (hs : s.clock.synced = true) (hw : markWaits s = false) (hj : canJoin s .east = true) :
    ∃ t, exec .markTimerExpiry s = .next t
      ∧ joins s t .east s.lane.counter .mark ∧ t.lane.counter = (s.lane.counter + 1) % 65536
      ∧ timeCame s t d ∧ t.clock.markDeadline = some (max s.nowMs d + 10000)
      ∧ changesOnly [.nowMs, .clock, .lane] s t := by
  have hexpired : expireMark (reach s d) = startMark (joinCounted (reach s d) .mark) := by
    simp [expireMark, markWaits_reach, canJoin_reach, hw, hj]
  have hjoined := joins_joinCounted (reach s d) .mark
  obtain ⟨htime, hmark⟩ := startMark_timeCame (d := d) (t := joinCounted (reach s d) .mark) hs (joinCounted_clock ..) (joinCounted_nowMs ..)
  refine ⟨_, (exec_markTimer h).trans (congrArg _ hexpired), ?_, ?_, htime, hmark, ?_⟩
  · have hlane : (startMark (joinCounted (reach s d) .mark)).lane = (joinCounted (reach s d) .mark).lane := startMark_lane _
    have hnew : newMsg (reach s d) .east s.lane.counter .mark = newMsg s .east s.lane.counter .mark := by simp [newMsg, State.self]
    have hkept (x : Dir) : (reach s d).queue x = s.queue x := queue_of_lane (reach_lane s d) x
    obtain ⟨hq, ho⟩ := joins_of_lane hjoined hlane
    rw [reach_lane, hnew, hkept] at hq
    rw [hkept] at ho
    exact ⟨hq, ho⟩
  · rw [startMark_lane]
    change ((reach s d).lane.counter + 1) % 65536 = _
    rw [reach_lane]
  · exact changesOnly_trans (changesOnly_mono (reach_changesOnly s d) (by decide))
      (changesOnly_trans (changesOnly_mono (joinCounted_changesOnly _ _) (by decide)) (changesOnly_mono (startMark_changesOnly _) (by decide)))

theorem markTimer_waits (h : s.clock.markDeadline = some d) (hs : s.clock.synced = true) (hw : markWaits s = true) :
    ∃ t, exec .markTimerExpiry s = .next t
      ∧ timeCame s t d ∧ t.clock.markDeadline = some (max s.nowMs d + 10000) ∧ changesOnly [.nowMs, .clock] s t := by
  have hexpired : expireMark (reach s d) = startMark (reach s d) := by simp [expireMark, markWaits_reach, hw]
  obtain ⟨htime, hmark⟩ := startMark_timeCame (t := reach s d) hs rfl rfl
  exact ⟨_, (exec_markTimer h).trans (congrArg _ hexpired), htime, hmark,
    changesOnly_trans (reach_changesOnly s d) (changesOnly_mono (startMark_changesOnly _) (by decide))⟩

end MarkTimer

/-! ### The time at a boundary -/

/-- The state in which a boundary is delivered: 1,000 ms of the second have passed, and the clock is in the next one (R24, log 2). -/
def atBoundary (s : State) : State := (s.withNowMs (s.nowMs + (1000 - s.clock.ran))).withClock s.clock.nextSecond

theorem exec_secondBoundary {s : State} (hs : s.clock.synced = true) (hl : s.clock.seconds < 4294967295) :
    exec .secondBoundary s = .next (boundary (s.clock.seconds + 1) (atBoundary s)) := by
  have hruns : clockRuns s = true := (clockRuns_iff s).2 ⟨hs, hl⟩
  have hruns' : clockRuns (s.withNowMs (s.nowMs + (1000 - s.clock.ran))) = true := hruns
  change execSecondBoundary s = _
  rw [execSecondBoundary, if_pos hruns, runSecond, if_pos hruns']
  rfl

theorem atBoundary_changesOnly (s : State) : changesOnly [.nowMs, .clock] s (atBoundary s) := by
  intro p hp
  cases p <;> simp [Part.same, atBoundary] at hp ⊢

/-- The clock of the next second: ring seconds one on, the milliseconds beyond the 1,000 carried, none at the limit (R24, log 2). -/
theorem nextSecond_time (c : Clock) :
    c.nextSecond.synced = c.synced ∧ c.nextSecond.seconds = c.seconds + 1 ∧ c.nextSecond.markDeadline = c.markDeadline
      ∧ (c.ran ≤ 1000 → c.nextSecond.fraction = 0 ∧ c.nextSecond.late = 0)
      ∧ (1000 ≤ c.ran → c.seconds + 1 < 4294967295 → c.nextSecond.ran + 1000 = c.ran)
      ∧ (c.seconds + 1 = 4294967295 → c.nextSecond.fraction = 0 ∧ c.nextSecond.late = 0) := by
  refine ⟨rfl, rfl, rfl, fun h => ?_, fun h hl => ?_, fun h => ?_⟩
  · have hnone : carried c = 0 := by
      unfold carried
      split
      · omega
      · rfl
    simp [Clock.nextSecond, Clock.withRan, hnone]
  · have hrest : carried c = c.ran - 1000 := if_pos hl
    rw [Clock.nextSecond, Clock.withRan_ran, hrest]
    omega
  · have hnone : carried c = 0 := if_neg (by simp [Config.maxSeconds, h])
    simp [Clock.nextSecond, Clock.withRan, hnone]

theorem boundary_nowMs (v : Nat) (s : State) : (boundary v s).nowMs = s.nowMs := boundary_changesOnly v s .nowMs (by decide)

/-! ### The classes of path records -/

theorem classesByTable_holds : classesByTable := by
  refine ⟨fun r => ?_, rfl, fun _ => rfl⟩
  unfold classOf
  by_cases hsettle : r.settle = true
  · rw [if_pos hsettle, if_pos hsettle]
  · rw [if_neg hsettle, if_neg hsettle]
    cases r.cond <;> rfl

end Sys2Proof.Machine

namespace Sys2Proof.Machine

/-! ### The visits of one entry -/

section Visits
variable {J : Nat → Prop} {K : Key → Prop} {s t u : State} {i v : Nat} {e : Entry}

theorem releaseOne_none (h : s.entry i = none) : releaseOne v s i = s := by rw [releaseOne, h]
theorem activateOne_none (h : s.entry i = none) : activateOne v s i = s := by rw [activateOne, h]

theorem releaseOne_stays (he : s.entry i = some e) (h : ¬ (e.state = .active ∧ e.bk.winEnd = v)) : releaseOne v s i = s := by
  rw [releaseOne, he]
  simpa using fun hstate hend => absurd ⟨hstate, hend⟩ h

theorem releaseOne_ends (he : s.entry i = some e) (hstate : e.state = .active) (hend : e.bk.winEnd = v) :
    releaseOne v s i = release (meterBoundary v s i) i := by simp [releaseOne, he, hstate, hend]

theorem activateOne_stays (he : s.entry i = some e) (h : ¬ (e.state = .held ∧ e.bk.winStart = v)) : activateOne v s i = s := by
  rw [activateOne, he]
  simpa using fun hstate hstart => absurd ⟨hstate, hstart⟩ h

theorem activateOne_starts (he : s.entry i = some e) (hstate : e.state = .held) (hstart : e.bk.winStart = v) :
    activateOne v s i = activate s i v := by simp [activateOne, he, hstate, hstart]

theorem attemptMarker_none (he : s.entry i = some e) (h : e.marker = none) : attemptMarker s i = s := by simp [attemptMarker, he, h]

/-! ### What settles of an entry -/

/-- What no work of a boundary but an activation or a release changes of an entry. -/
def Entry.settled (e : Entry) : Entry := e.still.outline

theorem settled_of_still {e f : Entry} (h : f.still = e.still) : f.settled = e.settled := congrArg Entry.outline h

theorem settled_eq (e : Entry) : e.settled = { e.outline with prot := none, request := none, bridge := none } := by
  cases hm : e.meter <;> simp [Entry.settled, Entry.still, Entry.outline, Meter.counts, Meter.unlatched, hm]

theorem settled_of_outline {e f : Entry} (h : f.outline = e.outline) : f.settled = e.settled := by rw [settled_eq, h, ← settled_eq]

theorem state_of_settled {e f : Entry} (h : f.settled = e.settled) : f.state = e.state := by
  have hs := congrArg Entry.state h
  exact hs

theorem marker_of_settled {e f : Entry} (h : f.settled = e.settled) : f.marker = e.marker := by
  have hs := congrArg Entry.marker h
  exact hs

theorem marker_of_outline {e f : Entry} (h : f.outline = e.outline) : f.marker = e.marker := marker_of_settled (settled_of_outline h)

theorem bk_of_outline {e f : Entry} (h : f.outline = e.outline) : f.bk = e.bk := by
  have hs := congrArg Entry.bk h
  exact hs

theorem startEntry_outline {e f : Entry} (h : f.outline = e.outline) (v : Nat) : (startEntry v f).outline = (startEntry v e).outline := by
  have heq (g : Entry) : (startEntry v g).outline
      = { g.outline with state := .active, meter := g.outline.meter.map (fun m => { m with firstActive := some v }) } := by
    cases hm : g.meter <;> simp [startEntry, Entry.outline, Meter.counts, Meter.unlatched, hm]
  rw [heq, h, ← heq]

/-- An entry that still stands as it was. -/
theorem exists_of_still {o : Option Entry} (h : o.map Entry.still = some e.still) : ∃ f, o = some f ∧ f.still = e.still := by
  cases o with
  | none => simp at h
  | some f => exact ⟨f, rfl, by simpa using h⟩

theorem Quiet.entry (h : Quiet J K s t) (he : s.entry i = some e) : ∃ f, t.entry i = some f ∧ f.still = e.still :=
  exists_of_still (by rw [h.still, he, Option.map_some])

theorem marker_of_still {e f : Entry} (h : f.still = e.still) : f.marker = e.marker := marker_of_settled (settled_of_still h)

theorem attemptsOne_quiet (he : s.entry i = some e) (hmarker : e.marker = none) : attemptsOne s i = attemptsQuiet s i := by
  have hquiet : Quiet (fun _ => True) (fun _ => True) s (attemptsQuiet s i) := attemptsQuiet_quiet trivial (fun _ _ _ _ => trivial)
  obtain ⟨f, hf, hstill⟩ := hquiet.entry he
  rw [attemptsOne_eq he, attemptMarker_none hf (by rw [marker_of_still hstill, hmarker])]

/-- An activation leaves the entry started, but for its flag, its latches and its binding. -/
theorem activate_outline (he : s.entry i = some e) (v : Nat) : ∃ f, (activate s i v).entry i = some f ∧ f.outline = (startEntry v e).outline := by
  have hrest : Works (fun _ => False) (fun _ => True) (setEntry s i (startEntry v e)) (activate s i v) := by
    rw [activate_eq he]
    exact (written_works he trivial v).trans (bindEntry_works _ i)
  exact exists_of_outline (hrest.others i _ id (entry_setEntry_same s i _ (placeAt_lt _ _ _ he)) (by simp [startEntry]))

/-! ### A scan around one entry -/

/-- A scan of the calendar is the visits before an index, its own visit, and the visits after it. -/
theorem scan_around {R : State → State → Prop} {P : State → Prop} (hrefl : ∀ s, R s s) (htrans : ∀ s t u, R s t → R t u → R s u)
    (hkeep : ∀ s t, R s t → P s → P t) {f : State → Nat → State} (hf : ∀ s j, j ≠ i → P s → R s (f s j)) (hown : ∀ s, P s → P (f s i))
    (hi : i < 64) (hp : P s) : ∃ u, R s u ∧ P u ∧ R (f u i) (forEach indexes s f) := by
  obtain ⟨l, m, hl, hm, hscan⟩ := forEach_indexes hi
  have hbefore : R s (forEach l s f) :=
    scan_relates (J := (· ≠ i)) hrefl htrans hkeep hf (fun j hj h => hl (h ▸ hj)) hp
  have hu := hkeep _ _ hbefore hp
  refine ⟨_, hbefore, hu, ?_⟩
  rw [hscan]
  exact scan_relates (J := (· ≠ i)) hrefl htrans hkeep hf (fun j hj h => hm (h ▸ hj)) (hown _ hu)

theorem keysIn_of_back (h : ∀ j, Descends (s.entry j) (t.entry j)) (hk : keysIn J K s) : keysIn J K t := by
  intro j f hj hf
  obtain ⟨e, he, hl⟩ := h j f hf
  rw [hl.key]
  exact hk j e hj he

theorem keysIn_true (s : State) : keysIn J (fun _ => True) s := fun _ _ _ _ => trivial

theorem releases_around (hi : i < 64) (hk : keysIn (· ≠ i) K s) (v : Nat) : ∃ u, Works (· ≠ i) K s u ∧ keysIn (· ≠ i) K u
    ∧ Works (· ≠ i) K (releaseOne v u i) (forEach indexes s (releaseOne v)) :=
  scan_around Works.refl (fun _ _ _ => Works.trans) (fun _ _ => Works.keysIn) (fun _ _ hj hp => releaseOne_works (J := (· ≠ i)) hj hp v)
    (fun u hp => keysIn_of_back (releaseOne_works (J := fun _ => True) (K := fun _ => True) trivial (keysIn_true u) v).back hp) hi hk

theorem activations_around (hi : i < 64) (hk : keysIn (· ≠ i) K s) (v : Nat) : ∃ u, Works (· ≠ i) K s u ∧ keysIn (· ≠ i) K u
    ∧ Works (· ≠ i) K (activateOne v u i) (forEach indexes s (activateOne v)) :=
  scan_around Works.refl (fun _ _ _ => Works.trans) (fun _ _ => Works.keysIn) (fun _ _ hj hp => activateOne_works (J := (· ≠ i)) hj hp v)
    (fun u hp => keysIn_of_back (activateOne_works (J := fun _ => True) (K := fun _ => True) trivial (keysIn_true u) v).back hp) hi hk

theorem attempts_around (hi : i < 64) (hk : keysIn (· ≠ i) K s) : ∃ u, Tends (· ≠ i) K s u ∧ keysIn (· ≠ i) K u
    ∧ Tends (· ≠ i) K (attemptsOne u i) (attemptsAll s) :=
  scan_around Tends.refl (fun _ _ _ => Tends.trans) (fun _ _ => Tends.keysIn) (fun _ _ hj hp => attemptsOne_tends (J := (· ≠ i)) hj hp)
    (fun u hp => keysIn_of_back (attemptsOne_tends (J := fun _ => True) (K := fun _ => True) trivial (keysIn_true u)).to_works.back hp) hi hk

/-! ### One entry through a boundary -/

/-- An entry that no other entry's work can free keeps its outline in that work. -/
theorem Works.outline (h : Works (· ≠ i) K s t) (he : s.entry i = some e) (hstate : e.state ≠ .charged) :
    ∃ f, t.entry i = some f ∧ f.outline = e.outline := exists_of_outline (h.others i e (fun hn => hn rfl) he hstate)

theorem releases_stays (hi : i < 64) (he : s.entry i = some e) (hcharged : e.state ≠ .charged) (hend : ¬ (e.state = .active ∧ e.bk.winEnd = v)) :
    ∃ f, (forEach indexes s (releaseOne v)).entry i = some f ∧ f.outline = e.outline := by
  obtain ⟨u, hu, -, hafter⟩ := releases_around hi (keysIn_true s) v
  obtain ⟨f, hf, hfe⟩ := hu.outline he hcharged
  rw [releaseOne_stays hf (by rwa [state_of_outline hfe, bk_of_outline hfe])] at hafter
  obtain ⟨g, hg, hgf⟩ := hafter.outline hf (by rwa [state_of_outline hfe])
  exact ⟨g, hg, hgf.trans hfe⟩

theorem activations_stays (hi : i < 64) (he : s.entry i = some e) (hcharged : e.state ≠ .charged)
    (hstart : ¬ (e.state = .held ∧ e.bk.winStart = v)) : ∃ f, (forEach indexes s (activateOne v)).entry i = some f ∧ f.outline = e.outline := by
  obtain ⟨u, hu, -, hafter⟩ := activations_around hi (keysIn_true s) v
  obtain ⟨f, hf, hfe⟩ := hu.outline he hcharged
  rw [activateOne_stays hf (by rwa [state_of_outline hfe, bk_of_outline hfe])] at hafter
  obtain ⟨g, hg, hgf⟩ := hafter.outline hf (by rwa [state_of_outline hfe])
  exact ⟨g, hg, hgf.trans hfe⟩

theorem activations_starts (hi : i < 64) (he : s.entry i = some e) (hheld : e.state = .held) (hstart : e.bk.winStart = v) :
    ∃ f, (forEach indexes s (activateOne v)).entry i = some f ∧ f.outline = (startEntry v e).outline := by
  obtain ⟨u, hu, -, hafter⟩ := activations_around hi (keysIn_true s) v
  obtain ⟨f, hf, hfe⟩ := hu.outline he (by simp [hheld])
  rw [activateOne_starts hf (by rwa [state_of_outline hfe]) (by rwa [bk_of_outline hfe])] at hafter
  obtain ⟨g, hg, hgf⟩ := activate_outline hf v
  have hge : g.outline = (startEntry v e).outline := hgf.trans (startEntry_outline hfe v)
  obtain ⟨x, hx, hxg⟩ := hafter.outline hg (by simp [state_of_outline hge, startEntry])
  exact ⟨x, hx, hxg.trans hge⟩

theorem latches_quiet (s : State) : Quiet (fun _ => True) (fun _ => False) s (forEach indexes s restartLatches) :=
  forEach_relates Quiet.refl (fun _ _ _ => Quiet.trans) (fun _ _ _ => restartLatches_quiet trivial) s

/-- The attempts of a boundary, and its last restart of the latches, leave an entry without a marker settled. -/
theorem attempts_settled (hi : i < 64) (he : s.entry i = some e) (hcharged : e.state ≠ .charged) (hmarker : e.marker = none) :
    ∃ f, (forEach indexes (attemptsAll s) restartLatches).entry i = some f ∧ f.settled = e.settled := by
  obtain ⟨u, hu, -, hafter⟩ := attempts_around hi (keysIn_true s)
  obtain ⟨f, hf, hfe⟩ := hu.to_works.outline he hcharged
  rw [attemptsOne_quiet hf (by rwa [marker_of_outline hfe])] at hafter
  have hown : Quiet (fun _ => True) (fun _ => True) u (attemptsQuiet u i) := attemptsQuiet_quiet trivial (keysIn_true u)
  obtain ⟨g, hg, hgf⟩ := hown.entry hf
  have hge : g.settled = e.settled := (settled_of_still hgf).trans (settled_of_outline hfe)
  obtain ⟨x, hx, hxg⟩ := hafter.to_works.outline hg (by rwa [state_of_settled hge])
  obtain ⟨y, hy, hyx⟩ := (latches_quiet (attemptsAll s)).entry hx
  exact ⟨y, hy, (settled_of_still hyx).trans ((settled_of_outline hxg).trans hge)⟩

/-! ### A booking's start -/

/-- A Held entry that starts is Active after the boundary (R109). -/
theorem boundary_starts (hi : i < 64) (he : s.entry i = some e) (hheld : e.state = .held) (hstart : e.bk.winStart = v) (hmarker : e.marker = none) :
    ((boundary v s).entry i).map Entry.state = some .active := by
  obtain ⟨f, hf, hclosed⟩ := entry_secondClosed (t := v) hi he
  obtain rfl := hclosed.idle (by simp [hheld])
  obtain ⟨g, hg, hgf⟩ := releases_stays (v := v) hi hf (by simp [hheld]) (by simp [hheld])
  obtain ⟨x, hx, hxg⟩ := activations_starts (v := v) hi hg ((state_of_outline hgf).trans hheld) (by rw [bk_of_outline hgf, hstart])
  have hxf : x.outline = (startEntry v f).outline := hxg.trans (startEntry_outline hgf v)
  obtain ⟨y, hy, hyx⟩ := attempts_settled hi hx (by simp [state_of_outline hxf, startEntry]) (by rw [marker_of_outline hxf]; exact hmarker)
  change ((forEach indexes (attemptsAll (windowsMoved v (secondClosed v s))) restartLatches).entry i).map Entry.state = _
  rw [windowsMoved, hy, Option.map_some, state_of_settled hyx, state_of_outline hxf]
  rfl

/-! ### A meter through a boundary -/

theorem meterCount_counted (he : s.entry i = some e) (h : e.isCounted v) : meterCount v s i = s := by
  rw [meterCount, he]
  dsimp only
  split
  · rename_i m r hstate hm hr
    rw [if_neg (by simp [h m r hstate hm hr])]
  · rfl

theorem counted_of_outline {f : Entry} (h : f.outline = e.outline) (he : e.isCounted v) : f.isCounted v := by
  intro n r hstate hn hr
  have hmeter : f.meter.map Meter.counts = e.meter.map Meter.counts := congrArg Entry.meter h
  have hpaths : f.paths = e.paths := by
    have hp := congrArg Entry.paths h
    exact hp
  cases hm : e.meter with
  | none => simp [hm, hn] at hmeter
  | some m =>
    rw [hm, hn, Option.map_some, Option.map_some, Option.some.injEq] at hmeter
    calc n.countsAt v = n.counts.countsAt v := rfl
      _ = m.counts.countsAt v := by rw [hmeter]
      _ = false := he m r ((state_of_outline h).symm.trans hstate) hm (hpaths ▸ hr)

/-- A release leaves a metered entry Closing, in the close queue (R112, R165). -/
theorem release_closes (he : s.entry i = some e) (hstate : e.state = .active) (hm : e.meter ≠ none) :
    ∃ f, (release s i).entry i = some f ∧ e.Stands f ∧ f.state = .closing ∧ i ∈ (release s i).bill.closeQueue := by
  have hk (u : State) : keysIn (fun _ => True) (fun _ => True) u := keysIn_true u
  have hends : Tends (fun _ => True) (fun _ => True) s
      (endProtection (clearPlaces (releaseOutput (clearProtCells (clearWorkCells s e) e) e) e.key) i e) :=
    (clearWorkCells_tends trivial).trans ((clearProtCells_tends _ e).trans ((releaseOutput_tends trivial).trans
      ((clearPlaces_tends _ e.key).trans (endProtection_tends trivial e))))
  obtain ⟨g, hg, hgs⟩ := (hends.follow i).stands e he (.inl hstate) hm
  have hgm : g.meter.isSome = true := Option.isSome_iff_ne_none.2 (hgs.metered hm)
  have hrelease : release s i = closeOrFree (endProtection (clearPlaces (releaseOutput (clearProtCells (clearWorkCells s e) e) e) e.key) i e) i := by
    rw [release, he]
  rw [hrelease]
  generalize endProtection (clearPlaces (releaseOutput (clearProtCells (clearWorkCells s e) e) e) e.key) i e = u at hg
  have hclose : closeOrFree u i = (setEntry u i { g with state := .closing, ext := none, marker := none }).withBill
      { u.bill with closeQueue := u.bill.closeQueue ++ [i] } := by simp [closeOrFree, hg, hgm]
  rw [hclose]
  exact ⟨_, entry_setEntry_same u i _ (placeAt_lt _ _ _ hg), ⟨.inr rfl, fun _ => rfl, hgs.paths, hgs.meter⟩, rfl,
    List.mem_append_right _ (List.mem_singleton_self i)⟩

/-- The own visit of a release scan: a drop that ends is Closing after it, its counts as they were. -/
theorem releaseOne_stands (he : s.entry i = some e) (hrun : e.state = .active ∨ e.state = .closing) (hm : e.meter ≠ none) (hc : e.isCounted v) :
    ∃ f, (releaseOne v s i).entry i = some f ∧ e.Stands f
      ∧ (e.state = .active → e.bk.winEnd = v → f.state = .closing ∧ i ∈ (releaseOne v s i).bill.closeQueue) := by
  by_cases hends : e.state = .active ∧ e.bk.winEnd = v
  · obtain ⟨hstate, hend⟩ := hends
    obtain ⟨p, b, hlatched⟩ := restartLatches_entry he
    rw [releaseOne_ends he hstate hend, meterBoundary, meterCount_counted he hc]
    have hsame : ({ e with meter := if e.state = .active then e.meter.map (Meter.restart p b) else e.meter } : Entry).outline = e.outline := by
      cases hm : e.meter <;> simp [Entry.outline, hstate, Meter.restart, Meter.counts, Meter.unlatched, hm]
    generalize ({ e with meter := if e.state = .active then e.meter.map (Meter.restart p b) else e.meter } : Entry) = g at hlatched hsame
    obtain ⟨x, hx, hex⟩ := (Follow.of_outline (o := some e) (p := some g) (by simpa using hsame)).stands e rfl hrun hm
    obtain rfl := Option.some.inj hx
    obtain ⟨f, hf, hgf, hclosing, hmem⟩ := release_closes hlatched ((state_of_outline hsame).trans hstate) (hex.metered hm)
    exact ⟨f, hf, hex.trans hgf, fun _ _ => ⟨hclosing, hmem⟩⟩
  · rw [releaseOne_stays he hends]
    exact ⟨e, he, ⟨hrun, id, rfl, rfl⟩, fun hstate hend => absurd ⟨hstate, hend⟩ hends⟩

/-- Two outlines that agree stand for each other. -/
theorem stands_of_outline {f : Entry} (h : f.outline = e.outline) (hrun : e.state = .active ∨ e.state = .closing) (hm : e.meter ≠ none) : e.Stands f := by
  obtain ⟨x, hx, hs⟩ := (Follow.of_outline (o := some e) (p := some f) (by simpa using h)).stands e rfl hrun hm
  exact Option.some.inj hx ▸ hs

/-- What follows the windows in a boundary activates nothing (R28). -/
theorem boundary_tail (v : Nat) (s : State) :
    Tends (fun _ => True) (fun _ => True) (windowsMoved v (secondClosed v s)) (boundary v s) :=
  (scan_tends (fun _ _ hj hk => attemptsOne_tends hj hk) (fun _ _ => trivial) (keysIn_true _)).trans
    (scan_tends (fun _ _ hj _ => (restartLatches_quiet hj).tends) (fun _ _ => trivial) (keysIn_true _))

/-- A metered drop, Active or Closing, with nothing left to count, through the rest of the boundary: it keeps its records and its counts, and where it
ends it is Closing, in the close queue (R112, R163). -/
theorem boundary_stands (hi : i < 64) (he : (secondClosed v s).entry i = some e) (hrun : e.state = .active ∨ e.state = .closing) (hm : e.meter ≠ none)
    (hc : e.isCounted v) : ∃ f, (boundary v s).entry i = some f ∧ e.Stands f
      ∧ (e.state = .active → e.bk.winEnd = v → f.state = .closing ∧ i ∈ (boundary v s).bill.closeQueue) := by
  have huncharged {g : Entry} (h : g.state = .active ∨ g.state = .closing) : g.state ≠ .charged := by rcases h with h | h <;> simp [h]
  have hunheld {g : Entry} (h : g.state = .active ∨ g.state = .closing) : ¬ (g.state = .held ∧ g.bk.winStart = v) := by
    rcases h with h | h <;> simp [h]
  obtain ⟨u, hu, -, hafter⟩ := releases_around hi (keysIn_true (secondClosed v s)) v
  obtain ⟨a, ha, hae⟩ := hu.outline he (huncharged hrun)
  have hea := stands_of_outline hae hrun hm
  obtain ⟨b, hb, hab, hends⟩ := releaseOne_stands ha hea.state (hea.metered hm) (counted_of_outline hae hc)
  have heb := hea.trans hab
  obtain ⟨c, hc', hcb⟩ := hafter.outline hb (huncharged heb.state)
  have hec := heb.trans (stands_of_outline hcb heb.state (heb.metered hm))
  obtain ⟨d, hd, hdc⟩ := activations_stays (v := v) hi hc' (huncharged hec.state) (hunheld hec.state)
  have hed := hec.trans (stands_of_outline hdc hec.state (hec.metered hm))
  have htail := boundary_tail v s
  obtain ⟨f, hf, hdf⟩ := (htail.follow i).stands d hd hed.state (hed.metered hm)
  refine ⟨f, hf, hed.trans hdf, fun hactive hend => ?_⟩
  obtain ⟨hclosing, hmem⟩ := hends ((state_of_outline hae).trans hactive) (by rw [bk_of_outline hae, hend])
  have hactivations : Works (fun _ => True) (fun _ => True) (forEach indexes (secondClosed v s) (releaseOne v)) (windowsMoved v (secondClosed v s)) :=
    scan_works (fun _ _ hj hk => activateOne_works hj hk v) (fun _ _ => trivial) (keysIn_true _)
  exact ⟨hdf.closing ((state_of_outline hdc).trans ((state_of_outline hcb).trans hclosing)),
    (hafter.closeQueue.trans (hactivations.closeQueue.trans htail.works.closeQueue)).subset hmem⟩

/-- A metered entry that ends is Closing after the boundary, in the close queue (R112, R165). -/
theorem boundary_ends (hi : i < 64) (he : s.entry i = some e) (hstate : e.state = .active) (hend : e.bk.winEnd = v) (hm : e.meter ≠ none) :
    ((boundary v s).entry i).map Entry.state = some .closing ∧ i ∈ (boundary v s).bill.closeQueue := by
  obtain ⟨a, ha, hclosed⟩ := entry_secondClosed (t := v) hi he
  obtain ⟨-, hbk, -, hst⟩ := hclosed.parts
  have hastate : a.state = .active := hst.trans hstate
  have haend : a.bk.winEnd = v := by rw [hbk, hend]
  obtain ⟨f, hf, -, hends⟩ := boundary_stands hi ha (.inl hastate) (hclosed.metered hm) hclosed.counted
  obtain ⟨hclosing, hmem⟩ := hends hastate haend
  exact ⟨by rw [hf, Option.map_some, hclosing], hmem⟩

/-- A count is of A and the six headings: the latches and the binding are none of it. -/
theorem countedAs_of_counts {m n o : Meter} {b : Bool} {r : SecondRec} (h : countedAs m n b r) (ho : o.counts = n.counts) : countedAs m o b r := by
  have ha : o.a = n.a := by
    have hc := congrArg Meter.a ho
    exact hc
  have htally : o.tally = n.tally := by
    have hc := congrArg Meter.tally ho
    exact hc
  unfold countedAs at h ⊢
  rwa [ha, htally]

/-- An Active drop's meter counts the second that ended under the heading of its selected-path record (R159, R161). -/
theorem boundary_counts {m : Meter} {p : Paths} (hi : i < 64) (he : s.entry i = some e) (hstate : e.state = .active) (hp : e.paths = some p)
    (hm : e.meter = some m) (hc : m.countsAt v = true) :
    ∃ f n r, (boundary v s).entry i = some f ∧ f.meter = some n ∧ f.paths.bind Paths.selected = some r
      ∧ countedAs m n (e.bk.cls == .extra) r ∧ (∀ c, p.selOpen = some c → r.cond = c) := by
  obtain ⟨a, ha, hclosed⟩ := entry_secondClosed (t := v) hi he
  obtain ⟨w, o, r, hpaths, hcond, hmeters⟩ := hclosed.records p hstate hp
  obtain ⟨n, hn, -, hcounted⟩ := hmeters m hm
  obtain ⟨-, -, -, hst⟩ := hclosed.parts
  have hastate : a.state = .active := hst.trans hstate
  obtain ⟨f, hf, hs, -⟩ := boundary_stands hi ha (.inl hastate) (by simp [hn]) hclosed.counted
  obtain ⟨x, hx⟩ := Option.ne_none_iff_exists'.1 (hs.metered (by simp [hn]))
  have hmeter := hs.meter
  rw [hx, hn, Option.map_some, Option.map_some, Option.some.injEq] at hmeter
  exact ⟨f, x, r, hf, hx, by rw [hs.paths, hpaths]; rfl, countedAs_of_counts (hcounted hc) hmeter, hcond⟩

end Visits

end Sys2Proof.Machine

namespace Sys2Proof.Machine

/-! ### The latches of the next second -/

section Latches
variable {s t : State} {i v : Nat} {e f : Entry}

/-- Where a drop delivers depends on its roles, its booking and the station (R105). -/
theorem entryOut_of_parts (hself : t.self = s.self) (hroles : f.roles = e.roles) (hbk : f.bk = e.bk) : entryOut t f = entryOut s e := by
  simp [entryOut, isDropEntry, hself, hroles, hbk]

theorem selectorOf_some {p : Nat} (h : entryOut s e = some p) : selectorOf s e = (s.output p).selector := by rw [selectorOf, h]

theorem self_of_cfg (h : t.cfg = s.cfg) : t.self = s.self := by rw [State.self, h, State.self]

theorem restartLatches_active (he : s.entry i = some e) (hstate : e.state = .active) : restartLatches s i
    = setEntry s i { e with meter := e.meter.map (Meter.restart (selectorOf s e == .protection) (e.preempted == some true)) } := by
  rw [restartLatches, he]
  exact if_pos hstate

theorem restartLatches_idle (he : s.entry i = some e) (hstate : e.state ≠ .active) : restartLatches s i = s := by
  rw [restartLatches, he]
  exact if_neg hstate

theorem restartLatches_none (he : s.entry i = none) : restartLatches s i = s := by rw [restartLatches, he]

theorem restartLatches_changesOnly (s : State) (i : Nat) : changesOnly [.entries] s (restartLatches s i) := by
  obtain h | ⟨e, -, -, h⟩ := restartLatches_cases s i <;> rw [h]
  · exact changesOnly_refl _ s
  · exact setEntry_changesOnly _ _ _

/-- The restart of an Active drop's latches puts them at its selector and at its flag (R160). -/
theorem restartLatches_follow {n : Meter} (hf : (restartLatches s i).entry i = some f) (hstate : f.state = .active) (hn : f.meter = some n) :
    latchesFollow s f n := by
  cases he : s.entry i with
  | none =>
    rw [restartLatches_none he, he] at hf
    exact absurd hf (Option.some_ne_none f).symm
  | some e =>
    by_cases hactive : e.state = .active
    · rw [restartLatches_active he hactive, entry_setEntry_same s i _ (placeAt_lt _ _ _ he)] at hf
      obtain rfl := Option.some.inj hf
      obtain ⟨m, hm, rfl⟩ := Option.map_eq_some_iff.1 hn
      refine ⟨fun p hp => ?_, fun b hb => ?_⟩
      · have hout : entryOut s e = some p := hp
        simp [selectorOf_some hout]
      · rw [Meter.restart_preLatch, Option.map_eq_some_iff] at hb
        obtain ⟨-, -, rfl⟩ := hb
        exact beq_iff_eq
    · rw [restartLatches_idle he hactive, he] at hf
      obtain rfl := Option.some.inj hf
      exact absurd hstate hactive

/-- After the boundary an Active drop's latches are at its selector and its flag: the last work of all puts them there (R160, R164). -/
theorem boundary_latches {n : Meter} (hi : i < 64) (hf : (boundary v s).entry i = some f) (hstate : f.state = .active) (hn : f.meter = some n) :
    latchesFollow (boundary v s) f n := by
  rw [boundary_eq] at hf ⊢
  generalize attemptsAll (windowsMoved v (secondClosed v s)) = a at hf ⊢
  obtain ⟨u, -, -, hentry, hafter⟩ := scan_around (s := a) (i := i) (f := restartLatches) (P := fun _ => True)
    (R := fun s t => t.entry i = s.entry i ∧ changesOnly [.entries] s t)
    (fun s => ⟨rfl, changesOnly_refl _ s⟩) (fun _ _ _ h k => ⟨k.1.trans h.1, changesOnly_trans h.2 k.2⟩) (fun _ _ _ _ => trivial)
    (fun s j hj _ => ⟨entry_restartLatches_ne s j i hj, restartLatches_changesOnly s j⟩) (fun _ _ => trivial) hi trivial
  have hchanged := changesOnly_trans (restartLatches_changesOnly u i) hafter
  obtain ⟨hprot, hpre⟩ := restartLatches_follow (hentry.symm.trans hf) hstate hn
  refine ⟨fun p hp => ?_, hpre⟩
  rw [entryOut_of_parts (self_of_cfg (hchanged .cfg (by decide))) rfl rfl] at hp
  rw [output_of_switch (hchanged .switch (by decide))]
  exact hprot p hp

end Latches

end Sys2Proof.Machine

namespace Sys2Proof.Machine

/-! ### The layers and the output of a booking that ends -/

/-- No cell and no output of a booking is its own any more; out is the output it delivers on (R112). -/
structure Disowned (e : Entry) (out : Option Nat) (s : State) : Prop where
  working    : hasWorkSpan e.roles = true → ∀ j, j < e.bk.count → ownedBy (s.cell e.bk.dir (e.bk.first + j)).working e.key = false
  protection : hasProtSpan e.roles = true → ∀ j, j < e.bk.count →
    ownedBy (s.cell (opp e.bk.dir) (e.bk.first + j)).protection e.key = false
  output     : ∀ p, out = some p → outputOwner (s.output p) ≠ some e.key

section Ends
variable {J : Nat → Prop} {K : Key → Prop} {s t u : State} {i v : Nat} {e f : Entry} {out : Option Nat}

theorem Works.disowned (h : Works J K s t) (hk : ¬ K e.key) (hs : Disowned e out s) : Disowned e out t where
  working hw j hj := by
    by_contra hn
    exact absurd (h.working _ _ _ hk (by simpa using hn)) (by simp [hs.working hw j hj])
  protection hw j hj := by
    by_contra hn
    exact absurd (h.protection _ _ _ hk (by simpa using hn)) (by simp [hs.protection hw j hj])
  output p hp hn := hs.output p hp (h.owner p _ hk hn)

/-- What a visit of a scan establishes for its own index and every visit keeps holds after the scan. -/
theorem forEach_establishes {Q : State → Prop} {P : Nat → State → Prop} {f : State → Nat → State} (hQ : ∀ s n, Q s → Q (f s n))
    (hkeep : ∀ s n j, P j s → P j (f s n)) (hset : ∀ s j, Q s → P j (f s j)) {l : List Nat} {j : Nat} (hj : j ∈ l) {s : State} (hs : Q s) :
    P j (forEach l s f) := by
  have hbefore (a : List Nat) (u : State) (hu : Q u) : Q (forEach a u f) := forEach_keeps Q f hQ a u hu
  have hafter (b : List Nat) (u : State) (hu : P j u) : P j (forEach b u f) := forEach_keeps (P j) f (fun u n => hkeep u n j) b u hu
  obtain ⟨a, b, rfl⟩ := List.append_of_mem hj
  have hscan : forEach (a ++ j :: b) s f = forEach b (f (forEach a s f) j) f := List.foldl_append
  rw [hscan]
  exact hafter b _ (hset _ j (hbefore a s hs))

theorem ownedBy_clearWorkLayer (k : Key) (c : Cell) : ownedBy (clearWorkLayer k c).working k = false := by
  unfold clearWorkLayer
  split
  · rfl
  · rename_i h
    simpa using h

theorem ownedBy_clearProtLayer (k : Key) (c : Cell) : ownedBy (clearProtLayer k c).protection k = false := by
  unfold clearProtLayer
  split
  · rfl
  · rename_i h
    simpa using h

/-- A cell with an update that takes a key's layers off, in its place or beyond the map. -/
theorem cell_updCell_clears {f : Cell → Cell} {P : Cell → Prop} (hf : ∀ c, P (f c)) (hreset : P Cell.reset) (s : State) (d : Dir) (x : Nat) :
    P ((updCell s d x f).cell d x) := by
  rw [cell_updCell]
  split
  · exact hf _
  · rename_i h
    have hout : s.switch.cells[cellAt d x]? = none := List.getElem?_eq_none (by simpa using h)
    rw [State.cell, hout]
    exact hreset

theorem cell_updCell_keeps {f : Cell → Cell} {P : Cell → Prop} (hf : ∀ c, P c → P (f c)) (s : State) (d c : Dir) (l x : Nat) (h : P (s.cell c x)) :
    P ((updCell s d l f).cell c x) := by
  rw [cell_updCell]
  split
  · exact hf _ h
  · exact h

theorem clearWorkCells_clears (s : State) (e : Entry) (hw : hasWorkSpan e.roles = true) {j : Nat} (hj : j < e.bk.count) :
    ownedBy ((clearWorkCells s e).cell e.bk.dir (e.bk.first + j)).working e.key = false := by
  rw [clearWorkCells, if_pos hw]
  refine forEach_establishes (Q := fun _ => True) (P := fun j u => ownedBy (u.cell e.bk.dir (e.bk.first + j)).working e.key = false)
    (fun _ _ _ => trivial) (fun u n m h => cell_updCell_keeps (P := fun c => ownedBy c.working e.key = false) (fun c hc => ?_) u _ _ _ _ h)
    (fun u m _ => cell_updCell_clears (P := fun c => ownedBy c.working e.key = false) (ownedBy_clearWorkLayer e.key) rfl u _ _)
    (List.mem_range.2 hj) trivial
  exact ownedBy_clearWorkLayer e.key c

theorem clearProtCells_clears (s : State) (e : Entry) (hw : hasProtSpan e.roles = true) {j : Nat} (hj : j < e.bk.count) :
    ownedBy ((clearProtCells s e).cell (opp e.bk.dir) (e.bk.first + j)).protection e.key = false := by
  rw [clearProtCells, if_pos hw]
  refine forEach_establishes (Q := fun _ => True) (P := fun j u => ownedBy (u.cell (opp e.bk.dir) (e.bk.first + j)).protection e.key = false)
    (fun _ _ _ => trivial) (fun u n m h => cell_updCell_keeps (P := fun c => ownedBy c.protection e.key = false) (fun c hc => ?_) u _ _ _ _ h)
    (fun u m _ => cell_updCell_clears (P := fun c => ownedBy c.protection e.key = false) (ownedBy_clearProtLayer e.key) rfl u _ _)
    (List.mem_range.2 hj) trivial
  exact ownedBy_clearProtLayer e.key c

theorem releaseOutput_clears (s : State) (e : Entry) {p : Nat} (hp : entryOut s e = some p) :
    outputOwner ((releaseOutput s e).output p) ≠ some e.key := by
  rw [releaseOutput, hp]
  dsimp only
  rw [output_updOutput]
  split
  · split
    · simp [outputOwner]
    · rename_i h
      simpa using h
  · rename_i h
    have hout : s.switch.outputs[p]? = none := List.getElem?_eq_none (by simpa using h)
    rw [State.output, hout]
    simp [outputOwner, Output.reset]

/-- A release takes the entry's layers off its cells and its sources off its output (R112, R144, R152). -/
theorem release_disowns (he : s.entry i = some e) : Disowned e (entryOut s e) (release s i) := by
  have hrelease : release s i
      = closeOrFree (endProtection (clearPlaces (releaseOutput (clearProtCells (clearWorkCells s e) e) e) e.key) i e) i := by rw [release, he]
  have houtput : Tends (fun _ => True) (fun _ => True) (releaseOutput (clearProtCells (clearWorkCells s e) e) e) (release s i) := by
    rw [hrelease]
    exact (clearPlaces_tends _ e.key).trans ((endProtection_tends trivial e).trans (closeOrFree_tends trivial))
  have hprot : Tends (fun _ => True) (fun _ => True) (clearProtCells (clearWorkCells s e) e) (release s i) := (releaseOutput_tends trivial).trans houtput
  have hwork : Tends (fun _ => True) (fun _ => True) (clearWorkCells s e) (release s i) := (clearProtCells_tends _ e).trans hprot
  have hcleared : Tends (fun _ => True) (fun _ => True) s (clearProtCells (clearWorkCells s e) e) :=
    (clearWorkCells_tends trivial).trans (clearProtCells_tends _ e)
  have hself := self_of_cfg (hcleared.works.changes .cfg (by decide))
  exact
    { working := fun hw j hj => by
        by_contra hn
        exact absurd (hwork.works.working _ _ _ id (by simpa using hn)) (by simp [clearWorkCells_clears s e hw hj])
      protection := fun hw j hj => by
        by_contra hn
        exact absurd (hprot.works.protection _ _ _ id (by simpa using hn)) (by simp [clearProtCells_clears _ e hw hj])
      output := fun p hp hn =>
        releaseOutput_clears _ e ((entryOut_of_parts hself rfl rfl).trans hp) (houtput.works.owner p _ id hn) }

theorem disowned_of_outline (h : f.outline = e.outline) (hf : Disowned f out s) : Disowned e out s := by
  have hrest (g : Entry) (hg : Disowned g out s) : Disowned g.outline out s := ⟨hg.working, hg.protection, hg.output⟩
  have he := h ▸ hrest f hf
  exact ⟨he.working, he.protection, he.output⟩

theorem activateOne_unheld (h : ∀ f, s.entry i = some f → f.state ≠ .held) : activateOne v s i = s := by
  cases he : s.entry i with
  | none => exact activateOne_none he
  | some f => exact activateOne_stays he (fun hn => h f he hn.1)

theorem keysIn_of_identity (hid : identityLaw s) (he : s.entry i = some e) : keysIn (· ≠ i) (· ≠ e.key) s := by
  obtain ⟨-, hunique⟩ := hid
  exact fun j f hj hf hkey => hj (hunique j i f e hf he hkey)

/-- The own visit of a release scan, at a booking that ends: disowned, and not to start again. -/
theorem releaseOne_disowns (he : s.entry i = some e) (hstate : e.state = .active) (hend : e.bk.winEnd = v) :
    Disowned e (entryOut s e) (releaseOne v s i) := by
  have hcount : Works (fun _ => True) (fun _ => True) s (meterBoundary v s i) := meterBoundary_works trivial v
  obtain ⟨o, ho, -⟩ := meterBoundary_entry (t := v) he
  have hout : entryOut (meterBoundary v s i) { e with meter := o } = entryOut s e :=
    entryOut_of_parts (self_of_cfg (hcount.changes .cfg (by decide))) rfl rfl
  rw [releaseOne_ends he hstate hend, ← hout]
  have hreleased := release_disowns ho
  exact ⟨hreleased.working, hreleased.protection, hreleased.output⟩

/-- After the boundary no cell and no output is owned by a booking that ended at it (R112). -/
theorem boundary_disowns (hid : identityLaw s) (hi : i < 64) (he : s.entry i = some e) (hstate : e.state = .active) (hend : e.bk.winEnd = v) :
    Disowned e (entryOut s e) (boundary v s) := by
  obtain ⟨a, ha, hclosed⟩ := entry_secondClosed (t := v) hi he
  have hfirst : Works (fun _ => True) (fun _ => True) s (secondClosed v s) := secondClosed_works s v
  have hkeys := keysIn_of_back hfirst.back (keysIn_of_identity hid he)
  obtain ⟨u, hu, hku, hafter⟩ := releases_around hi hkeys v
  obtain ⟨hkey, hbk, hroles, hst⟩ := hclosed.parts
  obtain ⟨b, hb, hba⟩ := hu.outline ha (by rw [hst, hstate]; decide)
  have hbstate : b.state = .active := by rw [state_of_outline hba, hst, hstate]
  have hout : entryOut u b = entryOut s e := by
    have hcfg : u.cfg = s.cfg := (hu.changes .cfg (by decide)).trans (hfirst.changes .cfg (by decide))
    have hbr : b.roles = a.roles := by
      have h := congrArg Entry.roles hba
      exact h
    exact entryOut_of_parts (self_of_cfg hcfg) (hbr.trans hroles) ((bk_of_outline hba).trans hbk)
  have hown : Disowned a (entryOut s e) (releaseOne v u i) := by
    have h := releaseOne_disowns (v := v) hb hbstate (by rw [bk_of_outline hba, hbk, hend])
    rw [hout] at h
    exact disowned_of_outline hba h
  have hownWorks : Works (fun _ => True) (fun _ => True) u (releaseOne v u i) := releaseOne_works trivial (keysIn_true u) v
  have hkr : keysIn (· ≠ i) (· ≠ e.key) (forEach indexes (secondClosed v s) (releaseOne v)) := hafter.keysIn (keysIn_of_back hownWorks.back hku)
  obtain ⟨w, hw, -, hlater⟩ := activations_around hi hkr v
  have hidle : activateOne v w i = w := by
    refine activateOne_unheld fun f hf hheld => ?_
    obtain ⟨g, hg, hgf⟩ := ((hownWorks.back i).trans ((hafter.back i).trans (hw.back i))) f hf
    obtain rfl := Option.some.inj (hb.symm.trans hg)
    exact absurd (hbstate.symm.trans (hgf.held hheld)) (by decide)
  rw [hidle] at hlater
  have hkept : ¬ (a.key ≠ e.key) := not_not.2 hkey
  have hall := (boundary_tail v s).works.disowned id (hlater.disowned hkept (hw.disowned hkept (hafter.disowned hkept hown)))
  exact ⟨by simpa [hkey, hbk, hroles] using hall.working, by simpa [hkey, hbk, hroles] using hall.protection, by simpa [hkey] using hall.output⟩

end Ends

end Sys2Proof.Machine

namespace Sys2Proof.Machine

/-! ### What the stages of an activation leave alone -/

section Stages
variable {s t : State} {i v : Nat} {e : Entry}

theorem judgePreempted_changesOnly (k : Key) (s : State) (i : Nat) : changesOnly [.entries, .site] s (judgePreempted k s i) := by
  have hjudged (b : Bool) (c : NoticeBody) : changesOnly [.entries, .site] s (raiseNotice (writePreempted s i b) (sourceEntry i) c) :=
    changesOnly_trans (changesOnly_mono (updEntry_changesOnly s i _) (by decide)) (changesOnly_mono (raiseNotice_changesOnly _ _ _) (by decide))
  unfold judgePreempted
  split
  · exact changesOnly_refl _ s
  · split
    · split <;> split
      · exact changesOnly_refl _ s
      · exact hjudged _ _
      · exact hjudged _ _
      · exact changesOnly_refl _ s
    · exact changesOnly_refl _ s

theorem judgeAllPreempted_changesOnly (s : State) (k : Key) : changesOnly [.entries, .site] s (judgeAllPreempted s k) :=
  forEach_changesOnly (judgePreempted_changesOnly k) _ s

theorem bindTo_changesOnly (s : State) (i : Nat) (e : Entry) (n : Nat) (x : MatchRecord) : changesOnly [.entries, .bill] s (bindTo s i e n x) :=
  changesOnly_trans (changesOnly_mono (withBill_changesOnly s _) (by decide)) (changesOnly_mono (updEntry_changesOnly _ _ _) (by decide))

theorem leaveUnbound_changesOnly (s : State) (i : Nat) (e : Entry) (c : UnboundCause) : changesOnly [.entries, .site] s (leaveUnbound s i e c) := by
  have hset : changesOnly [.entries, .site] s (setBinding s i (.unbound c)) := changesOnly_mono (updEntry_changesOnly s i _) (by decide)
  have htold (b : Prop) [Decidable b] (body : NoticeBody) : changesOnly [.entries, .site] s
      (if b then setBinding s i (.unbound c) else raiseNotice (setBinding s i (.unbound c)) (sourceEntry i) body) := by
    split
    · exact hset
    · exact changesOnly_trans hset (changesOnly_mono (raiseNotice_changesOnly _ _ _) (by decide))
  unfold leaveUnbound
  cases e.meter with
  | none => exact htold _ _
  | some m => exact htold _ _

theorem placeIn_changesOnly (s : State) (i : Nat) (e : Entry) (n : Nat) (x : MatchRecord) :
    changesOnly [.entries, .bridged, .bill, .site] s (placeIn s i e n x) := by
  unfold placeIn
  split
  · exact changesOnly_trans (changesOnly_mono (setRecord_apart s n _).changes (by decide))
      (changesOnly_trans (changesOnly_mono (matchStage_apart _ n _ false).changes (by decide)) (changesOnly_mono (freeEntry_changesOnly _ i) (by decide)))
  · exact changesOnly_mono (bindTo_changesOnly s i e n x) (by decide)

theorem placeOne_changesOnly (s : State) (i : Nat) : changesOnly [.entries, .bridged, .bill, .site] s (placeOne s i) := by
  unfold placeOne
  split
  · exact changesOnly_refl _ s
  · split
    · split
      · exact placeIn_changesOnly _ _ _ _ _
      · exact changesOnly_trans (changesOnly_mono (withBill_changesOnly s _) (by decide)) (placeIn_changesOnly _ _ _ _ _)
      · exact changesOnly_mono (leaveUnbound_changesOnly _ _ _ _) (by decide)
    · exact changesOnly_refl _ s

theorem placementScan_changesOnly (s : State) : changesOnly [.entries, .bridged, .bill, .site] s (placementScan s) :=
  forEach_changesOnly placeOne_changesOnly _ s

theorem bindEntry_changesOnly (s : State) (i : Nat) : changesOnly [.entries, .bridged, .bill, .site] s (bindEntry s i) := by
  have hbind (u : State) (e : Entry) (n : Nat) (x : MatchRecord) : changesOnly [.entries, .bridged, .bill, .site] u (bindTo u i e n x) :=
    changesOnly_mono (bindTo_changesOnly u i e n x) (by decide)
  unfold bindEntry
  split
  · exact changesOnly_refl _ s
  · split
    · exact changesOnly_refl _ s
    · split
      · exact hbind _ _ _ _
      · exact changesOnly_trans (changesOnly_mono (withBill_changesOnly s _) (by decide)) (changesOnly_trans (hbind _ _ _ _) (placementScan_changesOnly _))
      · exact changesOnly_mono (leaveUnbound_changesOnly _ _ _ _) (by decide)

/-! ### The working layers and the outputs -/

/-- The working layers and the outputs are as they were. -/
structure Feeds (s t : State) : Prop where
  working : ∀ d x, (t.cell d x).working = (s.cell d x).working
  outputs : t.switch.outputs = s.switch.outputs

theorem Feeds.of_switch (h : t.switch = s.switch) : Feeds s t :=
  ⟨fun d x => by rw [cell_of_cells (congrArg Switch.cells h)], congrArg Switch.outputs h⟩

theorem Feeds.refl (s : State) : Feeds s s := .of_switch rfl

theorem Feeds.trans {u : State} (h : Feeds s t) (k : Feeds t u) : Feeds s u :=
  ⟨fun d x => (k.working d x).trans (h.working d x), k.outputs.trans h.outputs⟩

theorem Feeds.output (h : Feeds s t) (p : Nat) : t.output p = s.output p := by simp [State.output, h.outputs]

theorem writeProtCells_feeds (s : State) (i : Nat) (e : Entry) : Feeds s (writeProtCells s i e) := by
  unfold writeProtCells
  split
  · refine forEach_relates (R := Feeds) Feeds.refl (fun _ _ _ => Feeds.trans) ?_ s
    refine fun u j _ => ⟨fun d x => ?_, rfl⟩
    rw [cell_updCell]
    split <;> rfl
  · exact .refl s

theorem handToProtection_feeds (s : State) (i v : Nat) : Feeds s (handToProtection s i v) := by
  unfold handToProtection
  split
  · exact .refl s
  · rename_i e _
    split
    · exact (writeProtCells_feeds s i e).trans ((Feeds.of_switch (judgeAllPreempted_changesOnly _ e.key .switch (by decide))).trans
        (.of_switch (watchProtection_changesOnly _ i e v .switch (by decide))))
    · exact .refl s

/-- Once an activation has written its cells and its output, the working layers and the outputs stand. -/
theorem activate_feeds (he : s.entry i = some e) (v : Nat) :
    Feeds (writeOutput (writeWorkCells (setEntry s i (startEntry v e)) i e) i e) (activate s i v) := by
  rw [activate_eq he]
  exact (Feeds.of_switch (writeWorkPlaces_changesOnly _ i e v .switch (by decide))).trans
    ((Feeds.of_switch (judgePreempted_changesOnly e.key _ i .switch (by decide))).trans
      ((handToProtection_feeds _ i v).trans (.of_switch (bindEntry_changesOnly _ i .switch (by decide)))))

theorem cellAt_inj {d : Dir} {x y : Nat} (h : cellAt d x = cellAt d y) : x = y := by
  cases d with
  | east => exact h
  | west => exact Nat.add_left_cancel h

/-- Cells of different lanes within the map, or of different directions, are different. -/
theorem cellAt_ne {d c : Dir} {x y : Nat} (hx : x < 24) (hy : y < 24) (h : d ≠ c ∨ x ≠ y) : cellAt d x ≠ cellAt c y := by
  cases d <;> cases c <;> simp [cellAt, Config.laneCount] at h ⊢ <;> omega

theorem cellAt_lt {d : Dir} {x : Nat} (hx : x < 24) : cellAt d x < 48 := by
  cases d <;> simp [cellAt, Config.laneCount] <;> omega

theorem cell_updCell_ne (s : State) {d c : Dir} {l x : Nat} (h : cellAt d l ≠ cellAt c x) (f : Cell → Cell) :
    (updCell s d l f).cell c x = s.cell c x := by
  rw [cell_updCell, if_neg (fun hn => h hn.1)]

/-- Writing a booking's working cells leaves every cell outside its lanes alone. -/
theorem writeWorkCells_cell_ne (s : State) (i : Nat) (e : Entry) {d : Dir} {x : Nat}
    (h : ∀ j, j < e.bk.count → cellAt e.bk.dir (e.bk.first + j) ≠ cellAt d x) : (writeWorkCells s i e).cell d x = s.cell d x := by
  unfold writeWorkCells
  split
  · exact forEach_relates (R := fun s t => t.cell d x = s.cell d x) (fun _ => rfl) (fun _ _ _ h k => k.trans h)
      (fun u j hj => cell_updCell_ne u (h j (List.mem_range.1 hj)) _) s
  · rfl

theorem output_writeWorkCells (s : State) (i : Nat) (e : Entry) : (writeWorkCells s i e).switch.outputs = s.switch.outputs := by
  unfold writeWorkCells
  split
  · refine forEach_relates (R := fun s t => t.switch.outputs = s.switch.outputs) (fun _ => rfl) (fun _ _ _ h k => k.trans h) ?_ s
    exact fun _ _ _ => rfl
  · rfl

theorem writeOutput_cells (s : State) (i : Nat) (e : Entry) : (writeOutput s i e).switch.cells = s.switch.cells := by
  unfold writeOutput
  split <;> rfl

theorem writeOutput_output_ne (s : State) (i : Nat) (e : Entry) {p : Nat} (h : entryOut s e ≠ some p) :
    (writeOutput s i e).output p = s.output p := by
  unfold writeOutput
  split
  · rfl
  · rename_i q hq
    rw [output_updOutput, if_neg]
    rintro ⟨rfl, -⟩
    exact h hq

end Stages

end Sys2Proof.Machine

namespace Sys2Proof.Machine

/-! ### The layers and the output of a booking that starts -/

/-- The working layer that an entry writes at a bonded position (R109). -/
def workLayerOf (e : Entry) (i j : Nat) : Layer := { src := layerSource (e.roles.contains .origin) e.bk.input j, owner := e.key, index := i }

/-- An entry's working layers stand on its cells and its sources on its output; out is the port it delivers on (R109). -/
structure Installed (e : Entry) (i : Nat) (out : Option Nat) (s : State) : Prop where
  working : hasWorkSpan e.roles = true → ∀ j, j < e.bk.count → (s.cell e.bk.dir (e.bk.first + j)).working = some (workLayerOf e i j)
  output  : isDropEntry e = true → ∀ p, out = some p → p < 8 → (s.output p).working = some (outSourceOf i e e.bk.dir)
    ∧ (s.output p).protection = (if hasProtDrop e.roles then some (outSourceOf i e (opp e.bk.dir)) else none)

/-- The working layers on an entry's cells and the output it delivers on are as they were. -/
structure Spared (e : Entry) (out : Option Nat) (s t : State) : Prop where
  working : ∀ j, j < e.bk.count → (t.cell e.bk.dir (e.bk.first + j)).working = (s.cell e.bk.dir (e.bk.first + j)).working
  output  : ∀ p, out = some p → t.output p = s.output p

section Starts
variable {J : Nat → Prop} {K : Key → Prop} {s t u : State} {i v : Nat} {e f : Entry} {out : Option Nat}

theorem Spared.refl (s : State) : Spared e out s s := ⟨fun _ _ => rfl, fun _ _ => rfl⟩

theorem Spared.trans (h : Spared e out s t) (k : Spared e out t u) : Spared e out s u :=
  ⟨fun j hj => (k.working j hj).trans (h.working j hj), fun p hp => (k.output p hp).trans (h.output p hp)⟩

theorem Spared.installed (h : Spared e out s t) (hs : Installed e i out s) : Installed e i out t where
  working hw j hj := (h.working j hj).trans (hs.working hw j hj)
  output hd p hp hlt := by
    rw [h.output p hp]
    exact hs.output hd p hp hlt

theorem Quiet.installed (h : Quiet J K s t) (hs : Installed e i out s) : Installed e i out t where
  working hw j hj := by rw [cell_of_cells h.cells, hs.working hw j hj]
  output hd p hp hlt := by
    obtain ⟨hw, ho⟩ := h.sources p
    rw [hw, ho]
    exact hs.output hd p hp hlt

theorem Tends.installed (h : Tends J K s t) (hk : ¬ K e.key) (hs : Installed e i out s) : Installed e i out t where
  working hw j hj := h.layers _ _ _ hk (hs.working hw j hj)
  output hd p hp hlt := by
    obtain ⟨hw, ho⟩ := hs.output hd p hp hlt
    have howner : outputOwner (s.output p) = some e.key := by
      rw [outputOwner, hw]
      rfl
    rw [h.owned p e.key hk howner]
    exact ⟨hw, ho⟩

theorem installed_of_outline (h : f.outline = e.outline) (hf : Installed f i out s) : Installed e i out s := by
  have hrest (g : Entry) (hg : Installed g i out s) : Installed g.outline i out s := ⟨hg.working, hg.output⟩
  have he := h ▸ hrest f hf
  exact ⟨he.working, he.output⟩

/-- Writing a booking's working cells puts its layers there (R104, R109). -/
theorem writeWorkCells_writes (hlen : s.switch.cells.length = 48) (hl : e.bk.first + e.bk.count ≤ 24) (i : Nat) (hw : hasWorkSpan e.roles = true)
    {j : Nat} (hj : j < e.bk.count) : ((writeWorkCells s i e).cell e.bk.dir (e.bk.first + j)).working = some (workLayerOf e i j) := by
  rw [writeWorkCells, if_pos hw]
  refine (forEach_establishes (Q := fun u => u.switch.cells.length = 48)
    (P := fun j u => j < e.bk.count → (u.cell e.bk.dir (e.bk.first + j)).working = some (workLayerOf e i j))
    (fun u n hu => ?_) (fun u n m hm hlt => ?_) (fun u m hu hlt => ?_) (List.mem_range.2 hj) hlen) hj
  · exact (modifyAt_length ..).trans hu
  · rw [cell_updCell]
    split
    · rename_i h
      obtain rfl : n = m := Nat.add_left_cancel (cellAt_inj h.1)
      rfl
    · exact hm hlt
  · rw [cell_updCell, if_pos ⟨rfl, by rw [hu]; exact cellAt_lt (by omega)⟩]
    rfl

theorem entryOut_drop (hd : isDropEntry e = true) : entryOut s e = outPort e.bk s.self := by simp [entryOut, hd]

theorem writeOutput_writes (hd : isDropEntry e = true) {p : Nat} (hp : outPort e.bk s.self = some p) (hlt : p < s.switch.outputs.length) (i : Nat) :
    ((writeOutput s i e).output p).working = some (outSourceOf i e e.bk.dir)
      ∧ ((writeOutput s i e).output p).protection = (if hasProtDrop e.roles then some (outSourceOf i e (opp e.bk.dir)) else none) := by
  have hout : entryOut s e = some p := (entryOut_drop hd).trans hp
  rw [writeOutput, hout]
  dsimp only
  rw [output_updOutput, if_pos ⟨rfl, hlt⟩]
  simp [hd]

/-- An activation installs the entry (R105, R109). -/
theorem activate_installs (he : s.entry i = some e) (hcells : s.switch.cells.length = 48) (houtputs : s.switch.outputs.length = 8)
    (hl : e.bk.first + e.bk.count ≤ 24) (v : Nat) : Installed e i (outPort e.bk s.self) (activate s i v) := by
  have hfeeds := activate_feeds he v
  refine ⟨fun hw j hj => ?_, fun hd p hp hlt => ?_⟩
  · rw [hfeeds.working, cell_of_cells (writeOutput_cells ..)]
    exact writeWorkCells_writes (by rwa [setEntry_switch]) hl i hw hj
  · rw [hfeeds.output]
    have hbefore : Works (fun _ => True) (fun _ => True) s (writeWorkCells (setEntry s i (startEntry v e)) i e) :=
      (setEntry_works trivial he (startEntry_later e v)).trans (writeWorkCells_works trivial)
    have hself := self_of_cfg (hbefore.changes .cfg (by decide))
    exact writeOutput_writes hd (by rw [hself, hp]) (by rw [hbefore.outputs, houtputs]; exact hlt) i

/-- Another entry's activation spares the cells outside its lanes and the outputs but its own. -/
theorem activate_spares (hf : s.entry i = some f) (v : Nat) (out : Option Nat)
    (hcells : ∀ n j, n < f.bk.count → j < e.bk.count → cellAt f.bk.dir (f.bk.first + n) ≠ cellAt e.bk.dir (e.bk.first + j))
    (hout : ∀ p, out = some p → entryOut s f ≠ some p) : Spared e out s (activate s i v) := by
  have hfeeds := activate_feeds hf v
  refine ⟨fun j hj => ?_, fun p hp => ?_⟩
  · rw [hfeeds.working, cell_of_cells (writeOutput_cells ..), writeWorkCells_cell_ne _ i f (fun n hn => hcells n j hn hj)]
    rfl
  · have hbefore : Works (fun _ => True) (fun _ => True) s (writeWorkCells (setEntry s i (startEntry v f)) i f) :=
      (setEntry_works trivial hf (startEntry_later f v)).trans (writeWorkCells_works trivial)
    have hself := self_of_cfg (hbefore.changes .cfg (by decide))
    rw [hfeeds.output, writeOutput_output_ne _ i f (by rw [entryOut_of_parts hself rfl rfl]; exact hout p hp)]
    simp [State.output, output_writeWorkCells]

/-- Where and when a booking is used, but for its end. -/
theorem Entry.Later.place (h : e.Later f) : f.bk.dir = e.bk.dir ∧ f.bk.first = e.bk.first ∧ f.bk.count = e.bk.count
    ∧ f.bk.winStart = e.bk.winStart ∧ ∀ n, outPort f.bk n = outPort e.bk n := by
  have hdir := congrArg Booking.dir h.frame
  have hfirst := congrArg Booking.first h.frame
  have hcount := congrArg Booking.count h.frame
  have hstart := congrArg Booking.winStart h.frame
  have hout (n : Nat) := congrArg (fun b => outPort b n) h.frame
  exact ⟨hdir, hfirst, hcount, hstart, hout⟩

/-- The start of another booking, on other lanes or in the other direction and on another output, stays apart in any work of a boundary. -/
theorem startsApart_of_works (h : Works J K s t) (hs : startsApart s i e) : startsApart t i e := by
  intro j g hj hg hheld hstart
  obtain ⟨f, hf, hl⟩ := h.back j g hg
  obtain ⟨hdir, hfirst, hcount, hwin, hout⟩ := hl.place
  rw [hdir, hfirst, hcount, hout, self_of_cfg (h.changes .cfg (by decide))]
  exact hs j f hj hf (hl.held hheld) (hwin.symm.trans hstart)

/-- The own visit of another entry in the activation scan spares an entry that starts apart from it. -/
theorem activateOne_spares (hs : startsApart s i e) (hl : e.bk.first + e.bk.count ≤ 24) {j : Nat} (hj : j ≠ i) :
    Spared e (outPort e.bk s.self) s (activateOne e.bk.winStart s j) := by
  cases hf : s.entry j with
  | none =>
    rw [activateOne_none hf]
    exact .refl s
  | some f =>
    by_cases hstarts : f.state = .held ∧ f.bk.winStart = e.bk.winStart
    · obtain ⟨hheld, hstart⟩ := hstarts
      obtain ⟨hbound, hlanes, hout⟩ := hs j f hj hf hheld hstart
      rw [activateOne_starts hf hheld hstart]
      refine activate_spares hf _ _ (fun n m hn hm => cellAt_ne ?_ (by omega) ?_) (fun p hp hq => ?_)
      · have hlaneCount : f.bk.first + f.bk.count ≤ 24 := hbound
        omega
      · rcases hlanes with h | h | h
        · exact .inl h
        · exact .inr (by omega)
        · exact .inr (by omega)
      · have hport : outPort f.bk s.self = some p := by
          unfold entryOut at hq
          split at hq
          · exact hq
          · exact absurd hq (Option.some_ne_none p).symm
        rcases hout with h | h
        · simp [hport] at h
        · exact h (hport.trans hp.symm)
    · rw [activateOne_stays hf hstarts]
      exact .refl s

/-- An entry that starts apart from the others is installed by the activations of its second. -/
theorem activations_install (hs : startsApart s i e) (hi : i < 64) (he : s.entry i = some f) (hf : f.outline = e.outline) (hheld : e.state = .held)
    (hcells : s.switch.cells.length = 48) (houtputs : s.switch.outputs.length = 8) (hl : e.bk.first + e.bk.count ≤ 24) :
    Installed e i (outPort e.bk s.self) (forEach indexes s (activateOne e.bk.winStart)) := by
  have hself {u w : State} (h : Works (· ≠ i) (fun _ => True) u w) : w.self = u.self := self_of_cfg (h.changes .cfg (by decide))
  obtain ⟨u, ⟨hu, -⟩, -, -, hspared⟩ := scan_around (i := i) (s := s) (f := activateOne e.bk.winStart)
    (R := fun u w => Works (· ≠ i) (fun _ => True) u w ∧ Spared e (outPort e.bk s.self) u w)
    (P := fun u => u.self = s.self ∧ startsApart u i e)
    (fun u => ⟨.refl u, .refl u⟩) (fun _ _ _ h k => ⟨h.1.trans k.1, h.2.trans k.2⟩)
    (fun _ _ h hp => ⟨(hself h.1).trans hp.1, startsApart_of_works h.1 hp.2⟩)
    (fun u j hj hp => ⟨activateOne_works (J := (· ≠ i)) hj (keysIn_true u) _, hp.1 ▸ activateOne_spares hp.2 hl hj⟩)
    (fun u hp =>
      have hown : Works (fun _ => True) (fun _ => True) u (activateOne e.bk.winStart u i) := activateOne_works trivial (keysIn_true u) _
      ⟨(self_of_cfg (hown.changes .cfg (by decide))).trans hp.1, startsApart_of_works hown hp.2⟩)
    hi ⟨rfl, hs⟩
  obtain ⟨g, hg, hgf⟩ := hu.outline he (by simp [state_of_outline hf, hheld])
  have hge : g.outline = e.outline := hgf.trans hf
  have hbk := bk_of_outline hge
  refine hspared.installed (installed_of_outline hge ?_)
  rw [activateOne_starts hg ((state_of_outline hge).trans hheld) (by rw [hbk]), ← hself hu, ← hbk]
  exact activate_installs hg (hu.cells.trans hcells) (hu.outputs.trans houtputs) (by rwa [hbk]) _

/-- A booking that starts at the boundary has its layers on its cells and its sources on its output after it (R105, R109). -/
theorem boundary_installs (hid : identityLaw s) (hcells : s.switch.cells.length = 48) (houtputs : s.switch.outputs.length = 8) (hi : i < 64)
    (he : s.entry i = some e) (hheld : e.state = .held) (hmarker : e.marker = none) (hl : e.bk.first + e.bk.count ≤ 24) (hs : startsApart s i e) :
    Installed e i (outPort e.bk s.self) (boundary e.bk.winStart s) := by
  obtain ⟨a, ha, hclosed⟩ := entry_secondClosed (t := e.bk.winStart) hi he
  obtain rfl := hclosed.idle (by simp [hheld])
  have hreleases : Works (fun _ => True) (fun _ => True) s (forEach indexes (secondClosed a.bk.winStart s) (releaseOne a.bk.winStart)) :=
    (secondClosed_works s _).trans (scan_works (fun _ _ hj hk => releaseOne_works hj hk _) (fun _ _ => trivial) (keysIn_true _))
  obtain ⟨b, hb, hba⟩ := releases_stays (v := a.bk.winStart) hi ha (by simp [hheld]) (by simp [hheld])
  have hinstalled := activations_install (startsApart_of_works hreleases hs) hi hb hba hheld (hreleases.cells.trans hcells)
    (hreleases.outputs.trans houtputs) hl
  rw [self_of_cfg (hreleases.changes .cfg (by decide))] at hinstalled
  obtain ⟨c, hc, hcb⟩ := activations_starts (v := a.bk.winStart) hi hb ((state_of_outline hba).trans hheld) (by rw [bk_of_outline hba])
  have hca : c.outline = (startEntry a.bk.winStart a).outline := hcb.trans (startEntry_outline hba _)
  have hmoved : Works (fun _ => True) (fun _ => True) s (windowsMoved a.bk.winStart (secondClosed a.bk.winStart s)) :=
    hreleases.trans (scan_works (fun _ _ hj hk => activateOne_works hj hk _) (fun _ _ => trivial) (keysIn_true _))
  obtain ⟨u, hu, -, hafter⟩ := attempts_around hi (keysIn_of_back hmoved.back (keysIn_of_identity hid he))
  obtain ⟨d, hd, hdc⟩ := hu.to_works.outline hc (by simp [state_of_outline hca, startEntry])
  rw [attemptsOne_quiet hd (by rw [marker_of_outline (hdc.trans hca)]; exact hmarker)] at hafter
  have hown : Quiet (fun _ => True) (fun _ => True) u (attemptsQuiet u i) := attemptsQuiet_quiet trivial (keysIn_true u)
  have hkept : ¬ (a.key ≠ a.key) := not_not.2 rfl
  exact (latches_quiet _).installed (hafter.installed hkept (hown.installed (hu.installed hkept hinstalled)))

end Starts

end Sys2Proof.Machine

namespace Sys2Proof.Machine

/-! ### A second without an end -/

/-- No WITHDRAW waits to be sent. -/
def noMarkers (s : State) : Prop := ∀ i e, s.entry i = some e → e.marker = none

/-- No Active entry of the calendar has a second as its end. -/
def noEnds (v : Nat) (s : State) : Prop := ∀ i e, i < 64 → s.entry i = some e → e.state = .active → e.bk.winEnd ≠ v

section Overlay
variable {J : Nat → Prop} {K : Key → Prop} {s t u : State} {i v : Nat}

theorem noMarkers_of_works (h : Works J K s t) (hs : noMarkers s) : noMarkers t := by
  intro i f hf
  obtain ⟨e, he, hl⟩ := h.back i f hf
  exact hl.marker (hs i e he)

/-- The releases of a second at which nothing ends do nothing. -/
theorem releases_none (h : noEnds v s) : forEach indexes s (releaseOne v) = s := by
  have hvisit (u : State) (i : Nat) (hi : i < 64) (hu : noEnds v u) : releaseOne v u i = u := by
    cases he : u.entry i with
    | none => exact releaseOne_none he
    | some e => exact releaseOne_stays he (fun hn => hu i e hi he hn.1 hn.2)
  exact scan_relates (R := fun s t => t = s) (J := (· < 64)) (fun _ => rfl) (fun _ _ _ h k => k.trans h) (fun _ _ ht hp => ht ▸ hp) hvisit
    (fun _ hi => List.mem_range.1 hi) h

/-- With no WITHDRAW waiting the attempts of a boundary are quiet. -/
theorem attemptsOne_quietly (h : noMarkers s) (hi : J i) (hk : keysIn J K s) : Quiet J K s (attemptsOne s i) := by
  cases he : s.entry i with
  | none =>
    rw [attemptsOne, he]
    exact .refl s
  | some e =>
    rw [attemptsOne_quiet he (h i e he)]
    exact attemptsQuiet_quiet hi hk

theorem attemptsAll_quiet (h : noMarkers s) : Quiet (fun _ => True) (fun _ => True) s (attemptsAll s) :=
  scan_relates (J := fun _ => True) Quiet.refl (fun _ _ _ => Quiet.trans) (fun _ _ hq => noMarkers_of_works hq.tends.to_works)
    (fun u _ hj hu => attemptsOne_quietly hu hj (keysIn_true u)) (fun _ _ => trivial) h

theorem noEnds_secondClosed (h : noEnds v s) : noEnds v (secondClosed v s) := by
  intro i f hi hf hstate
  have hworks : Works (fun _ => True) (fun _ => True) s (secondClosed v s) := secondClosed_works s v
  obtain ⟨e, he, -⟩ := hworks.back i f hf
  obtain ⟨g, hg, hclosed⟩ := entry_secondClosed (t := v) hi he
  obtain rfl := Option.some.inj (hf.symm.trans hg)
  obtain ⟨-, hbk, -, hst⟩ := hclosed.parts
  rw [hbk]
  exact h i e hi he (hst.symm.trans hstate)

/-! ### The overlay of a lane -/

/-- A lane monitor but for its places and its frames: the check-failed count, the runs and the overlay (R124). -/
def LaneMon.runs (m : LaneMon) : LaneMon :=
  { m with working := none, protection := none, displaced := none, last := none, framed := false }

theorem overlayTaken_of_runs {threshold : Nat} {m n o : LaneMon} (h : overlayTaken threshold m n) (ho : o.runs = n.runs) :
    overlayTaken threshold m o := by
  have hrest (x : LaneMon) : overlayTaken threshold m x ↔ overlayTaken threshold m x.runs := Iff.rfl
  rw [hrest, ho, ← hrest]
  exact h

/-- The check-failed counts, the runs and the overlays of all lanes are as they were. -/
def runsKept (s t : State) : Prop := ∀ port lane, (t.mon port lane).runs = (s.mon port lane).runs

theorem runsKept_refl (s : State) : runsKept s s := fun _ _ => rfl

theorem runsKept_trans (h : runsKept s t) (k : runsKept t u) : runsKept s u := fun port lane => (k port lane).trans (h port lane)

theorem mon_of_lanes (h : t.mons.lanes = s.mons.lanes) (port : Dir) (lane : Nat) : t.mon port lane = s.mon port lane := by rw [State.mon, h, State.mon]

theorem runsKept_of_mons (h : t.mons = s.mons) : runsKept s t := fun port lane => by rw [mon_of_lanes (congrArg Monitors.lanes h)]

theorem mon_updMon (s : State) (port p : Dir) (lane x : Nat) (f : LaneMon → LaneMon) : (updMon s port lane f).mon p x
    = if monAt port lane = monAt p x ∧ monAt p x < s.mons.lanes.length then f (s.mon p x) else s.mon p x := modifyAt_getD _ _ _ _ _

theorem updMon_runsKept {f : LaneMon → LaneMon} (hf : ∀ m, (f m).runs = m.runs) (s : State) (port : Dir) (lane : Nat) :
    runsKept s (updMon s port lane f) := by
  intro p x
  rw [mon_updMon]
  split
  · exact hf _
  · rfl

theorem writeWorkPlaces_runsKept (s : State) (i : Nat) (e : Entry) (v : Nat) : runsKept s (writeWorkPlaces s i e v) := by
  have hwrite (u : State) (port : Dir) (lane : Nat) : runsKept u (writeWorkPlace u port lane e.key i v) := by
    unfold writeWorkPlace
    dsimp only
    split
    · refine updMon_runsKept ?_ u port lane
      exact fun _ => rfl
    · refine runsKept_trans (updMon_runsKept ?_ u port lane) (runsKept_of_mons (raiseNotice_mons ..))
      exact fun _ => rfl
  unfold writeWorkPlaces
  split
  · exact forEach_relates runsKept_refl (fun _ _ _ => runsKept_trans) (fun u lane _ => hwrite u _ lane) s
  · exact runsKept_refl s

theorem openProtection_runsKept (s : State) (i : Nat) (e : Entry) (v : Nat) : runsKept s (openProtection s i e v) := by
  have hprot : (writeProtCells s i e).mons = s.mons := by
    unfold writeProtCells
    split
    · exact forEach_relates (R := fun s t => t.mons = s.mons) (fun _ => rfl) (fun _ _ _ h k => k.trans h) (fun u j _ => updCell_mons ..) s
    · rfl
  have hjudged : (judgeAllPreempted (writeProtCells s i e) e.key).mons = s.mons := (judgeAllPreempted_changesOnly _ e.key .mons (by decide)).trans hprot
  refine runsKept_trans (runsKept_of_mons hjudged) ?_
  refine forEach_relates runsKept_refl (fun _ _ _ => runsKept_trans) ?_ _
  intro u lane _
  refine updMon_runsKept ?_ u _ lane
  exact fun _ => rfl

theorem handToProtection_runsKept (s : State) (i v : Nat) : runsKept s (handToProtection s i v) := by
  unfold handToProtection
  split
  · exact runsKept_refl _
  · split
    · exact openProtection_runsKept _ _ _ _
    · exact runsKept_refl _

theorem activateOne_runsKept (v : Nat) (s : State) (i : Nat) : runsKept s (activateOne v s i) := by
  cases he : s.entry i with
  | none =>
    rw [activateOne_none he]
    exact runsKept_refl s
  | some e =>
    by_cases hstarts : e.state = .held ∧ e.bk.winStart = v
    · obtain ⟨hheld, hstart⟩ := hstarts
      rw [activateOne_starts he hheld hstart, activate_eq he]
      have hcells : (writeOutput (writeWorkCells (setEntry s i (startEntry v e)) i e) i e).mons = s.mons := by
        rw [writeOutput_mons]
        unfold writeWorkCells
        split
        · exact forEach_relates (R := fun s t => t.mons = s.mons) (fun _ => rfl) (fun _ _ _ h k => k.trans h) (fun u j _ => updCell_mons ..) _
        · rfl
      exact runsKept_trans (runsKept_of_mons hcells) (runsKept_trans (writeWorkPlaces_runsKept _ i e v)
        (runsKept_trans (runsKept_of_mons (judgePreempted_changesOnly e.key _ i .mons (by decide)))
          (runsKept_trans (handToProtection_runsKept _ i v) (runsKept_of_mons (bindEntry_changesOnly _ i .mons (by decide))))))
    · rw [activateOne_stays he hstarts]
      exact runsKept_refl s

/-! ### The closing of a lane -/

theorem laneNotice_mons (s : State) (port : Dir) (lane : Nat) (kind : PlaceKind) (o : Option Place) (c : Option Cond) (x y : Bool) (v : Nat) :
    (laneNotice s port lane kind o c x y v).mons = s.mons := by
  unfold laneNotice
  split
  · dsimp only
    split
    · exact raiseNotice_mons ..
    · rfl
  · rfl

theorem monAt_ne {p q : Dir} {x y : Nat} (hx : x < 24) (hy : y < 24) (h : p ≠ q ∨ x ≠ y) : monAt p x ≠ monAt q y := by
  cases p <;> cases q <;> simp [monAt, Config.laneCount] at h ⊢ <;> omega

theorem monAt_lt {p : Dir} {x : Nat} (hx : x < 24) : monAt p x < 48 := by
  cases p <;> simp [monAt, Config.laneCount] <;> omega

theorem mon_closeLane_ne (t : Nat) (s : State) {port p : Dir} {lane x : Nat} (h : monAt port lane ≠ monAt p x) :
    (closeLane t s port lane).mon p x = s.mon p x := by
  unfold closeLane
  dsimp only
  split
  · rfl
  · rw [mon_of_lanes (congrArg Monitors.lanes ((laneNotice_mons ..).trans (laneNotice_mons ..))), mon_updMon, if_neg (fun hn => h hn.1)]

/-- The overlay and its runs after a second (R124). -/
theorem boundaryOverlay_taken (threshold : Nat) (m : LaneMon) :
    overlayTaken threshold m { m.boundaryOverlay threshold with checkFailed := 0, periods := 0 } := by
  unfold LaneMon.boundaryOverlay
  refine ⟨rfl, fun hp ht => ?_, fun hp ht => ?_, fun hp => ?_⟩
  · have hrun : (min 3 (m.degradeRun + 1) == 3) = decide (2 ≤ m.degradeRun) := by
      by_cases h : 2 ≤ m.degradeRun
      · simp [h]
      · simp [h]
    simp [hp.ne', ht, hrun]
  · have hrun : (!(min 10 (m.clearRun + 1) == 10)) = decide (m.clearRun < 9) := by
      by_cases h : m.clearRun < 9
      · simp [h]
      · simp [h]
        omega
    simp [hp.ne', Nat.not_le.2 ht, hrun]
  · simp [hp]

theorem closeLane_takes (t : Nat) (s : State) {port : Dir} {lane : Nat} (hl : lane < 24) (hlen : s.mons.lanes.length = 48)
    (hw : (s.mon port lane).watched = true) : overlayTaken s.cfg.threshold (s.mon port lane) ((closeLane t s port lane).mon port lane) := by
  unfold closeLane
  simp only [hw, Bool.not_true, Bool.false_eq_true, if_false]
  rw [mon_of_lanes (congrArg Monitors.lanes ((laneNotice_mons ..).trans (laneNotice_mons ..))), mon_updMon,
    if_pos ⟨rfl, by rw [hlen]; exact monAt_lt hl⟩]
  exact overlayTaken_of_runs (boundaryOverlay_taken s.cfg.threshold (s.mon port lane)) rfl

theorem closeLane_length (t : Nat) (s : State) (port : Dir) (lane : Nat) : (closeLane t s port lane).mons.lanes.length = s.mons.lanes.length := by
  unfold closeLane
  dsimp only
  split
  · rfl
  · rw [(laneNotice_mons ..).trans (laneNotice_mons ..)]
    exact modifyAt_length ..

/-- The lanes of a port, closed in turn. -/
def closePort (t : Nat) (s : State) (port : Dir) : State := forEach (List.range Config.laneCount) s (fun u lane => closeLane t u port lane)

theorem closeLanes_eq (t : Nat) (s : State) : closeLanes t s = closePort t (closePort t s .west) .east := rfl

theorem closePort_spares (t : Nat) (s : State) {port p : Dir} (hp : port ≠ p) {x : Nat} (hx : x < 24) : (closePort t s port).mon p x = s.mon p x :=
  forEach_relates (R := fun s t => t.mon p x = s.mon p x) (fun _ => rfl) (fun _ _ _ h k => k.trans h)
    (fun u _ hl => mon_closeLane_ne t u (monAt_ne (List.mem_range.1 hl) hx (.inl hp))) s

theorem closePort_changesOnly (t : Nat) (s : State) (port : Dir) : changesOnly [.mons, .site] s (closePort t s port) :=
  forEach_changesOnly (fun u lane => closeLane_changesOnly t u port lane) _ s

theorem closeScan_length (t : Nat) (s : State) (port : Dir) (l : List Nat) :
    (forEach l s (fun u n => closeLane t u port n)).mons.lanes.length = s.mons.lanes.length :=
  forEach_relates (R := fun s t => t.mons.lanes.length = s.mons.lanes.length) (fun _ => rfl) (fun _ _ _ h k => k.trans h)
    (fun u n _ => closeLane_length t u port n) s

theorem closePort_length (t : Nat) (s : State) (port : Dir) : (closePort t s port).mons.lanes.length = s.mons.lanes.length := by
  unfold closePort
  exact closeScan_length t s port _

/-- Each lane of a port closes once. -/
theorem closePort_takes (t : Nat) (s : State) {port : Dir} {lane : Nat} (hl : lane < 24) (hlen : s.mons.lanes.length = 48)
    (hw : (s.mon port lane).watched = true) : overlayTaken s.cfg.threshold (s.mon port lane) ((closePort t s port).mon port lane) := by
  obtain ⟨a, b, ha, hb, hscan⟩ := forEach_split (l := List.range Config.laneCount) List.nodup_range (List.mem_range.2 hl)
  have hother {l : List Nat} (hnot : ∀ n ∈ l, n ∈ List.range Config.laneCount ∧ n ≠ lane) (u : State) :
      (forEach l u (fun u n => closeLane t u port n)).mon port lane = u.mon port lane :=
    forEach_relates (R := fun s t => t.mon port lane = s.mon port lane) (fun _ => rfl) (fun _ _ _ h k => k.trans h)
      (fun u n hn => mon_closeLane_ne t u (monAt_ne (List.mem_range.1 (hnot n hn).1) hl (.inr (hnot n hn).2))) u
  have hbefore : changesOnly [.mons, .site] s (forEach a s (fun u n => closeLane t u port n)) :=
    forEach_changesOnly (fun u n => closeLane_changesOnly t u port n) a s
  have htaken := closeLane_takes t (forEach a s (fun u n => closeLane t u port n)) hl ((closeScan_length t s port a).trans hlen) (by rwa [hother ha])
  rw [hother ha, hbefore .cfg (by decide)] at htaken
  rw [closePort, hscan, hother hb]
  exact htaken

theorem closeLanes_take (t : Nat) (s : State) {port : Dir} {lane : Nat} (hl : lane < 24) (hlen : s.mons.lanes.length = 48)
    (hw : (s.mon port lane).watched = true) : overlayTaken s.cfg.threshold (s.mon port lane) ((closeLanes t s).mon port lane) := by
  rw [closeLanes_eq]
  cases port with
  | west =>
    rw [closePort_spares t _ (by decide) hl]
    exact closePort_takes t s hl hlen hw
  | east =>
    have hspared := closePort_spares t s (port := .west) (p := .east) (by decide) hl
    have hlength := (closePort_length t s .west).trans hlen
    have hcfg : (closePort t s .west).cfg = s.cfg := closePort_changesOnly t s .west .cfg (by decide)
    have hwatched : ((closePort t s .west).mon .east lane).watched = true := (congrArg LaneMon.watched hspared).trans hw
    have htaken := closePort_takes t (closePort t s .west) hl hlength hwatched
    rw [hspared, hcfg] at htaken
    exact htaken

theorem closeInputs_lanes (s : State) : (closeInputs s).mons.lanes = s.mons.lanes := by
  unfold closeInputs
  refine forEach_relates (R := fun s t => t.mons.lanes = s.mons.lanes) (fun _ => rfl) (fun _ _ _ h k => k.trans h) ?_ s
  intro u p _
  unfold closeInput
  dsimp only
  split
  · rw [raiseNotice_mons]
    rfl
  · rfl

theorem closePaths_changesOnly (s : State) (i : Nat) : changesOnly [.entries] s (closePaths s i) := by
  unfold closePaths
  split
  · exact changesOnly_refl _ s
  · split
    · exact setEntry_changesOnly _ _ _
    · exact changesOnly_refl _ s

theorem meterBoundary_changesOnly (t : Nat) (s : State) (i : Nat) : changesOnly [.entries] s (meterBoundary t s i) := by
  refine changesOnly_trans ?_ (restartLatches_changesOnly _ i)
  unfold meterCount
  split
  · exact changesOnly_refl _ s
  · split
    · split
      · exact setEntry_changesOnly _ _ _
      · exact changesOnly_refl _ s
    · exact changesOnly_refl _ s

/-- The paths and the meters are work on the calendar. -/
theorem meterAll_changesOnly (t : Nat) (s : State) : changesOnly [.entries] (closeLanes t s) (meterAll t (closeRecords t s)) :=
  changesOnly_trans (forEach_changesOnly closePaths_changesOnly _ _) (forEach_changesOnly (meterBoundary_changesOnly t) _ _)

theorem secondClosed_lanes (t : Nat) (s : State) : (secondClosed t s).mons.lanes = (closeLanes t s).mons.lanes := by
  rw [secondClosed, closeInputs_lanes, meterAll_changesOnly t s .mons (by decide)]

/-- A watched lane's overlay follows the check-failed frames of the second that ended, where nothing ends at the boundary (R124). -/
theorem boundary_overlays (hmarkers : noMarkers s) (hends : noEnds v s) (hlen : s.mons.lanes.length = 48) {port : Dir} {lane : Nat} (hl : lane < 24)
    (hw : (s.mon port lane).watched = true) : overlayTaken s.cfg.threshold (s.mon port lane) ((boundary v s).mon port lane) := by
  have hmoved : windowsMoved v (secondClosed v s) = forEach indexes (secondClosed v s) (activateOne v) := by
    rw [windowsMoved, releases_none (noEnds_secondClosed hends)]
  have hactivated : runsKept (secondClosed v s) (windowsMoved v (secondClosed v s)) := by
    rw [hmoved]
    exact forEach_relates runsKept_refl (fun _ _ _ => runsKept_trans) (fun u i _ => activateOne_runsKept v u i) _
  have hworks : Works (fun _ => True) (fun _ => True) s (windowsMoved v (secondClosed v s)) := by
    rw [hmoved]
    exact (secondClosed_works s v).trans (scan_works (fun _ _ hj hk => activateOne_works hj hk v) (fun _ _ => trivial) (keysIn_true _))
  have hattempts := attemptsAll_quiet (noMarkers_of_works hworks hmarkers)
  have hlatches := latches_quiet (attemptsAll (windowsMoved v (secondClosed v s)))
  have htail : runsKept (windowsMoved v (secondClosed v s)) (boundary v s) :=
    runsKept_trans (runsKept_of_mons (hattempts.changes .mons (by decide))) (runsKept_of_mons (hlatches.changes .mons (by decide)))
  have htaken := closeLanes_take v s hl hlen hw
  rw [← mon_of_lanes (secondClosed_lanes v s)] at htaken
  exact overlayTaken_of_runs htaken (runsKept_trans hactivated htail port lane)

end Overlay

end Sys2Proof.Machine

namespace Sys2Proof.Machine

/-! ### Match records -/

section Records
variable {s t : State} {i n p : Nat}

theorem record_of_bill (h : t.bill = s.bill) (n : Nat) : t.record n = s.record n := by rw [State.record, h, State.record]

theorem record_lt {x : MatchRecord} (h : s.record n = some x) : n < s.bill.records.length := placeAt_lt _ _ _ h

theorem record_setRecord_same (s : State) (h : n < s.bill.records.length) (r : Option MatchRecord) : (setRecord s n r).record n = r :=
  placeAt_set_same _ _ _ h

theorem record_setRecord_ne (s : State) (h : n ≠ p) (r : Option MatchRecord) : (setRecord s n r).record p = s.record p :=
  placeAt_set_ne _ _ _ _ h

theorem record_raiseNotice (s : State) (src : Nat) (c : NoticeBody) (n : Nat) : (raiseNotice s src c).record n = s.record n :=
  record_of_bill (raiseNotice_bill ..) n

theorem record_setBinding (s : State) (i : Nat) (b : Binding) (n : Nat) : (setBinding s i b).record n = s.record n :=
  record_of_bill (setBinding_bill ..) n

theorem record_closeRecord_ne (s : State) (h : n ≠ p) (r : MatchRecord) : (closeRecord s n r).record p = s.record p := by
  rw [closeRecord, record_raiseNotice, record_setRecord_ne _ h]

theorem record_matchStage_ne (s : State) (h : n ≠ p) (l : Line) (b : Bool) : (matchStage s n l b).record p = s.record p := by
  unfold matchStage
  split
  · rfl
  · rename_i r _
    dsimp only
    have hadded (c : Prop) [Decidable c] (x : Option MatchRecord) (src : Nat) (body : NoticeBody) :
        (if c then setRecord s n x else raiseNotice (setRecord s n x) src body).record p = s.record p := by
      split
      · exact record_setRecord_ne s h x
      · rw [record_raiseNotice, record_setRecord_ne s h x]
    split
    · rw [record_closeRecord_ne _ h]
      exact hadded _ _ _ _
    · exact hadded _ _ _ _

/-- The record found for a match id holds it (R177). -/
theorem findRecord_holds {matchId : Nat} (h : findRecord s matchId = some n) : ∃ x, s.record n = some x ∧ x.matchId = matchId := by
  have hfound := List.find?_some h
  cases hr : s.record n with
  | none => simp [hr] at hfound
  | some x =>
    rw [hr] at hfound
    exact ⟨x, rfl, beq_iff_eq.1 hfound⟩

theorem findRecord_of_bill (h : t.bill = s.bill) (matchId : Nat) : findRecord t matchId = findRecord s matchId := by
  simp only [findRecord, record_of_bill h]

theorem findFor_of_bill (h : t.bill = s.bill) (matchId : Nat) : findFor t matchId = findFor s matchId := by
  simp only [findFor, findRecord_of_bill h, record_of_bill h, h]

theorem findFor_opened {matchId : Nat} {x : MatchRecord} (h : findFor s matchId = .opened n x) : s.record n = some x ∧ x.matchId = matchId := by
  unfold findFor at h
  split at h
  · rename_i r hr
    obtain ⟨y, hy, hid⟩ := findRecord_holds hr
    rw [hy] at h
    dsimp only at h
    split at h
    · obtain ⟨rfl, rfl⟩ := Found.opened.inj h
      exact ⟨hy, hid⟩
    · exact Found.noConfusion h
  · split at h <;> exact Found.noConfusion h

theorem findFor_free {matchId : Nat} (h : findFor s matchId = .free n) : s.record n = none := by
  unfold findFor at h
  split at h
  · split at h
    · split at h <;> exact Found.noConfusion h
    · exact Found.noConfusion h
  · split at h
    · rename_i hfree
      obtain rfl := Found.free.inj h
      exact (firstFree_spec _ _ hfree).2
    · exact Found.noConfusion h

/-! ### A placement scan that passes a record by -/

/-- Work for the entry of one index that leaves a record, every other entry and that entry's booking as they were. -/
structure PassesBy (i p : Nat) (s t : State) : Prop where
  record : t.record p = s.record p
  others : ∀ j, j ≠ i → t.entry j = s.entry j
  own    : ∀ f, t.entry i = some f → ∃ e, s.entry i = some e ∧ f.bk = e.bk

theorem PassesBy.refl (s : State) : PassesBy i p s s := ⟨rfl, fun _ _ => rfl, fun f hf => ⟨f, hf, rfl⟩⟩

theorem PassesBy.trans {u : State} (h : PassesBy i p s t) (k : PassesBy i p t u) : PassesBy i p s u where
  record := k.record.trans h.record
  others j hj := (k.others j hj).trans (h.others j hj)
  own f hf := by
    obtain ⟨g, hg, hbk⟩ := k.own f hf
    obtain ⟨e, he, hbk'⟩ := h.own g hg
    exact ⟨e, he, hbk.trans hbk'⟩

theorem PassesBy.of_entries (hr : t.record p = s.record p) (he : t.entries = s.entries) : PassesBy i p s t :=
  ⟨hr, fun j _ => entry_of_entries he j, fun f hf => ⟨f, (entry_of_entries he i).symm.trans hf, rfl⟩⟩

theorem setRecord_passesBy (s : State) (h : n ≠ p) (r : Option MatchRecord) : PassesBy i p s (setRecord s n r) :=
  .of_entries (record_setRecord_ne s h r) rfl

theorem setBinding_passesBy (s : State) (i : Nat) (b : Binding) : PassesBy i p s (setBinding s i b) where
  record := record_setBinding ..
  others j hj := by rw [setBinding, entry_updEntry, if_neg (Ne.symm hj)]
  own f hf := by
    rw [setBinding, entry_updEntry, if_pos rfl, Option.map_eq_some_iff] at hf
    obtain ⟨e, he, rfl⟩ := hf
    exact ⟨e, he, rfl⟩

theorem entry_bindTo_ne (s : State) (e : Entry) (n : Nat) (x : MatchRecord) {j : Nat} (hj : j ≠ i) : (bindTo s i e n x).entry j = s.entry j :=
  (setBinding_passesBy (p := n) (setRecord s n _) i _).others j hj

theorem bindTo_passesBy (s : State) (i : Nat) (e : Entry) (h : n ≠ p) (x : MatchRecord) : PassesBy i p s (bindTo s i e n x) :=
  (setRecord_passesBy s h _).trans (setBinding_passesBy _ i _)

theorem freeEntry_passesBy (s : State) (i : Nat) : PassesBy i p s (freeEntry s i) where
  record := record_of_bill (freeEntry_bill ..) p
  others j hj := by rw [entry_freeEntry, if_neg (Ne.symm hj)]
  own f hf := by
    rw [entry_freeEntry, if_pos rfl] at hf
    exact absurd hf (Option.some_ne_none f).symm

theorem placeIn_passesBy (s : State) (i : Nat) (e : Entry) (h : n ≠ p) (x : MatchRecord) : PassesBy i p s (placeIn s i e n x) := by
  unfold placeIn
  split
  · rename_i l _ _
    have hstage (u : State) : PassesBy i p u (matchStage u n l false) :=
      .of_entries (record_matchStage_ne u h l false) (changesOnly_entries (matchStage_apart u n l false).changes (by decide))
    exact (setRecord_passesBy s h _).trans ((hstage _).trans (freeEntry_passesBy _ i))
  · exact bindTo_passesBy s i e h x

theorem leaveUnbound_passesBy (s : State) (i : Nat) (e : Entry) (c : UnboundCause) : PassesBy i p s (leaveUnbound s i e c) := by
  have htold (b : Prop) [Decidable b] (body : NoticeBody) : PassesBy i p s
      (if b then setBinding s i (.unbound c) else raiseNotice (setBinding s i (.unbound c)) (sourceEntry i) body) := by
    split
    · exact setBinding_passesBy s i _
    · exact (setBinding_passesBy s i _).trans (.of_entries (record_raiseNotice ..) (raiseNotice_entries ..))
  unfold leaveUnbound
  cases e.meter with
  | none => exact htold _ _
  | some m => exact htold _ _

/-- An entry that does not wait for the match of a record passes it by in a placement scan (R181). -/
theorem placeOne_passesBy {x : MatchRecord} (hp : s.record p = some x)
    (hother : ∀ e, s.entry i = some e → isUnplaced e = true → e.bk.matchId ≠ x.matchId) : PassesBy i p s (placeOne s i) := by
  unfold placeOne
  split
  · exact .refl s
  · rename_i e he
    split
    · rename_i hwaits
      split
      · rename_i n y hfound
        obtain ⟨hy, hid⟩ := findFor_opened hfound
        refine placeIn_passesBy s i e ?_ y
        rintro rfl
        obtain rfl := Option.some.inj (hp.symm.trans hy)
        exact hother e he hwaits hid.symm
      · rename_i n hfound
        have hne : n ≠ p := by
          rintro rfl
          exact Option.some_ne_none x (hp.symm.trans (findFor_free hfound))
        exact (setRecord_passesBy s hne _).trans (placeIn_passesBy _ i e hne _)
      · exact leaveUnbound_passesBy s i e _
    · exact .refl s

theorem placeOne_placed {e : Entry} (he : s.entry i = some e) (h : isUnplaced e = false) : placeOne s i = s := by simp [placeOne, he, h]

theorem placeOne_onlyWaiting {x : MatchRecord} {j : Nat} (hj : j ≠ i) (hp : s.record p = some x) (h : onlyWaiting s i x.matchId) :
    onlyWaiting (placeOne s j) i x.matchId := by
  have hpass : PassesBy j p s (placeOne s j) := placeOne_passesBy hp (fun f hf => h j f hj hf)
  intro k f hk hf hwaits
  by_cases hkj : k = j
  · subst hkj
    obtain ⟨e, he, hbk⟩ := hpass.own f hf
    by_cases hw : isUnplaced e = true
    · rw [hbk]
      exact h k e hk he hw
    · rw [placeOne_placed he (by simpa using hw), he] at hf
      exact absurd hwaits (Option.some.inj hf ▸ hw)
  · rw [hpass.others k hkj] at hf
    exact h k f hk hf hwaits

/-- A placement scan passes by the record of a bound entry whose match no other entry waits for. -/
theorem placementScan_passesBy {x : MatchRecord} {e : Entry} (hp : s.record p = some x) (he : s.entry i = some e) (hplaced : isUnplaced e = false)
    (hothers : onlyWaiting s i x.matchId) : (placementScan s).record p = some x ∧ (placementScan s).entry i = some e := by
  have hvisit (u : State) (j : Nat) (h : u.record p = some x ∧ u.entry i = some e ∧ onlyWaiting u i x.matchId) :
      (placeOne u j).record p = some x ∧ (placeOne u j).entry i = some e ∧ onlyWaiting (placeOne u j) i x.matchId := by
    obtain ⟨hup, hue, huo⟩ := h
    by_cases hj : j = i
    · subst hj
      rw [placeOne_placed hue hplaced]
      exact ⟨hup, hue, huo⟩
    · have hpass : PassesBy j p u (placeOne u j) := placeOne_passesBy hup (fun f hf => huo j f hj hf)
      exact ⟨hpass.record.trans hup, (hpass.others i (Ne.symm hj)).trans hue, placeOne_onlyWaiting hj hup huo⟩
  obtain ⟨hrecord, hentry, -⟩ := forEach_keeps (fun u => u.record p = some x ∧ u.entry i = some e ∧ onlyWaiting u i x.matchId) placeOne hvisit
    indexes s ⟨hp, he, hothers⟩
  exact ⟨hrecord, hentry⟩

/-! ### The binding of an entry that became Active -/

theorem entry_setBinding_same {e : Entry} {m : Meter} (he : s.entry i = some e) (hm : e.meter = some m) (b : Binding) :
    (setBinding s i b).entry i = some { e with meter := some { m with binding := b } } := by
  simp [setBinding, entry_updEntry, he, hm]

theorem bindingAt_of_entry {e : Entry} {m : Meter} (he : s.entry i = some e) (hm : e.meter = some m) : bindingAt s i = some m.binding := by
  simp [bindingAt, he, hm]

/-- An entry is bound to a record in use: pending raised, the first activation time lowered to its own (R177, R179). -/
theorem bindTo_binds {e : Entry} {m : Meter} {x : MatchRecord} (he : s.entry i = some e) (hm : e.meter = some m) (hlt : p < s.bill.records.length) :
    (bindTo s i e p x).entry i = some { e with meter := some { m with binding := .bound p } }
      ∧ (bindTo s i e p x).record p
        = some { x with pending := x.pending + 1, firstActivation := min x.firstActivation (m.firstActive.getD 0) } := by
  have hfirst : firstActiveOf e = m.firstActive.getD 0 := by simp [firstActiveOf, hm]
  refine ⟨entry_setBinding_same (s := setRecord s p (some (bindOne x (firstActiveOf e)))) he hm _, ?_⟩
  rw [bindTo, record_setBinding, record_setRecord_same s hlt, hfirst]
  rfl

/-- An entry left unbound for a new cause says so (R180). -/
theorem leaveUnbound_leaves {e : Entry} {m : Meter} {c : UnboundCause} (hrun : s.phase = .normal) (he : s.entry i = some e) (hm : e.meter = some m)
    (hnew : m.binding ≠ .unbound c) : bindingAt (leaveUnbound s i e c) i = some (.unbound c) ∧ (leaveUnbound s i e c).bill = s.bill
      ∧ noticeAt (leaveUnbound s i e c) (sourceEntry i) = some (.matchUnplaced e.key e.bk.matchId c e.state) := by
  have hleft : leaveUnbound s i e c = raiseNotice (setBinding s i (.unbound c)) (sourceEntry i) (.matchUnplaced e.key e.bk.matchId c e.state) := by
    simp [leaveUnbound, hm, hnew]
  have hrunning : (setBinding s i (.unbound c)).running = true := by
    have hphase : (setBinding s i (.unbound c)).phase = s.phase := updEntry_changesOnly s i _ .phase (by decide)
    exact running_of_normal (hphase.trans hrun)
  rw [hleft]
  refine ⟨?_, by rw [raiseNotice_bill, setBinding_bill], noticeAt_raiseNotice hrunning _ _⟩
  exact bindingAt_of_entry ((entry_of_entries (raiseNotice_entries ..) i).trans (entry_setBinding_same he hm _)) rfl

theorem bindEntry_opened {e : Entry} {x : MatchRecord} (he : s.entry i = some e) (hm : e.meter.isNone = false)
    (hf : findFor s e.bk.matchId = .opened n x) : bindEntry s i = bindTo s i e n x := by simp [bindEntry, he, hm, hf]

theorem bindEntry_free {e : Entry} (he : s.entry i = some e) (hm : e.meter.isNone = false) (hf : findFor s e.bk.matchId = .free n) :
    bindEntry s i = placementScan (bindTo (createRecord s n e) i e n (freshRecord e.bk.matchId (firstActiveOf e))) := by
  simp [bindEntry, he, hm, hf]

theorem bindEntry_blocked {e : Entry} {c : UnboundCause} (he : s.entry i = some e) (hm : e.meter.isNone = false)
    (hf : findFor s e.bk.matchId = .blocked c) : bindEntry s i = leaveUnbound s i e c := by simp [bindEntry, he, hm, hf]

/-- A drop that became Active is bound by the table of R179: t is the state at the binding, s one with the same records. -/
theorem bindEntry_places {e : Entry} {m : Meter} (hbill : t.bill = s.bill) (hrun : t.phase = .normal) (he : t.entry i = some e)
    (hm : e.meter = some m) (hactive : e.state = .active) (hunbound : m.binding = .none) (hothers : onlyWaiting t i e.bk.matchId) :
    placedByTable s (bindEntry t i) i e m := by
  have hfor := findFor_of_bill hbill e.bk.matchId
  have hmetered : e.meter.isNone = false := by simp [hm]
  have hcharged {l : Line} {q : Prop} (h : e.state = .charged) (_ : m.charged = some l) : q := by simp [hactive] at h
  have hleft {c : UnboundCause} (h : findFor s e.bk.matchId = .blocked c) : leftUnbound s (bindEntry t i) i e m c := by
    obtain ⟨hb, hrecords, hsaid⟩ := leaveUnbound_leaves (c := c) hrun he hm (by simp [hunbound])
    rw [bindEntry_blocked he hmetered (hfor.trans h)]
    exact ⟨hb, by rw [hrecords, hbill], fun _ => hsaid, fun hold => by simp [hunbound] at hold⟩
  refine ⟨fun p x hp hx => ⟨fun hopen => ⟨fun _ => ?_, fun l => hcharged⟩, fun hclosed => hleft ?_⟩, fun hnone => ⟨fun p hp => ⟨fun _ => ?_, fun l => hcharged⟩,
    fun hfull => hleft ?_⟩⟩
  · have hfound : findFor s e.bk.matchId = .opened p x := by simp [findFor, hp, hx, hopen]
    obtain ⟨hentry, hrecord⟩ := bindTo_binds (x := x) he hm (p := p) (by rw [hbill]; exact record_lt hx)
    rw [bindEntry_opened he hmetered (hfor.trans hfound)]
    exact ⟨bindingAt_of_entry hentry rfl, hrecord⟩
  · simp [findFor, hp, hx, hclosed]
  · have hfound : findFor s e.bk.matchId = .free p := by simp [findFor, hnone, hp]
    obtain ⟨hlt, -⟩ := firstFree_spec _ _ hp
    have hcreated : (createRecord t p e).bill.records.length = s.bill.records.length := by
      rw [← hbill]
      exact List.length_set
    obtain ⟨hentry, hrecord⟩ := bindTo_binds (s := createRecord t p e) (x := freshRecord e.bk.matchId (firstActiveOf e)) he hm (p := p)
      (by rw [hcreated]; exact hlt)
    have hwaiting : onlyWaiting (bindTo (createRecord t p e) i e p (freshRecord e.bk.matchId (firstActiveOf e))) i e.bk.matchId := by
      intro j g hj hg hwaits
      rw [entry_bindTo_ne _ _ _ _ hj] at hg
      exact hothers j g hj hg hwaits
    obtain ⟨hkept, hstays⟩ := placementScan_passesBy hrecord hentry (by simp [isUnplaced]) hwaiting
    rw [bindEntry_free he hmetered (hfor.trans hfound)]
    refine ⟨bindingAt_of_entry hstays rfl, hkept.trans ?_⟩
    simp [freshRecord, firstActiveOf, hm]
  · simp [findFor, hnone, hfull]

end Records

end Sys2Proof.Machine

namespace Sys2Proof.Machine

/-! ### What an activation leaves of other entries, but for their flags and latches -/

/-- An entry but for its Preempted flag and its meter's latches. -/
def Entry.placing (e : Entry) : Entry := { e with preempted := none, meter := e.meter.map Meter.unlatched }

/-- Every entry is as it was but for its flag and its latches, and the billing table as it was. -/
structure Rejudged (s t : State) : Prop where
  placing : ∀ j, (t.entry j).map Entry.placing = (s.entry j).map Entry.placing
  bill    : t.bill = s.bill

section Binding
variable {s t u : State} {i v : Nat} {e f : Entry} {m : Meter}

theorem Rejudged.trans (h : Rejudged s t) (k : Rejudged t u) : Rejudged s u := ⟨fun j => (k.placing j).trans (h.placing j), k.bill.trans h.bill⟩

theorem Rejudged.of_changesOnly (h : changesOnly [.switch, .mons, .site] s t) : Rejudged s t :=
  ⟨fun j => by rw [entry_of_entries (changesOnly_entries h (by decide))], changesOnly_bill h (by decide)⟩

theorem Rejudged.refl (s : State) : Rejudged s s := .of_changesOnly (changesOnly_refl _ s)

theorem writePreempted_rejudged (s : State) (i : Nat) (b : Bool) : Rejudged s (writePreempted s i b) := by
  refine ⟨fun j => ?_, writePreempted_bill ..⟩
  rw [writePreempted, entry_updEntry]
  split
  · cases s.entry j with
    | none => rfl
    | some e => cases hm : e.meter <;> simp [Entry.placing, Meter.unlatched, hm]
  · rfl

theorem judgePreempted_rejudged (k : Key) (s : State) (i : Nat) : Rejudged s (judgePreempted k s i) := by
  have hjudged (b : Bool) (c : NoticeBody) : Rejudged s (raiseNotice (writePreempted s i b) (sourceEntry i) c) :=
    (writePreempted_rejudged s i b).trans (.of_changesOnly (changesOnly_mono (raiseNotice_changesOnly _ _ _) (by decide)))
  unfold judgePreempted
  split
  · exact .refl s
  · split
    · split <;> split
      · exact .refl s
      · exact hjudged _ _
      · exact hjudged _ _
      · exact .refl s
    · exact .refl s

theorem updCell_changesOnly (s : State) (d : Dir) (x : Nat) (f : Cell → Cell) : changesOnly [.switch, .mons, .site] s (updCell s d x f) :=
  changesOnly_mono (withSwitch_changesOnly s _) (by decide)

theorem writeProtCells_changesOnly (s : State) (i : Nat) (e : Entry) : changesOnly [.switch, .mons, .site] s (writeProtCells s i e) := by
  unfold writeProtCells
  split
  · exact forEach_changesOnly (fun u _ => updCell_changesOnly u _ _ _) _ s
  · exact changesOnly_refl _ s

theorem writeWorkCells_changesOnly (s : State) (i : Nat) (e : Entry) : changesOnly [.switch, .mons, .site] s (writeWorkCells s i e) := by
  unfold writeWorkCells
  split
  · exact forEach_changesOnly (fun u _ => updCell_changesOnly u _ _ _) _ s
  · exact changesOnly_refl _ s

theorem writeOutput_changesOnly (s : State) (i : Nat) (e : Entry) : changesOnly [.switch, .mons, .site] s (writeOutput s i e) := by
  unfold writeOutput
  split
  · exact changesOnly_refl _ s
  · exact changesOnly_mono (withSwitch_changesOnly s _) (by decide)

theorem handToProtection_rejudged (s : State) (i v : Nat) : Rejudged s (handToProtection s i v) := by
  unfold handToProtection
  split
  · exact .refl s
  · rename_i e _
    split
    · have hjudged (u : State) : Rejudged u (judgeAllPreempted u e.key) :=
        forEach_relates Rejudged.refl (fun _ _ _ => Rejudged.trans) (fun u j _ => judgePreempted_rejudged e.key u j) u
      exact (Rejudged.of_changesOnly (writeProtCells_changesOnly s i e)).trans ((hjudged _).trans
        (.of_changesOnly (changesOnly_mono (watchProtection_changesOnly _ i e v) (by decide))))
    · exact .refl s

/-- Up to its binding an activation re-judges, once it has started the entry. -/
theorem activated_rejudged (s : State) (i : Nat) (e : Entry) (v : Nat) : Rejudged (setEntry s i (startEntry v e)) (activated s i e v) :=
  (Rejudged.of_changesOnly (writeWorkCells_changesOnly _ i e)).trans ((Rejudged.of_changesOnly (writeOutput_changesOnly _ i e)).trans
    ((Rejudged.of_changesOnly (changesOnly_mono (writeWorkPlaces_changesOnly _ i e v) (by decide))).trans
      ((judgePreempted_rejudged e.key _ i).trans (handToProtection_rejudged _ i v))))

theorem isUnplaced_of_bound (hstate : f.state = e.state) (hbound : f.meter.map Meter.binding = e.meter.map Meter.binding) : isUnplaced f = isUnplaced e := by
  have hbinding (g : Entry) : isUnplaced g = ((g.state == .active || g.state == .closing || g.state == .charged)
      && (match g.meter.map Meter.binding with
        | some (.unbound _) => true
        | _ => false)) := by
    unfold isUnplaced
    cases g.meter with
    | none => rfl
    | some m => cases hb : m.binding <;> simp [hb]
  rw [hbinding, hbinding, hstate, hbound]

theorem Rejudged.onlyWaiting {k : Nat} (h : Rejudged s t) (hs : onlyWaiting s i k) : onlyWaiting t i k := by
  intro j f hj hf hwaits
  have hplacing := h.placing j
  rw [hf, Option.map_some] at hplacing
  obtain ⟨e, he, hef⟩ := Option.map_eq_some_iff.1 hplacing.symm
  have hbk : e.bk = f.bk := by
    have hb := congrArg Entry.bk hef
    exact hb
  have hstate : e.state = f.state := by
    have hst := congrArg Entry.state hef
    exact hst
  have hbound : e.meter.map Meter.binding = f.meter.map Meter.binding := by
    have hb := congrArg (fun x => x.meter.map Meter.binding) hef
    simpa [Entry.placing, Function.comp_def, Meter.unlatched] using hb
  rw [← hbk]
  exact hs j e hj he (by rw [isUnplaced_of_bound hstate hbound, hwaits])

end Binding

end Sys2Proof.Machine

namespace Sys2Proof.Machine

section Binds
variable {J : Nat → Prop} {K : Key → Prop} {s t u : State} {i v : Nat} {e f : Entry} {m : Meter}

/-- An index beyond the calendar takes no part in the closing of a second. -/
theorem entry_secondClosed_beyond {j : Nat} (hj : ¬ j < 64) : (secondClosed v s).entry j = s.entry j := by
  have hout : j ∉ indexes := fun h => hj (List.mem_range.1 h)
  rw [secondClosed, entry_of_entries (changesOnly_entries (closeInputs_changesOnly _) (by decide)), meterAll,
    entry_forEach_ne (entry_meterBoundary_ne v) hout, closeRecords, entry_forEach_ne entry_closePaths_ne hout,
    entry_of_entries (changesOnly_entries (closeLanes_changesOnly v s) (by decide))]

theorem secondClosed_bill (v : Nat) (s : State) : (secondClosed v s).bill = s.bill := by
  rw [secondClosed, changesOnly_bill (closeInputs_changesOnly _) (by decide), changesOnly_bill (meterAll_changesOnly v s) (by decide),
    changesOnly_bill (closeLanes_changesOnly v s) (by decide)]

theorem secondClosed_onlyWaiting {k : Nat} (h : onlyWaiting s i k) : onlyWaiting (secondClosed v s) i k := by
  intro j f hj hf hwaits
  by_cases hlt : j < 64
  · have hworks : Works (fun _ => True) (fun _ => True) s (secondClosed v s) := secondClosed_works s v
    obtain ⟨e, he, -⟩ := hworks.back j f hf
    obtain ⟨g, hg, hclosed⟩ := entry_secondClosed (t := v) hlt he
    obtain rfl := Option.some.inj (hf.symm.trans hg)
    obtain ⟨-, hbk, -, hst⟩ := hclosed.parts
    rw [hbk]
    exact h j e hj he (by rw [← isUnplaced_of_bound hst hclosed.bound, hwaits])
  · rw [entry_secondClosed_beyond hlt] at hf
    exact h j f hj hf hwaits

/-- Where no other entry starts, the activations of a second are the one activation. -/
theorem activations_alone (hi : i < 64) (h : ∀ j f, j ≠ i → s.entry j = some f → f.state = .held → f.bk.winStart ≠ v) :
    forEach indexes s (activateOne v) = activateOne v s i := by
  obtain ⟨u, rfl, -, hafter⟩ := scan_around (s := s) (i := i) (f := activateOne v) (R := fun s t => t = s)
    (P := fun u => ∀ j f, j ≠ i → u.entry j = some f → f.state = .held → f.bk.winStart ≠ v)
    (fun _ => rfl) (fun _ _ _ h k => k.trans h) (fun _ _ ht hp => ht ▸ hp)
    (fun u j hj hp => by
      cases hf : u.entry j with
      | none => exact activateOne_none hf
      | some f => exact activateOne_stays hf (fun hn => hp j f hj hf hn.1 hn.2))
    (fun u hp j f hj hf hheld => by
      have hown : Works (fun _ => True) (fun _ => True) u (activateOne v u i) := activateOne_works trivial (keysIn_true u) v
      obtain ⟨e, he, hl⟩ := hown.back j f hf
      obtain ⟨-, -, -, hwin, -⟩ := hl.place
      rw [hwin]
      exact hp j e hj he (hl.held hheld))
    hi h
  exact hafter

/-- What the table of R179 says of an Active entry is of its binding, the records and its notice. -/
theorem placedByTable_kept (hb : bindingAt u i = bindingAt t i) (hbill : u.bill = t.bill)
    (hsaid : noticeAt u (sourceEntry i) = noticeAt t (sourceEntry i)) (hactive : f.state = .active) (h : placedByTable s t i f m) :
    placedByTable s u i f m := by
  have hrecord (p : Nat) := record_of_bill hbill p
  have hplaced {p : Nat} {x : MatchRecord} (hp : placedIn s t i f m p x) : placedIn s u i f m p x :=
    ⟨fun hrun => by rw [hb, hrecord]; exact hp.1 hrun, fun l hl => by simp [hactive] at hl⟩
  have hleft {c : UnboundCause} (hc : leftUnbound s t i f m c) : leftUnbound s u i f m c := by
    unfold leftUnbound at hc ⊢
    rwa [hb, hbill, hsaid]
  obtain ⟨hfound, hnone⟩ := h
  exact ⟨fun p x hp hx => ⟨fun ho => hplaced ((hfound p x hp hx).1 ho), fun ho => hleft ((hfound p x hp hx).2 ho)⟩,
    fun hn => ⟨fun p hp => hplaced ((hnone hn).1 p hp), fun hf => hleft ((hnone hn).2 hf)⟩⟩

theorem Quiet.bindingAt (h : Quiet J K s t) (i : Nat) : bindingAt t i = bindingAt s i := by
  have hbinding (o : Option Entry) : (o.bind Entry.meter).map Meter.binding = ((o.map Entry.still).bind Entry.meter).map Meter.binding := by
    cases o with
    | none => rfl
    | some e => cases hm : e.meter <;> simp [Entry.still, Meter.unlatched, hm]
  rw [Sys2Proof.Machine.bindingAt, hbinding, h.still, ← hbinding, Sys2Proof.Machine.bindingAt]

/-- A drop without a path record of the second that ended stays as it is in its protection state at the boundary (R138). -/
theorem protectionBoundary_idle (he : s.entry i = some e) (h : e.paths.bind Paths.working = none) : protectionBoundary s i = s := by
  simp [protectionBoundary, he, h]

theorem attemptSwitchreq_site (s : State) (i : Nat) : (attemptSwitchreq s i).site = s.site := by
  unfold attemptSwitchreq
  split
  · rfl
  · split
    · rfl
    · split
      · exact join_site ..
      · rfl

theorem attemptBridge_site (s : State) (i : Nat) : (attemptBridge s i).site = s.site := by
  unfold attemptBridge
  split
  · rfl
  · split
    · rfl
    · split
      · exact (changesOnly_site (applyBridge_changesOnly _ _ _) (by decide)).trans (join_site ..)
      · rfl

theorem attemptsQuiet_site (h : protectionBoundary s i = s) : (attemptsQuiet s i).site = s.site := by
  rw [attemptsQuiet, h, attemptBridge_site, attemptSwitchreq_site, changesOnly_site (restartLatches_changesOnly s i) (by decide)]

/-- With no WITHDRAW waiting the rest of a boundary tells nothing of an entry that has just started. -/
theorem tail_silent (hmarkers : noMarkers s) (hi : i < 64) (he : s.entry i = some e) (hpaths : e.paths.bind Paths.working = none) :
    noticeAt (forEach indexes (attemptsAll s) restartLatches) (sourceEntry i) = noticeAt s (sourceEntry i) := by
  have hown (w : State) (hw : noMarkers w ∧ ∀ f, w.entry i = some f → f.paths.bind Paths.working = none) :
      Quiet (fun _ => True) (fun _ => True) w (attemptsOne w i) := attemptsOne_quietly hw.1 trivial (keysIn_true w)
  obtain ⟨w, hbefore, hw, hafter⟩ := scan_around (s := s) (i := i) (f := attemptsOne) (R := Quiet (· ≠ i) (fun _ => True))
    (P := fun w => noMarkers w ∧ ∀ f, w.entry i = some f → f.paths.bind Paths.working = none) Quiet.refl (fun _ _ _ => Quiet.trans)
    (fun w x hq hw => ⟨noMarkers_of_works hq.tends.to_works hw.1, fun f hf => hw.2 f ((hq.same i (fun h => h rfl)).symm.trans hf)⟩)
    (fun w j hj hw => attemptsOne_quietly hw.1 hj (keysIn_true w))
    (fun w hw => ⟨noMarkers_of_works (hown w hw).tends.to_works hw.1, fun g hg => by
      cases hf : w.entry i with
      | none => simp [attemptsOne, hf] at hg
      | some f =>
        obtain ⟨g', hg', hstill⟩ := (hown w hw).entry hf
        obtain rfl := Option.some.inj (hg.symm.trans hg')
        have hpaths := congrArg (fun x => x.paths.bind Paths.working) hstill
        exact hpaths.trans (hw.2 f hf)⟩)
    hi ⟨hmarkers, fun f hf => Option.some.inj (he.symm.trans hf) ▸ hpaths⟩
  have hentry : w.entry i = some e := (hbefore.same i (fun h => h rfl)).trans he
  have hsilent : noticeAt (attemptsOne w i) (sourceEntry i) = noticeAt w (sourceEntry i) := by
    rw [attemptsOne_quiet hentry (hw.1 i e hentry)]
    exact noticeAt_of_site (attemptsQuiet_site (protectionBoundary_idle hentry hpaths)) _
  have hlatches : changesOnly [.entries] (attemptsAll s) (forEach indexes (attemptsAll s) restartLatches) :=
    forEach_changesOnly restartLatches_changesOnly _ _
  calc noticeAt (forEach indexes (attemptsAll s) restartLatches) (sourceEntry i)
      = noticeAt (attemptsAll s) (sourceEntry i) := noticeAt_of_site (changesOnly_site hlatches (by decide)) _
    _ = noticeAt (attemptsOne w i) (sourceEntry i) := hafter.said i (fun h => h rfl)
    _ = noticeAt w (sourceEntry i) := hsilent
    _ = noticeAt s (sourceEntry i) := hbefore.said i (fun h => h rfl)

/-- The table of R179 speaks of an entry's key, its booking and its state, and of its meter's binding and times. -/
theorem placedByTable_of_placing {g : Entry} {n : Meter} (hf : ({ g with preempted := none, meter := none } : Entry) = { f with preempted := none, meter := none })
    (hm : n.unlatched = m.unlatched) (h : placedByTable s t i g n) : placedByTable s t i f m := by
  have hrest (x : Entry) (y : Meter) :
      placedByTable s t i x y ↔ placedByTable s t i { x with preempted := none, meter := none } y.unlatched := Iff.rfl
  rw [hrest, ← hf, ← hm, ← hrest]
  exact h

/-- A drop that starts alone at a boundary at which nothing ends is bound by the table of R179. -/
theorem boundary_binds (hrun : s.phase = .normal) (hmarkers : noMarkers s) (hends : noEnds v s) (hi : i < 64) (he : s.entry i = some e)
    (hheld : e.state = .held) (hstart : e.bk.winStart = v) (hpaths : e.paths.bind Paths.working = none) (hm : e.meter = some m)
    (hunbound : m.binding = .none) (hwaiting : onlyWaiting s i e.bk.matchId)
    (halone : ∀ j g, j ≠ i → s.entry j = some g → g.state = .held → g.bk.winStart ≠ v) :
    placedByTable s (boundary v s) i { e with state := .active } { m with firstActive := some v } := by
  have hfirst : Works (fun _ => True) (fun _ => True) s (secondClosed v s) := secondClosed_works s v
  obtain ⟨a, ha, hclosed⟩ := entry_secondClosed (t := v) hi he
  obtain rfl := hclosed.idle (by simp [hheld])
  have hmoved : windowsMoved v (secondClosed v s) = bindEntry (activated (secondClosed v s) i a v) i := by
    rw [windowsMoved, releases_none (noEnds_secondClosed hends), activations_alone hi, activateOne_starts ha hheld hstart, activate_eq ha]
    intro j f hj hf hfheld
    obtain ⟨e, hej, hl⟩ := hfirst.back j f hf
    obtain ⟨-, -, -, hwin, -⟩ := hl.place
    rw [hwin]
    exact halone j e hj hej (hl.held hfheld)
  have hstarted : (setEntry (secondClosed v s) i (startEntry v a)).entry i = some (startEntry v a) :=
    entry_setEntry_same _ i _ (placeAt_lt _ _ _ ha)
  have hrejudged := activated_rejudged (secondClosed v s) i a v
  have hworks : Works (fun _ => True) (fun _ => True) s (activated (secondClosed v s) i a v) :=
    hfirst.trans (activated_works trivial (keysIn_true _) ha v)
  have hplacing := hrejudged.placing i
  rw [hstarted, Option.map_some] at hplacing
  obtain ⟨g, hg, hga⟩ := Option.map_eq_some_iff.1 hplacing
  have hbare : ({ g with preempted := none, meter := none } : Entry) = { { a with state := .active } with preempted := none, meter := none } :=
    congrArg (fun x : Entry => { x with meter := none }) hga
  have hmeter : g.meter.map Meter.unlatched = some ({ m with firstActive := some v } : Meter).unlatched := by
    have h := congrArg Entry.meter hga
    simpa [Entry.placing, startEntry, hm, Meter.unlatched] using h
  obtain ⟨n, hn, hnm⟩ := Option.map_eq_some_iff.1 hmeter
  have hstate : g.state = .active := by
    have h := congrArg Entry.state hbare
    exact h
  have hbk : g.bk = a.bk := by
    have h := congrArg Entry.bk hbare
    exact h
  have hbinding : n.binding = .none := by
    have h := congrArg Meter.binding hnm
    exact h.trans hunbound
  have hbill : (activated (secondClosed v s) i a v).bill = s.bill := by
    rw [hrejudged.bill, setEntry_bill, secondClosed_bill]
  have hphase : (activated (secondClosed v s) i a v).phase = s.phase := hworks.changes .phase (by decide)
  have hothers : onlyWaiting (activated (secondClosed v s) i a v) i g.bk.matchId := by
    rw [hbk]
    refine hrejudged.onlyWaiting fun j f hj hf => ?_
    rw [entry_setEntry_ne _ _ _ _ (Ne.symm hj)] at hf
    exact secondClosed_onlyWaiting hwaiting j f hj hf
  have hplaced := placedByTable_of_placing hbare hnm
    (bindEntry_places hbill (hphase.trans hrun) hg hn hstate hbinding hothers)
  obtain ⟨x, hx, hxa⟩ := activate_outline ha v
  rw [activate_eq ha] at hx
  have hxpaths : x.paths.bind Paths.working = none := by
    have h := congrArg (fun y => y.paths.bind Paths.working) hxa
    exact h.trans hpaths
  have hnone : noMarkers (bindEntry (activated (secondClosed v s) i a v) i) :=
    noMarkers_of_works (hworks.trans (bindEntry_works _ i)) hmarkers
  have hattempts := attemptsAll_quiet hnone
  have hlatches := latches_quiet (attemptsAll (bindEntry (activated (secondClosed v s) i a v) i))
  have htail := tail_silent hnone hi hx hxpaths
  rw [boundary_eq, hmoved]
  exact placedByTable_kept ((hlatches.bindingAt i).trans (hattempts.bindingAt i))
    ((changesOnly_bill hlatches.changes (by decide)).trans (changesOnly_bill hattempts.changes (by decide))) htail rfl hplaced

end Binds

end Sys2Proof.Machine

namespace Sys2Proof.Machine

/-! ### A drop's move to another protection state -/

/-- From s to t the drop e of index i has moved to a protection part: its selector, where it owns its output, and its notice say so (R137, R157). -/
structure Moved (i : Nat) (e : Entry) (s t : State) (q : ProtPart) : Prop where
  quiet    : Quiet (fun _ => True) (fun _ => True) s t
  part     : (t.entry i).bind Entry.prot = some q
  selector : ∀ x, entryOut s e = some x → outputOwner (t.output x) = some e.key → (t.output x).selector = q.state.selector
  said     : s.phase = .normal → ∃ before cause,
    noticeAt t (sourceEntry i) = some (.protectionState e.key before q.state cause q.state.selector s.now)

section Moves
variable {s t u : State} {i v : Nat} {e f : Entry} {p q : ProtPart}

theorem now_of_clock (h : t.clock = s.clock) : t.now = s.now := by rw [State.now, h, State.now]

theorem Moved.after (h : Quiet (fun _ => True) (fun _ => True) s t) (hstill : f.still = e.still) (k : Moved i f t u q) : Moved i e s u q where
  quiet := h.trans k.quiet
  part := k.part
  selector x hx ho := by
    have hroles : f.roles = e.roles := by
      have hr := congrArg Entry.roles hstill
      exact hr
    have hbk : f.bk = e.bk := by
      have hb := congrArg Entry.bk hstill
      exact hb
    have hcfg : t.cfg = s.cfg := h.changes .cfg (by decide)
    refine k.selector x ?_ (by rw [key_of_still hstill]; exact ho)
    rw [entryOut_of_parts (self_of_cfg hcfg) hroles hbk, hx]
  said hrun := by
    have hphase : t.phase = s.phase := h.changes .phase (by decide)
    have hnow : t.now = s.now := now_of_clock (h.changes .clock (by decide))
    rw [← key_of_still hstill, ← hnow]
    exact k.said (hphase.trans hrun)

/-- An output with an owner is one of the switch (R105). -/
theorem output_lt {x : Nat} {k : Key} (h : outputOwner (s.output x) = some k) : x < s.switch.outputs.length := by
  by_contra hn
  have hnone : s.switch.outputs[x]? = none := List.getElem?_eq_none (Nat.le_of_not_lt hn)
  rw [State.output, hnone] at h
  simp [outputOwner, Output.reset] at h

theorem writeSelector_selector {x : Nat} {sel : Selector} (he : s.entry i = some e) (hx : entryOut s e = some x)
    (ho : outputOwner (s.output x) = some e.key) : ((writeSelector s i sel).output x).selector = sel := by
  have hw : selectorWritable s e x = true := by simp [selectorWritable, ho]
  have hout : (updOutput s x (fun o => { o with selector := sel })).output x = { s.output x with selector := sel } := by
    rw [output_updOutput, if_pos ⟨rfl, output_lt ho⟩]
  unfold writeSelector
  simp only [he, hx, hw, if_true]
  split
  · rw [output_of_switch (updEntry_switch ..), hout]
  · rw [hout]

theorem writeSelector_prot (s : State) (i : Nat) (sel : Selector) (j : Nat) :
    ((writeSelector s i sel).entry j).bind Entry.prot = (s.entry j).bind Entry.prot := by
  unfold writeSelector
  split
  · rfl
  · split
    · rfl
    · split
      · dsimp only
        split
        · rw [entry_updEntry]
          split
          · cases hj : s.entry j <;> simp [entry_of_entries (updOutput_entries ..), hj]
          · rfl
        · rfl
      · rfl

theorem changeState_moves {old : ProtPart} (he : s.entry i = some e) (hold : e.prot = some old) (part : ProtPart) (c : ProtCause) :
    Moved i e s (changeState s i part c) part := by
  have hquiet : Quiet (fun _ => True) (fun _ => True) s (changeState s i part c) := changeState_quiet trivial (keysIn_true s) part c
  obtain ⟨e', he', hchange⟩ : ∃ e', e' = { e with prot := some part, request := e.request.map (Request.follow old.state.wants part.state.wants) }
      ∧ changeState s i part c = raiseNotice
        (if selectorOf (setEntry s i e') e' = part.state.selector then setEntry s i e' else writeSelector (setEntry s i e') i part.state.selector)
        (sourceEntry i) (.protectionState e.key old.state part.state c part.state.selector s.now) :=
    ⟨_, rfl, by simp only [changeState, he, hold]⟩
  have hentry : (setEntry s i e').entry i = some e' := entry_setEntry_same s i e' (placeAt_lt _ _ _ he)
  have houtput {x : Nat} (hx : entryOut s e = some x) (howner : outputOwner (s.output x) = some e.key) :
      ((if selectorOf (setEntry s i e') e' = part.state.selector then setEntry s i e' else writeSelector (setEntry s i e') i part.state.selector).output
        x).selector = part.state.selector := by
    have hx' : entryOut (setEntry s i e') e' = some x := by
      rw [← hx, he']
      rfl
    split
    · rename_i hsame
      rw [← selectorOf_some hx', hsame]
    · exact writeSelector_selector hentry hx' (by rw [he']; exact howner)
  have hpart : ((if selectorOf (setEntry s i e') e' = part.state.selector then setEntry s i e'
      else writeSelector (setEntry s i e') i part.state.selector).entry i).bind Entry.prot = some part := by
    have hset : ((setEntry s i e').entry i).bind Entry.prot = some part := by rw [hentry, he']; rfl
    split
    · exact hset
    · rw [writeSelector_prot, hset]
  have hphase : (changeState s i part c).phase = s.phase := hquiet.changes .phase (by decide)
  have hsources := hquiet.sources
  rw [hchange] at hquiet hphase hsources ⊢
  refine ⟨hquiet, by rw [entry_of_entries (raiseNotice_entries ..)]; exact hpart, fun x hx ho => ?_, fun hrun => ?_⟩
  · rw [outputOwner_of_sources (hsources x)] at ho
    rw [output_of_switch (raiseNotice_switch ..)]
    exact houtput hx ho
  · rw [raiseNotice_phase] at hphase
    exact ⟨_, _, noticeAt_raiseNotice (running_of_normal (hphase.trans hrun)) _ _⟩

theorem Moved.entry (k : Moved i e s t q) (he : s.entry i = some e) : ∃ f, t.entry i = some f ∧ f.still = e.still ∧ f.prot = some q := by
  obtain ⟨f, hf, hstill⟩ := k.quiet.entry he
  have hpart := k.part
  rw [hf] at hpart
  exact ⟨f, hf, hstill, hpart⟩

theorem bridgeFlag_of_still {e f : Entry} (h : f.still = e.still) : f.bridgeFlag = e.bridgeFlag := by
  have hflag := congrArg Entry.bridgeFlag h
  exact hflag

theorem state_of_still {e f : Entry} (h : f.still = e.still) : f.state = e.state := state_of_settled (settled_of_still h)

/-- Where the hold-off takes a drop: to Bridging, or at once to Protected where its bridge is on (R139). -/
def bridgingPart (e : Entry) : ProtPart :=
  { state := if e.bridgeFlag = some true then .protecting else .bridging, holdOff := none, restoreWait := none, resends := 0 }

theorem expireHoldOff_moves {old : ProtPart} (he : s.entry i = some e) (hactive : e.state = .active) (hprot : e.prot = some old)
    (hold : old.state = .holdOff) : Moved i e s (expireHoldOff s i) (bridgingPart e) := by
  have hexpire : expireHoldOff s i
      = if e.bridgeFlag = some true then changeState (changeState s i (ProtPart.enter .bridging none none 0) .holdOffExpiry) i
          (ProtPart.enter .protecting none none 0) .bridgeSeen
        else changeState s i (ProtPart.enter .bridging none none 0) .holdOffExpiry := by
    simp [expireHoldOff, he, hprot, hactive, hold]
  have hbridging : Moved i e s (changeState s i (ProtPart.enter .bridging none none 0) .holdOffExpiry) _ := changeState_moves he hprot _ _
  rw [hexpire]
  by_cases hflag : e.bridgeFlag = some true
  · obtain ⟨f, hf, hstill, hpart⟩ := hbridging.entry he
    have hprotecting := hbridging.quiet
    rw [if_pos hflag, bridgingPart, if_pos hflag]
    exact .after hprotecting hstill (changeState_moves hf hpart _ _)
  · rw [if_neg hflag, bridgingPart, if_neg hflag]
    exact hbridging

/-- The protection part that a boundary's outcome gives (R138, R139, R141). -/
def outcomePart (s : State) (e : Entry) (n : Nat) : ProtState → ProtPart
  | .holdOff => if s.cfg.holdOff = 0 then bridgingPart e
      else { state := .holdOff, holdOff := some (s.nowMs + s.cfg.holdOff * 100), restoreWait := none, resends := n }
  | .restoreWait => { state := .restoreWait, holdOff := none, restoreWait := some (s.nowMs + s.cfg.restoreWait * 60000), resends := n }
  | st => { state := st, holdOff := none, restoreWait := none, resends := n }

theorem enterHoldOff_moves {old : ProtPart} (he : s.entry i = some e) (hactive : e.state = .active) (hprot : e.prot = some old) (n : Nat)
    (c : ProtCause) : Moved i e s (enterHoldOff s i n c) (outcomePart s e n .holdOff) := by
  have hold : Moved i e s (changeState s i (ProtPart.enter .holdOff (some (after s (holdOffMs s))) none n) c) _ := changeState_moves he hprot _ _
  have hzero : holdOffMs s = 0 ↔ s.cfg.holdOff = 0 := by simp [holdOffMs]
  unfold enterHoldOff outcomePart
  simp only [hzero]
  split
  · obtain ⟨f, hf, hstill, hpart⟩ := hold.entry he
    have hflag : bridgingPart f = bridgingPart e := by rw [bridgingPart, bridgeFlag_of_still hstill, bridgingPart]
    rw [← hflag]
    exact .after hold.quiet hstill (expireHoldOff_moves hf ((state_of_still hstill).trans hactive) hpart rfl)
  · exact hold

theorem applyOutcome_moves (he : s.entry i = some e) (hactive : e.state = .active) (hprot : e.prot = some p) (st : ProtState) (c : ProtCause) :
    Moved i e s (applyOutcome s i p st c) (outcomePart s e p.resends st) := by
  cases st
  case holdOff => exact enterHoldOff_moves he hactive hprot _ c
  case restoreWait => exact changeState_moves he hprot _ c
  case working | bridging | protecting | forced | lockout => exact changeState_moves he hprot _ c

end Moves

end Sys2Proof.Machine

namespace Sys2Proof.Machine

/-! ### The table of R138, row by row -/

section Rows
variable {work prot : PathClass} {s t u : State} {i n : Nat} {e f : Entry} {p q : ProtPart} {st : ProtState} {c : ProtCause}

theorem boundaryOutcome_working (work prot : PathClass) :
    boundaryOutcome .working work prot = if work = .failed then some (.holdOff, .workingFail) else none := by cases work <;> rfl

theorem boundaryOutcome_holdOff (work prot : PathClass) :
    boundaryOutcome .holdOff work prot = if work = .good then some (.working, .workingClean) else none := by cases work <;> rfl

theorem boundaryOutcome_bridging (work prot : PathClass) :
    boundaryOutcome .bridging work prot = if work = .good then some (.working, .workingClean) else none := by cases work <;> rfl

theorem boundaryOutcome_protecting (work prot : PathClass) : boundaryOutcome .protecting work prot
    = if work = .good then (if prot = .failed then some (.working, .protectionFail) else some (.restoreWait, .workingClean)) else none := by
  cases work <;> cases prot <;> rfl

theorem boundaryOutcome_restoreWait (work prot : PathClass) : boundaryOutcome .restoreWait work prot
    = if work = .failed then some (.protecting, .workingFail) else if prot = .failed then some (.working, .protectionFail) else none := by
  cases work <;> cases prot <;> rfl

/-- A drop whose state stays asks again for its bridge (R140, R142). -/
def resendAsks (e : Entry) (prot : PathClass) (n : Nat) : ProtState → Prop
  | .bridging => bridgingAsks e n
  | .protecting => failedAsks e prot n
  | .forced => failedAsks e prot n
  | _ => False

theorem tableRow_moves (h : boundaryOutcome p.state work prot = some (st, c)) :
    tableRow s.cfg s.nowMs e work prot n p (outcomePart s e n st) := by
  cases hstate : p.state <;> rw [hstate] at h <;> simp only [tableRow, hstate]
  case working =>
    rw [boundaryOutcome_working, Option.ite_none_right_eq_some] at h
    obtain ⟨hwork, h⟩ := h
    obtain ⟨rfl, -⟩ := Prod.mk.inj (Option.some.inj h)
    exact ⟨fun _ hpos => if_neg hpos.ne', fun _ hzero => if_pos hzero, fun hn => absurd hwork hn⟩
  case holdOff =>
    rw [boundaryOutcome_holdOff, Option.ite_none_right_eq_some] at h
    obtain ⟨hwork, h⟩ := h
    obtain ⟨rfl, -⟩ := Prod.mk.inj (Option.some.inj h)
    exact ⟨fun _ => rfl, fun hn => absurd hwork hn⟩
  case bridging =>
    rw [boundaryOutcome_bridging, Option.ite_none_right_eq_some] at h
    obtain ⟨hwork, h⟩ := h
    obtain ⟨rfl, -⟩ := Prod.mk.inj (Option.some.inj h)
    exact ⟨fun _ => rfl, fun hn => absurd hwork hn, fun hn => absurd hwork hn⟩
  case protecting =>
    rw [boundaryOutcome_protecting, Option.ite_none_right_eq_some] at h
    obtain ⟨hwork, h⟩ := h
    by_cases hprot : prot = .failed
    · rw [if_pos hprot] at h
      obtain ⟨rfl, -⟩ := Prod.mk.inj (Option.some.inj h)
      exact ⟨fun _ hn => absurd hprot hn, fun _ _ => rfl, fun hn => absurd hwork hn, fun hn => absurd hwork hn⟩
    · rw [if_neg hprot] at h
      obtain ⟨rfl, -⟩ := Prod.mk.inj (Option.some.inj h)
      exact ⟨fun _ _ => rfl, fun _ hf => absurd hf hprot, fun hn => absurd hwork hn, fun hn => absurd hwork hn⟩
  case restoreWait =>
    rw [boundaryOutcome_restoreWait] at h
    by_cases hwork : work = .failed
    · rw [if_pos hwork] at h
      obtain ⟨rfl, -⟩ := Prod.mk.inj (Option.some.inj h)
      exact ⟨fun _ => rfl, fun hn => absurd hwork hn, fun hn => absurd hwork hn⟩
    · rw [if_neg hwork, Option.ite_none_right_eq_some] at h
      obtain ⟨hprot, h⟩ := h
      obtain ⟨rfl, -⟩ := Prod.mk.inj (Option.some.inj h)
      exact ⟨fun hf => absurd hf hwork, fun _ _ => rfl, fun _ hn => absurd hprot hn⟩
  case forced | lockout => cases h

theorem tableRow_stays {cfg : Cfg} {ms : Nat} (h : boundaryOutcome p.state work prot = none)
    (hasks : resendAsks e prot n p.state → q = { p with resends := n + 1 }) (hnot : ¬ resendAsks e prot n p.state → q = { p with resends := n }) :
    tableRow cfg ms e work prot n p q := by
  cases hstate : p.state <;> rw [hstate] at h hasks hnot <;> simp only [tableRow, hstate]
  case working =>
    have hwork : work ≠ .failed := by simpa [boundaryOutcome_working] using h
    exact ⟨fun hf => absurd hf hwork, fun hf => absurd hf hwork, fun _ => hnot id⟩
  case holdOff =>
    have hwork : work ≠ .good := by simpa [boundaryOutcome_holdOff] using h
    exact ⟨fun hg => absurd hg hwork, fun _ => hnot id⟩
  case bridging =>
    have hwork : work ≠ .good := by simpa [boundaryOutcome_bridging] using h
    exact ⟨fun hg => absurd hg hwork, fun _ => hasks, fun _ => hnot⟩
  case protecting =>
    have hwork : work ≠ .good := by
      rintro rfl
      rw [boundaryOutcome_protecting, if_pos rfl] at h
      split at h <;> cases h
    exact ⟨fun hg => absurd hg hwork, fun hg => absurd hg hwork, fun _ => hasks, fun _ => hnot⟩
  case restoreWait =>
    rw [boundaryOutcome_restoreWait] at h
    have hwork : work ≠ .failed := fun hf => by simp [hf] at h
    have hprot : prot ≠ .failed := fun hf => by simp [hwork, hf] at h
    exact ⟨fun hf => absurd hf hwork, fun _ hf => absurd hf hprot, fun _ _ => hnot id⟩
  case forced => exact ⟨hasks, hnot⟩
  case lockout => exact hnot id

end Rows

end Sys2Proof.Machine

namespace Sys2Proof.Machine

/-! ### The protection controller's visit to a drop at a boundary -/

/-- From s to t the protection controller has judged the drop e of index i, found in p: it is in q, and where its state has changed, its notice says so,
and so does its selector, if its key is unique (R137, R157). -/
structure Judged (unique : Prop) (i : Nat) (e : Entry) (p q : ProtPart) (s t : State) : Prop where
  part     : (t.entry i).bind Entry.prot = some q
  selector : q.state ≠ p.state → unique → ∀ x, entryOut s e = some x → outputOwner (t.output x) = some e.key →
    (t.output x).selector = q.state.selector
  said     : q.state ≠ p.state → s.phase = .normal → e.preempted = none → ∃ before cause,
    noticeAt t (sourceEntry i) = some (.protectionState e.key before q.state cause q.state.selector s.now)

/-- The marker of the drop of index i stands for a request on (R143). -/
def marksOn (i : Nat) (q : ProtPart) (t : State) : Prop :=
  (t.entry i).bind Entry.request = some { announced := true, toSend := true } ∧ q.state.wants = true

section Visit
variable {unique : Prop} {s t : State} {i n : Nat} {e : Entry} {p q : ProtPart} {w : SecondRec} {prot : PathClass} {st : ProtState} {c : ProtCause}

theorem outcomePart_resends (s : State) (e : Entry) (n : Nat) (st : ProtState) : (outcomePart s e n st).resends ≠ n + 1 := by
  cases st
  case holdOff => by_cases h : s.cfg.holdOff = 0 <;> simp [outcomePart, bridgingPart, h]
  case working | bridging | protecting | restoreWait | forced | lockout => simp [outcomePart]

/-- The outcome depends on the configuration, the local time and the bridge flag alone. -/
theorem outcomePart_eq {f : Entry} (hcfg : t.cfg = s.cfg) (hms : t.nowMs = s.nowMs) (hflag : f.bridgeFlag = e.bridgeFlag) (n : Nat) (st : ProtState) :
    outcomePart t f n st = outcomePart s e n st := by
  cases st <;> simp [outcomePart, bridgingPart, hcfg, hms, hflag]

theorem Moved.judged (h : Moved i e s t q) (p : ProtPart) : Judged unique i e p q s t where
  part := h.part
  selector _ _ := h.selector
  said _ hrun _ := h.said hrun

/-- A judgement that leaves the drop in its state has no selector to move and nothing to say. -/
theorem Judged.of_same (hpart : (t.entry i).bind Entry.prot = some q) (hstate : q.state = p.state) : Judged unique i e p q s t where
  part := hpart
  selector hn := absurd hstate hn
  said hn := absurd hstate hn

theorem entry_setResends (he : s.entry i = some e) (n : Nat) :
    (setResends s i n).entry i = some { e with prot := e.prot.map (fun p => { p with resends := n }) } := by
  rw [setResends, entry_updEntry, if_pos rfl, he, Option.map_some]

theorem entry_markRequest (he : s.entry i = some e) :
    (markRequest s i).entry i = some { e with request := e.request.map (fun r => { r with toSend := true }) } := by
  rw [markRequest, entry_updEntry, if_pos rfl, he, Option.map_some]

/-- The drop's request is announced On where it asks again (R140, R142). -/
theorem announced_of_asks {st : ProtState} (h : resendAsks e prot n st) : e.request.map Request.announced = some true ∧ st.wants = true := by
  cases st
  case bridging =>
    obtain ⟨-, hrequest, -⟩ := h
    exact ⟨by rw [hrequest]; rfl, rfl⟩
  case protecting | forced =>
    obtain ⟨-, hannounced, -⟩ := h
    exact ⟨hannounced, rfl⟩
  case working | holdOff | restoreWait | lockout => exact h.elim

theorem resendAtBoundary_asks (h : resendAsks e prot p.resends p.state) :
    resendAtBoundary s i e p prot = markRequest (setResends s i (p.resends + 1)) i := by
  cases hstate : p.state <;> rw [hstate] at h <;> simp only [resendAtBoundary, hstate]
  case bridging =>
    obtain ⟨hflag, hrequest, hlow⟩ := h
    simp [hflag, hrequest, hlow]
  case protecting | forced =>
    obtain ⟨hprot, hannounced, hlow⟩ := h
    obtain ⟨r, hr, hon⟩ := Option.map_eq_some_iff.1 hannounced
    simp [hprot, hr, hon, hlow]
  case working | holdOff | restoreWait | lockout => exact h.elim

theorem resendAtBoundary_silent (h : ¬ resendAsks e prot p.resends p.state) : resendAtBoundary s i e p prot = s := by
  cases hstate : p.state <;> rw [hstate] at h <;> simp only [resendAtBoundary, hstate]
  case bridging =>
    rw [if_neg]
    intro hall
    cases hr : e.request with
    | none => simp [hr] at hall
    | some r =>
      obtain ⟨announced, toSend⟩ := r
      have hparts : ((e.bridgeFlag ≠ some true ∧ announced = true) ∧ toSend = false) ∧ p.resends < 3 := by simpa [hr] using hall
      obtain ⟨⟨⟨hflag, rfl⟩, rfl⟩, hlow⟩ := hparts
      exact h ⟨hflag, hr, hlow⟩
  case protecting | forced =>
    rw [if_neg]
    rintro ⟨hprot, hannounced, hlow⟩
    cases hr : e.request with
    | none => simp [hr] at hannounced
    | some r => exact h ⟨hprot, by simpa [hr] using hannounced, hlow⟩

theorem protectionBoundary_moves (he : s.entry i = some e) (hactive : e.state = .active) (hp : e.prot = some p)
    (hw : e.paths.bind Paths.working = some w) (hn : resendsAfter (protClassOf (e.paths.bind Paths.protection)) p.resends = n)
    (h : boundaryOutcome p.state (classOf w) (protClassOf (e.paths.bind Paths.protection)) = some (st, c)) :
    protectionBoundary s i = applyOutcome (setResends s i n) i { p with resends := n } st c := by
  subst hn
  simp only [protectionBoundary, he, hactive, hp, hw, h]

theorem protectionBoundary_stays (he : s.entry i = some e) (hactive : e.state = .active) (hp : e.prot = some p)
    (hw : e.paths.bind Paths.working = some w) (hn : resendsAfter (protClassOf (e.paths.bind Paths.protection)) p.resends = n)
    (h : boundaryOutcome p.state (classOf w) (protClassOf (e.paths.bind Paths.protection)) = none) :
    protectionBoundary s i = resendAtBoundary (setResends s i n) i e { p with resends := n } (protClassOf (e.paths.bind Paths.protection)) := by
  subst hn
  simp only [protectionBoundary, he, hactive, hp, hw, h]

/-- The visit to an Active protected drop follows the table of R138 on its two closed records. -/
theorem protectionBoundary_judged (he : s.entry i = some e) (hactive : e.state = .active) (hp : e.prot = some p)
    (hw : e.paths.bind Paths.working = some w) (hn : resendsAfter (protClassOf (e.paths.bind Paths.protection)) p.resends = n) :
    ∃ q, Judged unique i e p q s (protectionBoundary s i) ∧ (q.resends = n + 1 → marksOn i q (protectionBoundary s i))
      ∧ tableRow s.cfg s.nowMs e (classOf w) (protClassOf (e.paths.bind Paths.protection)) n p q := by
  have hset := entry_setResends he n
  rw [hp, Option.map_some] at hset
  cases h : boundaryOutcome p.state (classOf w) (protClassOf (e.paths.bind Paths.protection)) with
  | some o =>
    obtain ⟨st, c⟩ := o
    have hchanges : changesOnly [.entries] s (setResends s i n) := updEntry_changesOnly s i _
    have hpart : outcomePart (setResends s i n) { e with prot := some { p with resends := n } } n st = outcomePart s e n st :=
      outcomePart_eq (hchanges .cfg (by decide)) (hchanges .nowMs (by decide)) rfl n st
    have hmoved : Moved i e s (protectionBoundary s i) (outcomePart s e n st) := by
      rw [protectionBoundary_moves he hactive hp hw hn h, ← hpart]
      exact .after (f := { e with prot := some { p with resends := n } }) (setResends_quiet trivial n) rfl (applyOutcome_moves hset hactive rfl st c)
    exact ⟨_, hmoved.judged p, fun hq => absurd hq (outcomePart_resends s e n st), tableRow_moves h⟩
  | none =>
    by_cases hasks : resendAsks e (protClassOf (e.paths.bind Paths.protection)) n p.state
    · obtain ⟨hannounced, hwants⟩ := announced_of_asks hasks
      obtain ⟨r, hr, hon⟩ := Option.map_eq_some_iff.1 hannounced
      have hentry := entry_markRequest (entry_setResends hset (n + 1))
      have hvisit := (protectionBoundary_stays he hactive hp hw hn h).trans (resendAtBoundary_asks (p := { p with resends := n }) hasks)
      rw [← hvisit] at hentry
      refine ⟨{ p with resends := n + 1 }, .of_same (by rw [hentry]; rfl) rfl, fun _ => ⟨?_, hwants⟩,
        tableRow_stays h (fun _ => rfl) (fun hn => absurd hasks hn)⟩
      rw [hentry]
      change e.request.map _ = _
      rw [hr, Option.map_some, hon]
    · have hvisit := (protectionBoundary_stays he hactive hp hw hn h).trans (resendAtBoundary_silent (p := { p with resends := n }) hasks)
      rw [← hvisit] at hset
      exact ⟨{ p with resends := n }, .of_same (by rw [hset]; rfl) rfl, fun hq => absurd hq (Nat.succ_ne_self n).symm,
        tableRow_stays h (fun ha => absurd ha hasks) (fun _ => rfl)⟩

/-! ### What follows the visit -/

/-- Work that keeps the drop's protection part, its output and its notice keeps the judgement. -/
theorem Judged.keep {u : State} (h : Judged unique i e p q s t) (hpart : (u.entry i).bind Entry.prot = (t.entry i).bind Entry.prot)
    (hout : unique → ∀ x, outputOwner (u.output x) = some e.key → u.output x = t.output x)
    (hsaid : e.preempted = none → noticeAt u (sourceEntry i) = noticeAt t (sourceEntry i)) : Judged unique i e p q s u where
  part := hpart.trans h.part
  selector hn hu x hx ho := by
    have hkept := hout hu x ho
    rw [hkept] at ho ⊢
    exact h.selector hn hu x hx ho
  said hn hrun hp := by
    rw [hsaid hp]
    exact h.said hn hrun hp

/-- Work that leaves the switch and the notices alone. -/
theorem Judged.keep_parts {u : State} (h : Judged unique i e p q s t) (hpart : (u.entry i).bind Entry.prot = (t.entry i).bind Entry.prot)
    (hswitch : u.switch = t.switch) (hsite : u.site = t.site) : Judged unique i e p q s u :=
  h.keep hpart (fun _ x _ => output_of_switch hswitch x) (fun _ => noticeAt_of_site hsite _)

/-- A restart of the latches is of the meter alone (R160). -/
theorem restartLatches_parts (s : State) (i : Nat) :
    ((restartLatches s i).entry i).bind Entry.prot = (s.entry i).bind Entry.prot
      ∧ ((restartLatches s i).entry i).bind Entry.request = (s.entry i).bind Entry.request := by
  cases he : s.entry i with
  | none =>
    rw [restartLatches_none he, he]
    exact ⟨rfl, rfl⟩
  | some e =>
    obtain ⟨a, b, hlatched⟩ := restartLatches_entry he
    rw [hlatched]
    exact ⟨rfl, rfl⟩

theorem attemptSwitchreq_idle {r : Request} (he : s.entry i = some e) (hr : e.request = some r)
    (h : (e.state == .active && r.toSend && canJoinProt s e.bk.dir) = false) : attemptSwitchreq s i = s := by
  simp only [attemptSwitchreq, he, hr, h, Bool.false_eq_true, if_false]

theorem attemptSwitchreq_sends {r : Request} (he : s.entry i = some e) (hr : e.request = some r)
    (h : (e.state == .active && r.toSend && canJoinProt s e.bk.dir) = true) : attemptSwitchreq s i
      = setEntry (join s e.bk.dir e.key.seq (.switchreq e.key s.self (wantedOf e))) i
          { e with request := some { announced := wantedOf e, toSend := false } } := by
  simp only [attemptSwitchreq, he, hr, h, if_true]

theorem attemptSwitchreq_unasked (he : s.entry i = some e) (hr : e.request = none) : attemptSwitchreq s i = s := by
  simp only [attemptSwitchreq, he, hr]

theorem entry_setEntry_join (he : s.entry i = some e) (d : Dir) (m : Nat) (b : Body) (f : Entry) : (setEntry (join s d m b) i f).entry i = some f :=
  entry_setEntry_same _ i f (placeAt_lt _ _ _ ((entry_of_entries (join_entries s d m b) i).trans he))

/-- The attempt to send a request writes the request alone, and the queue (R143). -/
theorem attemptSwitchreq_parts (s : State) (i : Nat) :
    ((attemptSwitchreq s i).entry i).bind Entry.prot = (s.entry i).bind Entry.prot ∧ (attemptSwitchreq s i).switch = s.switch := by
  cases he : s.entry i with
  | none =>
    have hidle : attemptSwitchreq s i = s := by simp only [attemptSwitchreq, he]
    rw [hidle, he]
    exact ⟨rfl, rfl⟩
  | some e =>
    cases hr : e.request with
    | none =>
      rw [attemptSwitchreq_unasked he hr, he]
      exact ⟨rfl, rfl⟩
    | some r =>
      cases h : e.state == .active && r.toSend && canJoinProt s e.bk.dir with
      | false =>
        rw [attemptSwitchreq_idle he hr h, he]
        exact ⟨rfl, rfl⟩
      | true =>
        rw [attemptSwitchreq_sends he hr h, entry_setEntry_join he]
        exact ⟨rfl, join_switch ..⟩

/-- The marker of a request on has sent it, or stands (R143). -/
theorem attemptSwitchreq_asks (he : s.entry i = some e) (hp : e.prot = some q) (h : marksOn i q s) : askedAgain (attemptSwitchreq s i) i e := by
  obtain ⟨hrequest, hwants⟩ := h
  rw [he, Option.bind_some] at hrequest
  have hwanted : wantedOf e = true := by simpa [wantedOf, hp] using hwants
  cases h : e.state == .active && true && canJoinProt s e.bk.dir with
  | false =>
    rw [attemptSwitchreq_idle he hrequest h]
    exact .inl (by rw [he, Option.bind_some, hrequest])
  | true =>
    rw [attemptSwitchreq_sends he hrequest h, hwanted]
    refine .inr ⟨by rw [entry_setEntry_join he]; rfl, newMsg s e.bk.dir e.key.seq (.switchreq e.key s.self true), ?_, ?_⟩
    · change _ ∈ (join s e.bk.dir e.key.seq _).queue e.bk.dir
      rw [queue_join]
      exact List.mem_append_right _ (List.mem_singleton_self _)
    · change Body.switchreq e.key s.self true = .switchreq e.key (join s e.bk.dir e.key.seq _).self true
      rw [self_of_cfg (join_cfg ..)]

/-- The attempt of a BRIDGE writes the bridge set and the bridged-key set alone, and the queue (R149). -/
theorem attemptBridge_parts (s : State) (i : Nat) :
    ((attemptBridge s i).entry i).bind Entry.prot = (s.entry i).bind Entry.prot
      ∧ ((attemptBridge s i).entry i).bind Entry.request = (s.entry i).bind Entry.request ∧ (attemptBridge s i).switch = s.switch := by
  unfold attemptBridge
  split
  · exact ⟨rfl, rfl, rfl⟩
  · rename_i e he
    split
    · exact ⟨rfl, rfl, rfl⟩
    · split
      · have hbridge (t : State) (on : Bool) : changesOnly [.bridged] t (applyBridge t e.key on) := applyBridge_changesOnly t e.key on
        dsimp only
        rw [entry_of_entries (changesOnly_entries (hbridge _ _) (by decide)), entry_setEntry_join he, he]
        exact ⟨rfl, rfl, ((hbridge _ _) .switch (by decide)).trans (join_switch ..)⟩
      · exact ⟨rfl, rfl, rfl⟩

/-- A request asked again stays so in work that keeps it and takes nothing from the queues. -/
theorem askedAgain_keep {u : State} (h : askedAgain t i e) (hrequest : (u.entry i).bind Entry.request = (t.entry i).bind Entry.request)
    (hqueue : t.queue e.bk.dir <+: u.queue e.bk.dir) (hself : u.self = t.self) : askedAgain u i e := by
  unfold askedAgain at h ⊢
  rw [hrequest, hself]
  exact h.imp_right fun ⟨hr, m, hm, hbody⟩ => ⟨hr, m, hqueue.subset hm, hbody⟩

end Visit

end Sys2Proof.Machine

namespace Sys2Proof.Machine

/-! ### A protected drop through a boundary -/

/-- What the protection controller reads of a drop stands in f as in e, and f is no pre-empted entry where e is none. -/
structure Entry.Kept (e f : Entry) : Prop where
  key       : f.key = e.key
  bk        : f.bk = e.bk
  roles     : f.roles = e.roles
  state     : f.state = e.state
  marker    : f.marker = e.marker
  prot      : f.prot = e.prot
  request   : f.request = e.request
  flag      : f.bridgeFlag = e.bridgeFlag
  preempted : e.preempted = none → f.preempted = none

section Drop
variable {K : Key → Prop} {unique : Prop} {s t u : State} {i n v : Nat} {e f g : Entry} {p q : ProtPart} {w : SecondRec}

theorem Entry.Kept.trans (h : e.Kept f) (k : f.Kept g) : e.Kept g where
  key := k.key.trans h.key
  bk := k.bk.trans h.bk
  roles := k.roles.trans h.roles
  state := k.state.trans h.state
  marker := k.marker.trans h.marker
  prot := k.prot.trans h.prot
  request := k.request.trans h.request
  flag := k.flag.trans h.flag
  preempted he := k.preempted (h.preempted he)

theorem prot_of_outline (h : f.outline = e.outline) : f.prot = e.prot := by
  have hs := congrArg Entry.prot h
  exact hs

theorem request_of_outline (h : f.outline = e.outline) : f.request = e.request := by
  have hs := congrArg Entry.request h
  exact hs

theorem paths_of_outline (h : f.outline = e.outline) : f.paths = e.paths := by
  have hs := congrArg Entry.paths h
  exact hs

theorem Entry.Kept.of_outline (h : f.outline = e.outline) : e.Kept f := by
  have hkey := congrArg Entry.key h
  have hroles := congrArg Entry.roles h
  have hflag := congrArg Entry.bridgeFlag h
  exact ⟨hkey, bk_of_outline h, hroles, state_of_outline h, marker_of_outline h, prot_of_outline h, request_of_outline h, hflag,
    preempted_of_outline h⟩

theorem Entry.Closed.kept (h : e.Closed v f) : e.Kept f := by
  obtain ⟨hkey, hbk, hroles, hstate⟩ := h.parts
  have hmarker := congrArg Entry.marker h.rest
  have hprot := congrArg Entry.prot h.rest
  have hrequest := congrArg Entry.request h.rest
  have hflag := congrArg Entry.bridgeFlag h.rest
  have hpreempted := congrArg Entry.preempted h.rest
  exact ⟨hkey, hbk, hroles, hstate, hmarker, hprot, hrequest, hflag, hpreempted.trans⟩

theorem paths_of_still (h : f.still = e.still) : f.paths = e.paths := by
  have hs := congrArg Entry.paths h
  exact hs

theorem Entry.Kept.tableRow {cfg : Cfg} {ms : Nat} {work prot : PathClass} (h : e.Kept f) (hrow : tableRow cfg ms f work prot n p q) :
    tableRow cfg ms e work prot n p q := by
  simpa only [Machine.tableRow, bridgingAsks, failedAsks, h.flag, h.request] using hrow

theorem Entry.Kept.asked (h : e.Kept f) (hasked : askedAgain t i f) : askedAgain t i e := by
  simpa only [askedAgain, h.key, h.bk] using hasked

/-- The judgement of a drop that stands in an earlier state as it was judged. -/
theorem Judged.of_kept (h : Judged unique i f p q t u) (hk : e.Kept f) (hcfg : t.cfg = s.cfg) (hphase : t.phase = s.phase) (hclock : t.clock = s.clock) :
    Judged unique i e p q s u where
  part := h.part
  selector hn hu x hx ho :=
    h.selector hn hu x (by rw [entryOut_of_parts (self_of_cfg hcfg) hk.roles hk.bk, hx]) (by rw [hk.key, ho])
  said hn hrun hp := by
    rw [← hk.key, ← now_of_clock hclock]
    exact h.said hn (hphase.trans hrun) (hk.preempted hp)

/-- Work for other entries keeps the judgement. -/
theorem Judged.tends (h : Judged unique i e p q s t) (ht : Tends (· ≠ i) K t u) (hg : t.entry i = some g) (hcharged : g.state ≠ .charged)
    (hpre : e.preempted = none → g.preempted = none) (hK : unique → ¬ K e.key) : Judged unique i e p q s u := by
  obtain ⟨x, hx, hxg⟩ := ht.to_works.outline hg hcharged
  refine h.keep (by rw [hx, hg, Option.bind_some, Option.bind_some, prot_of_outline hxg]) (fun hu o ho => ?_)
    (fun hp => ht.said i g (fun hn => hn rfl) hg hcharged (hpre hp))
  exact ht.owned o e.key (hK hu) (ht.works.owner o e.key id ho)

/-- The attempts of a protected drop follow the table of R138. -/
theorem attemptsQuiet_judged (he : s.entry i = some e) (hactive : e.state = .active) (hp : e.prot = some p)
    (hw : e.paths.bind Paths.working = some w) (hn : resendsAfter (protClassOf (e.paths.bind Paths.protection)) p.resends = n) :
    ∃ q, Judged unique i e p q s (attemptsQuiet s i) ∧ (q.resends = n + 1 → askedAgain (attemptsQuiet s i) i e)
      ∧ tableRow s.cfg s.nowMs e (classOf w) (protClassOf (e.paths.bind Paths.protection)) n p q := by
  obtain ⟨q, hjudged, hmarks, hrow⟩ := protectionBoundary_judged (unique := unique) he hactive hp hw hn
  have hquiet : Quiet (fun _ => True) (fun _ => True) s (restartLatches (protectionBoundary s i) i) :=
    (protectionBoundary_quiet trivial (keysIn_true s)).trans (restartLatches_quiet trivial)
  obtain ⟨hprot, hrequest⟩ := restartLatches_parts (protectionBoundary s i) i
  have hlatched : changesOnly [.entries] (protectionBoundary s i) (restartLatches (protectionBoundary s i) i) := restartLatches_changesOnly _ i
  have hafter := hjudged.keep_parts hprot (hlatched .switch (by decide)) (changesOnly_site hlatched (by decide))
  have hmarked (hq : q.resends = n + 1) : marksOn i q (restartLatches (protectionBoundary s i) i) := by
    obtain ⟨hr, hwants⟩ := hmarks hq
    exact ⟨hrequest.trans hr, hwants⟩
  obtain ⟨f, hf, hstill⟩ := hquiet.entry he
  unfold attemptsQuiet
  generalize restartLatches (protectionBoundary s i) i = a at hafter hmarked hf
  obtain ⟨hsent, hswitch⟩ := attemptSwitchreq_parts a i
  obtain ⟨hbridged, hkept, hswitch'⟩ := attemptBridge_parts (attemptSwitchreq a i) i
  have hbridge : Quiet (fun _ => True) (fun _ => True) (attemptSwitchreq a i) (attemptBridge (attemptSwitchreq a i) i) := attemptBridge_quiet trivial
  refine ⟨q, (hafter.keep_parts hsent hswitch (attemptSwitchreq_site a i)).keep_parts hbridged hswitch' (attemptBridge_site _ i), fun hq => ?_, hrow⟩
  have hfprot : f.prot = some q := by simpa [hf] using hafter.part
  have hfbk : f.bk = e.bk := by
    have hb := congrArg Entry.bk hstill
    exact hb
  have hasked : askedAgain (attemptSwitchreq a i) i e := by
    have h := attemptSwitchreq_asks hf hfprot (hmarked hq)
    simpa only [askedAgain, key_of_still hstill, hfbk] using h
  exact askedAgain_keep hasked hkept (hbridge.queue _) (self_of_cfg (hbridge.changes .cfg (by decide)))

/-- The last restart of the latches leaves what the controller has written of a drop. -/
theorem latches_parts (hi : i < 64) (s : State) :
    ((forEach indexes s restartLatches).entry i).bind Entry.prot = (s.entry i).bind Entry.prot
      ∧ ((forEach indexes s restartLatches).entry i).bind Entry.request = (s.entry i).bind Entry.request
      ∧ changesOnly [.entries] s (forEach indexes s restartLatches) := by
  obtain ⟨u, hu, hown⟩ := entry_forEach_own entry_restartLatches_ne hi s
  obtain ⟨hprot, hrequest⟩ := restartLatches_parts u i
  rw [hown, hprot, hrequest, hu]
  exact ⟨rfl, rfl, forEach_changesOnly restartLatches_changesOnly _ s⟩

/-- The attempts of a boundary, and its last restart of the latches, judge a protected drop by its two records (R138). -/
theorem attempts_judge (hi : i < 64) (he : s.entry i = some e) (hactive : e.state = .active) (hmarker : e.marker = none) (hp : e.prot = some p)
    (hw : e.paths.bind Paths.working = some w) (hn : resendsAfter (protClassOf (e.paths.bind Paths.protection)) p.resends = n)
    (hk : keysIn (· ≠ i) K s) (hK : unique → ¬ K e.key) :
    ∃ f q, (forEach indexes (attemptsAll s) restartLatches).entry i = some f ∧ f.paths = e.paths ∧ f.prot = some q
      ∧ Judged unique i e p q s (forEach indexes (attemptsAll s) restartLatches)
      ∧ (q.resends = n + 1 → askedAgain (forEach indexes (attemptsAll s) restartLatches) i e)
      ∧ tableRow s.cfg s.nowMs e (classOf w) (protClassOf (e.paths.bind Paths.protection)) n p q := by
  obtain ⟨u, hu, -, hafter⟩ := attempts_around hi hk
  obtain ⟨a, ha, hae⟩ := hu.to_works.outline he (by simp [hactive])
  have hkept := Entry.Kept.of_outline hae
  have hpaths := paths_of_outline hae
  have haactive : a.state = .active := hkept.state.trans hactive
  obtain ⟨q, hjudged, hasked, hrow⟩ := attemptsQuiet_judged (unique := unique) (n := n) ha haactive (hkept.prot.trans hp) (hpaths ▸ hw) (hpaths ▸ hn)
  have hcfg : u.cfg = s.cfg := hu.works.changes .cfg (by decide)
  have hms : u.nowMs = s.nowMs := hu.works.changes .nowMs (by decide)
  rw [hcfg, hms, hpaths] at hrow
  rw [attemptsOne_quiet ha (by rw [hkept.marker, hmarker])] at hafter
  have hown : Quiet (fun _ => True) (fun _ => True) u (attemptsQuiet u i) := attemptsQuiet_quiet trivial (keysIn_true u)
  obtain ⟨b, hb, hba⟩ := hown.entry ha
  have hbstate : b.state = .active := (state_of_still hba).trans haactive
  have hbpre : a.preempted = none → b.preempted = none := by
    have h := congrArg Entry.preempted hba
    exact h.trans
  have hall := hjudged.tends hafter hb (by simp [hbstate]) hbpre (by rw [hkept.key]; exact hK)
  obtain ⟨c, hc, hcb⟩ := hafter.to_works.outline hb (by simp [hbstate])
  obtain ⟨hlprot, hlrequest, hlchanges⟩ := latches_parts hi (attemptsAll s)
  obtain ⟨f, hf, hfc⟩ := (latches_quiet (attemptsAll s)).entry hc
  have hlast := hall.keep_parts hlprot (hlchanges .switch (by decide)) (changesOnly_site hlchanges (by decide))
  refine ⟨f, q, hf, ?_, by simpa [hf] using hlast.part, hlast.of_kept hkept hcfg (hu.works.changes .phase (by decide))
    (hu.works.changes .clock (by decide)), fun hq => hkept.asked ?_, hkept.tableRow hrow⟩
  · rw [paths_of_still hfc, paths_of_outline hcb, paths_of_still hba, hpaths]
  · refine askedAgain_keep (hasked hq) ?_ ?_ ?_
    · rw [hlrequest, hc, hb, Option.bind_some, Option.bind_some, request_of_outline hcb]
    · rw [queue_of_lane (changesOnly_lane hlchanges (by decide))]
      exact hafter.works.queue _
    · have hcfg : (attemptsAll s).cfg = (attemptsQuiet u i).cfg := hafter.works.changes .cfg (by decide)
      exact self_of_cfg ((hlchanges .cfg (by decide)).trans hcfg)

/-- A drop that does not end comes to the attempts of the boundary with its records closed (R125). -/
theorem windows_keep (hi : i < 64) (he : s.entry i = some e) (hactive : e.state = .active) (hend : e.bk.winEnd ≠ v) (hpaths : e.paths ≠ none) :
    ∃ f w, (windowsMoved v (secondClosed v s)).entry i = some f ∧ e.Kept f ∧ f.paths.bind Paths.working = some w := by
  obtain ⟨p, hp⟩ := Option.ne_none_iff_exists'.1 hpaths
  obtain ⟨a, ha, hclosed⟩ := entry_secondClosed (t := v) hi he
  obtain ⟨w, o, r, hrecords, -⟩ := hclosed.records p hactive hp
  have hkept := hclosed.kept
  have haactive : a.state = .active := hkept.state.trans hactive
  obtain ⟨b, hb, hba⟩ := releases_stays (v := v) hi ha (by simp [haactive]) (by simp [hkept.bk, hend])
  have hbactive : b.state = .active := (state_of_outline hba).trans haactive
  obtain ⟨c, hc, hcb⟩ := activations_stays (v := v) hi hb (by simp [hbactive]) (by simp [hbactive])
  have hca := hcb.trans hba
  exact ⟨c, w, hc, hkept.trans (.of_outline hca), by rw [paths_of_outline hca, hrecords]; rfl⟩

/-- An Active drop's protection state follows the table of R138 on its two closed records (R137 to R142). -/
theorem boundary_protects (hi : i < 64) (he : s.entry i = some e) (hactive : e.state = .active) (hend : e.bk.winEnd ≠ v) (hmarker : e.marker = none)
    (hp : e.prot = some p) (hpaths : e.paths ≠ none) :
    ∃ f w q, (boundary v s).entry i = some f ∧ f.paths.bind Paths.working = some w ∧ f.prot = some q
      ∧ Judged (identityLaw s) i e p q s (boundary v s)
      ∧ (q.resends = resendsAfter (protClassOf (f.paths.bind Paths.protection)) p.resends + 1 → askedAgain (boundary v s) i e)
      ∧ tableRow s.cfg (boundary v s).nowMs e (classOf w) (protClassOf (f.paths.bind Paths.protection))
          (resendsAfter (protClassOf (f.paths.bind Paths.protection)) p.resends) p q := by
  obtain ⟨a, w, ha, hkept, hw⟩ := windows_keep hi he hactive hend hpaths
  have hworks : Works (fun _ => True) (fun _ => True) s (windowsMoved v (secondClosed v s)) :=
    (secondClosed_works s v).trans ((scan_works (fun _ _ hj hk => releaseOne_works hj hk v) (fun _ _ => trivial) (keysIn_true _)).trans
      (scan_works (fun _ _ hj hk => activateOne_works hj hk v) (fun _ _ => trivial) (keysIn_true _)))
  have hkeys : keysIn (· ≠ i) (fun k => identityLaw s → k ≠ e.key) (windowsMoved v (secondClosed v s)) :=
    keysIn_of_back hworks.back (fun j g hj hg hid => keysIn_of_identity hid he j g hj hg)
  obtain ⟨f, q, hf, hfpaths, hfprot, hjudged, hasked, hrow⟩ := attempts_judge (unique := identityLaw s) hi ha (hkept.state.trans hactive)
    (hkept.marker.trans hmarker) (hkept.prot.trans hp) hw rfl hkeys (fun hid hn => hn hid hkept.key)
  have hcfg : (windowsMoved v (secondClosed v s)).cfg = s.cfg := hworks.changes .cfg (by decide)
  have hms : (windowsMoved v (secondClosed v s)).nowMs = (boundary v s).nowMs :=
    (hworks.changes .nowMs (by decide)).trans (boundary_nowMs v s).symm
  rw [hcfg, hms] at hrow
  refine ⟨f, w, q, hf, by rw [hfpaths, hw], hfprot, ?_, fun hq => hkept.asked ?_, hkept.tableRow ?_⟩
  · exact hjudged.of_kept hkept hcfg (hworks.changes .phase (by decide)) (hworks.changes .clock (by decide))
  · exact hasked (by rw [← hfpaths]; exact hq)
  · rw [hfpaths]
    exact hrow

end Drop

end Sys2Proof.Machine

namespace Sys2Proof.Machine

/-! ### A second boundary delivered -/

section Delivered
variable {s : State}

/-- The clock after a boundary is the one in which it was delivered (R24). -/
theorem delivered_clock (s : State) (v : Nat) : (boundary v (atBoundary s)).clock = s.clock.nextSecond := boundary_clock v (atBoundary s)

theorem delivered_nowMs (s : State) (v : Nat) : (boundary v (atBoundary s)).nowMs = s.nowMs + (1000 - s.clock.ran) := boundary_nowMs v (atBoundary s)

theorem delivered_changesOnly (s : State) (v : Nat) :
    changesOnly [.nowMs, .clock, .lane, .entries, .claims, .switch, .mons, .bridged, .bill, .site] s (boundary v (atBoundary s)) :=
  changesOnly_trans (changesOnly_mono (atBoundary_changesOnly s) (by decide)) (changesOnly_mono (boundary_changesOnly v (atBoundary s)) (by decide))

theorem noMarkers_of_nothingEnds {v : Nat} (h : nothingEnds s v) : noMarkers s := fun i e he => (h i e he).1

theorem noEnds_of_nothingEnds {v : Nat} (h : nothingEnds s v) : noEnds v s := fun i e _ he => (h i e he).2

/-- Of an Active entry the table of R179 reads the records and the notices, which stand at the boundary as before it. -/
theorem placedByTable_delivered {t : State} {i : Nat} {f : Entry} {m : Meter} (hactive : f.state = .active)
    (h : placedByTable (atBoundary s) t i f m) : placedByTable s t i f m := by
  have hplaced {p : Nat} {x : MatchRecord} (hp : placedIn (atBoundary s) t i f m p x) : placedIn s t i f m p x :=
    ⟨hp.1, fun l hl => by simp [hactive] at hl⟩
  obtain ⟨hfound, hnone⟩ := h
  exact ⟨fun p x hp hx => ⟨fun ho => hplaced ((hfound p x hp hx).1 ho), (hfound p x hp hx).2⟩,
    fun hn => ⟨fun p hp => hplaced ((hnone hn).1 p hp), (hnone hn).2⟩⟩

end Delivered

/-- Settles O54: the MARK timer by its own rule; a boundary visit by visit, each clause from what the visits of other entries leave of one
entry, its layers, its output and its notice. -/
theorem markAndBoundary : Obligations.MarkAndBoundary := by
  refine ⟨fun s d hd hs => ⟨fun hw hj => markTimer_queues hd hs hw hj, fun hw => markTimer_waits hd hs hw⟩, fun s hs hl => ?_⟩
  obtain ⟨hsynced, hseconds, hdeadline, hwhole, hcarried, hlimit⟩ := nextSecond_time s.clock
  have hclock := delivered_clock s (s.clock.seconds + 1)
  refine ⟨_, exec_secondBoundary hs hl, by rw [hclock, hsynced, hs], by rw [hclock, hseconds], by rw [hclock, hdeadline], delivered_nowMs s _,
    by rw [hclock]; exact hwhole, by rw [hclock]; exact hcarried, by rw [hclock]; exact hlimit,
    ?starts, ?ends, ?installed, ?released, ?counted, ?latches, classesByTable_holds, ?judged, ?bound, ?overlays, delivered_changesOnly s _⟩
  case starts => exact fun i e hi he hheld hstart hmarker => boundary_starts (s := atBoundary s) hi he hheld hstart hmarker
  case ends => exact fun i e hi he hactive hend hm => boundary_ends (s := atBoundary s) hi he hactive hend hm
  case installed =>
    intro hid hcells houtputs i e hi he hheld hstart hmarker hgroup hapart
    have h := boundary_installs (s := atBoundary s) hid hcells houtputs hi he hheld hmarker hgroup hapart
    rw [hstart] at h
    exact ⟨h.working, fun p hdrop hp hlt => h.output hdrop p hp hlt⟩
  case released =>
    intro hid i e hi he hactive hend
    have h := boundary_disowns (s := atBoundary s) hid hi he hactive hend
    exact ⟨h.working, h.protection, h.output⟩
  case counted => exact fun i e m p hi he hactive hp hm hc => boundary_counts (s := atBoundary s) hi he hactive hp hm hc
  case latches => exact fun i f n hi hf hactive hn => boundary_latches (s := atBoundary s) hi hf hactive hn
  case judged =>
    intro i e p hi he hactive hend hmarker hp hpaths
    obtain ⟨f, w, q, hf, hw, hq, hjudged, hasked, hrow⟩ :=
      boundary_protects (s := atBoundary s) (v := s.clock.seconds + 1) hi he hactive hend hmarker hp hpaths
    exact ⟨f, w, _, q, hf, hw, rfl, hq, hrow, hasked, hjudged.selector, hjudged.said⟩
  case bound =>
    intro i e m hi he hheld hstart _ hpaths hm hunbound hrun hwaiting hends halone
    exact placedByTable_delivered rfl (boundary_binds (s := atBoundary s) hrun (noMarkers_of_nothingEnds hends) (noEnds_of_nothingEnds hends) hi he hheld
      hstart hpaths hm hunbound hwaiting halone)
  case overlays =>
    intro hends hlen port lane hlane hw
    exact boundary_overlays (s := atBoundary s) (noMarkers_of_nothingEnds hends) (noEnds_of_nothingEnds hends) hlen hlane hw

end Sys2Proof.Machine

namespace Sys2Proof.Machine

/-! ### The keys that the calendar holds -/

/-- The key of the entry of an index, absent where the place is free. -/
def State.keyAt (s : State) (i : Nat) : Option Key := (s.entry i).map Entry.key

section Keys
variable {s t : State} {i : Nat} {k : Key}

theorem keyAt_of_entry {e : Entry} (he : s.entry i = some e) : s.keyAt i = some e.key := by rw [State.keyAt, he, Option.map_some]

theorem exists_of_keyAt (h : s.keyAt i = some k) : ∃ e, s.entry i = some e ∧ e.key = k := Option.map_eq_some_iff.1 h

theorem keyAt_of_entries (h : t.entries = s.entries) (i : Nat) : t.keyAt i = s.keyAt i := by rw [State.keyAt, entry_of_entries h, State.keyAt]

theorem identityLaw_iff (s : State) :
    identityLaw s ↔ s.entries.length = 64 ∧ ∀ i j k, s.keyAt i = some k → s.keyAt j = some k → i = j := by
  refine and_congr Iff.rfl ⟨fun h i j k hi hj => ?_, fun h i j e f he hf hkey => ?_⟩
  · obtain ⟨e, he, rfl⟩ := exists_of_keyAt hi
    obtain ⟨f, hf, hkey⟩ := exists_of_keyAt hj
    exact h i j e f he hf hkey.symm
  · exact h i j e.key (keyAt_of_entry he) (hkey ▸ keyAt_of_entry hf)

/-- A search for a key finds it exactly where a place of the calendar holds it (R48). -/
theorem lookup_isSome_iff (hl : s.entries.length = 64) (k : Key) : (lookup s k).isSome ↔ ∃ i, s.keyAt i = some k := by
  constructor
  · intro h
    obtain ⟨i, hi⟩ := Option.isSome_iff_exists.1 h
    obtain ⟨e, he, hkey⟩ := firstEntry_spec s _ i hi
    exact ⟨i, by rw [keyAt_of_entry he, eq_of_beq hkey]⟩
  · rintro ⟨i, hi⟩
    obtain ⟨e, he, hkey⟩ := exists_of_keyAt hi
    by_contra hn
    have hlt : i < 64 := hl ▸ placeAt_lt s.entries i e he
    have hmiss := firstEntry_none (Option.not_isSome_iff_eq_none.1 hn) i e hlt he
    simp [hkey] at hmiss

theorem bridgedLaw_iff (hl : s.entries.length = 64) :
    bridgedLaw s ↔ s.bridged.keys.Nodup ∧ s.bridged.keys.length ≤ 32 ∧ ∀ k ∈ s.bridged.keys, ∃ i, s.keyAt i = some k := by
  simp only [bridgedLaw, lookup_isSome_iff hl]

end Keys

/-! ### Work that keeps both laws -/

/-- Work that keeps the calendar's law of identity (R47) and, in a calendar that has it, the law of the bridged-key set (R150). -/
structure KeepsLaws (s t : State) : Prop where
  identity : identityLaw s → identityLaw t
  bridged  : identityLaw s → bridgedLaw s → bridgedLaw t

section Rules
variable {s t u : State} {i : Nat}

theorem KeepsLaws.refl (s : State) : KeepsLaws s s := ⟨id, fun _ => id⟩

theorem KeepsLaws.trans (h : KeepsLaws s t) (k : KeepsLaws t u) : KeepsLaws s u where
  identity hs := k.identity (h.identity hs)
  bridged hs hb := k.bridged (h.identity hs) (h.bridged hs hb)

/-- Work that brings no key in, and takes each key that leaves the calendar out of the bridged-key set as well. -/
theorem KeepsLaws.of_table (hlen : t.entries.length = s.entries.length) (hback : ∀ i k, t.keyAt i = some k → s.keyAt i = some k)
    (hset : t.bridged.keys.Sublist s.bridged.keys) (hheld : ∀ i k, s.keyAt i = some k → k ∈ t.bridged.keys → ∃ j, t.keyAt j = some k) :
    KeepsLaws s t where
  identity hs := by
    obtain ⟨hl, huniq⟩ := (identityLaw_iff s).1 hs
    exact (identityLaw_iff t).2 ⟨hlen.trans hl, fun i j k hi hj => huniq i j k (hback i k hi) (hback j k hj)⟩
  bridged hs hb := by
    obtain ⟨hl, -⟩ := (identityLaw_iff s).1 hs
    obtain ⟨hnodup, hcount, hin⟩ := (bridgedLaw_iff hl).1 hb
    refine (bridgedLaw_iff (hlen.trans hl)).2 ⟨hnodup.sublist hset, hset.length_le.trans hcount, fun k hk => ?_⟩
    obtain ⟨i, hi⟩ := hin k (hset.subset hk)
    exact hheld i k hi hk

/-- Work that leaves every key in its place. -/
theorem KeepsLaws.of_keys (hlen : t.entries.length = s.entries.length) (hkeys : ∀ i, t.keyAt i = s.keyAt i)
    (hset : t.bridged.keys.Sublist s.bridged.keys) : KeepsLaws s t :=
  .of_table hlen (fun i _ h => hkeys i ▸ h) hset (fun i _ h _ => ⟨i, hkeys i ▸ h⟩)

/-- Work that touches neither the calendar nor the bridged-key set. -/
theorem KeepsLaws.of_same (he : t.entries = s.entries) (hb : t.bridged = s.bridged) : KeepsLaws s t :=
  .of_keys (congrArg List.length he) (keyAt_of_entries he) (hb ▸ .refl _)

theorem KeepsLaws.of_changesOnly {ps : List Part} (h : changesOnly ps s t) (he : Part.entries ∉ ps)
    (hb : Part.bridged ∉ ps) : KeepsLaws s t :=
  .of_same (h .entries he) (h .bridged hb)

theorem forEach_keepsLaws {f : State → Nat → State} (hf : ∀ s i, KeepsLaws s (f s i)) (l : List Nat) (s : State) :
    KeepsLaws s (forEach l s f) :=
  forEach_relates KeepsLaws.refl (fun _ _ _ => KeepsLaws.trans) (fun s i _ => hf s i) s

/-- An entry written anew under its own key. -/
theorem setEntry_keepsLaws {e f : Entry} (he : s.entry i = some e) (hf : f.key = e.key) : KeepsLaws s (setEntry s i f) := by
  refine .of_keys (List.length_set ..) (fun j => ?_) (.refl _)
  by_cases hij : i = j
  · subst hij
    rw [keyAt_of_entry (entry_setEntry_same s i f (placeAt_lt _ _ _ he)), keyAt_of_entry he, hf]
  · rw [State.keyAt, entry_setEntry_ne s i j f hij, State.keyAt]

theorem updEntry_keepsLaws {f : Entry → Entry} (hf : ∀ e, (f e).key = e.key) : KeepsLaws s (updEntry s i f) := by
  unfold updEntry
  split
  · exact setEntry_keepsLaws ‹_› (hf _)
  · exact .refl s

theorem dropBridged_keepsLaws (s : State) (k : Key) : KeepsLaws s (dropBridged s k) := .of_keys rfl (fun _ => rfl) List.filter_sublist

/-- A place freed: its key leaves the bridged-key set with it (R49). -/
theorem freeEntry_keepsLaws (s : State) (i : Nat) : KeepsLaws s (freeEntry s i) := by
  cases he : s.entry i with
  | none => rw [show freeEntry s i = s by simp [freeEntry, he]]; exact .refl s
  | some e =>
    have hkey (j : Nat) : (freeEntry s i).keyAt j = if i = j then none else s.keyAt j := by
      rw [State.keyAt, entry_freeEntry]
      split <;> rfl
    have hset : (freeEntry s i).bridged.keys = s.bridged.keys.filter (fun x => x != e.key) := by simp [freeEntry, he, dropBridged]
    refine .of_table ?_ (fun j k hj => ?_) (hset ▸ List.filter_sublist) (fun j k hj hk => ⟨j, ?_⟩)
    · simp [freeEntry, he]
    · rw [hkey] at hj
      split at hj
      · exact nomatch hj
      · exact hj
    · rw [hkey, if_neg, hj]
      rintro rfl
      obtain rfl : e.key = k := Option.some.inj ((keyAt_of_entry he).symm.trans hj)
      rw [hset] at hk
      simp at hk

/-- A BRIDGE is applied to a key of the calendar that the set has room for, or takes a key out (R150). -/
theorem applyBridge_keepsLaws (s : State) (k : Key) (on : Bool) : KeepsLaws s (applyBridge s k on) := by
  unfold applyBridge
  split_ifs with hknown _ hin hroom
  · exact .refl s
  · exact .refl s
  · refine ⟨id, fun _ hb => ?_⟩
    obtain ⟨hnodup, -, hall⟩ := hb
    have hnew : k ∉ s.bridged.keys := by simpa using hin
    have hfound : (lookup s k).isSome := by simpa [Option.isSome_iff_ne_none] using hknown
    refine ⟨List.concat_eq_append ▸ hnodup.concat hnew, ?_, fun x hx => ?_⟩
    · simpa using hroom
    · obtain hx | hx := List.mem_append.1 hx
      · exact hall x hx
      · exact (List.mem_singleton.1 hx) ▸ hfound
  · exact .of_keys rfl (fun _ => rfl) (.refl _)
  · exact dropBridged_keepsLaws s k

/-- A new entry under a key that the calendar does not hold (R47). -/
theorem allocate_keepsLaws {k : Key} (hk : identityLaw s → ∀ i, s.keyAt i ≠ some k) (bk : Booking) (st : EntryState) (life : Option Nat)
    (b : Bool) : KeepsLaws s (allocate s k bk st life b) := by
  unfold allocate
  split
  · rename_i i hfree
    obtain ⟨hlt, hnone⟩ := firstFree_spec _ _ hfree
    set e := freshEntry k bk (rolesOf s.ring k bk s.self) st life b
    have hkey (j : Nat) : (setEntry s i e).keyAt j = if i = j then some k else s.keyAt j := by
      split
      · rename_i hij
        exact hij ▸ keyAt_of_entry (entry_setEntry_same s i e hlt)
      · rename_i hij
        rw [State.keyAt, entry_setEntry_ne s i j e hij, State.keyAt]
    have hlen : (setEntry s i e).entries.length = s.entries.length := List.length_set ..
    refine ⟨fun hs => ?_, fun hs hb => ?_⟩
    · obtain ⟨hl, huniq⟩ := (identityLaw_iff s).1 hs
      refine (identityLaw_iff _).2 ⟨hlen.trans hl, fun x y q hx hy => ?_⟩
      rw [hkey] at hx hy
      split at hx <;> split at hy
      · rw [← ‹i = x›, ← ‹i = y›]
      · exact absurd (hx ▸ hy) (hk hs y)
      · exact absurd (hy ▸ hx) (hk hs x)
      · exact huniq x y q hx hy
    · obtain ⟨hl, -⟩ := (identityLaw_iff s).1 hs
      obtain ⟨hnodup, hcount, hin⟩ := (bridgedLaw_iff hl).1 hb
      refine (bridgedLaw_iff (hlen.trans hl)).2 ⟨hnodup, hcount, fun q hq => ?_⟩
      obtain ⟨j, hj⟩ := hin q hq
      refine ⟨j, ?_⟩
      rw [hkey, if_neg, hj]
      rintro rfl
      rw [State.keyAt, show s.entry i = none from hnone] at hj
      exact nomatch hj
  · exact .refl s

end Rules

end Sys2Proof.Machine

namespace Sys2Proof.Machine

/-! ### The lane switch, the monitors, notices and queues keep both laws -/

section Blocks
variable {s t : State} {i : Nat} {e : Entry}

theorem raiseNotice_keepsLaws (s : State) (src : Nat) (c : NoticeBody) : KeepsLaws s (raiseNotice s src c) :=
  .of_changesOnly (raiseNotice_changesOnly s src c) (by decide) (by decide)

theorem join_keepsLaws (s : State) (d : Dir) (n : Nat) (b : Body) : KeepsLaws s (join s d n b) :=
  .of_changesOnly (join_changesOnly s d n b) (by decide) (by decide)

theorem withNowMs_keepsLaws (s : State) (v : Nat) : KeepsLaws s (s.withNowMs v) := .of_same rfl rfl
theorem withSwitch_keepsLaws (s : State) (v : Switch) : KeepsLaws s (s.withSwitch v) := .of_same rfl rfl
theorem withPending_keepsLaws (s : State) (v : List Instr) : KeepsLaws s (s.withPending v) := .of_same rfl rfl
theorem withClock_keepsLaws (s : State) (v : Clock) : KeepsLaws s (s.withClock v) := .of_same rfl rfl
theorem withLane_keepsLaws (s : State) (v : Lanes) : KeepsLaws s (s.withLane v) := .of_same rfl rfl
theorem withClaims_keepsLaws (s : State) (v : Claims) : KeepsLaws s (s.withClaims v) := .of_same rfl rfl
theorem withRecov_keepsLaws (s : State) (v : Recall) : KeepsLaws s (s.withRecov v) := .of_same rfl rfl
theorem withBill_keepsLaws (s : State) (v : Billing) : KeepsLaws s (s.withBill v) := .of_same rfl rfl
theorem withSite_keepsLaws (s : State) (v : Site) : KeepsLaws s (s.withSite v) := .of_same rfl rfl

theorem setSlot_keepsLaws (s : State) (n : Nat) (c : Option ClaimSlot) : KeepsLaws s (setSlot s n c) := withClaims_keepsLaws ..

theorem concludeSlot_keepsLaws (s : State) (n : Nat) (c : ClaimSlot) (o : Outcome) : KeepsLaws s (concludeSlot s n c o) :=
  .of_changesOnly (concludeSlot_changesOnly s n c o) (by decide) (by decide)

/-- An entry written anew after work that has left the calendar alone since it was read. -/
theorem setEntry_keepsLaws_of_same (he : s.entry i = some e) (ht : t.entries = s.entries) {f : Entry} (hf : f.key = e.key) :
    KeepsLaws t (setEntry t i f) := setEntry_keepsLaws ((entry_of_entries ht i).trans he) hf

theorem clearWorkCells_changesOnly (s : State) (e : Entry) : changesOnly [.switch, .mons, .site] s (clearWorkCells s e) := by
  unfold clearWorkCells
  split
  · exact forEach_changesOnly (fun u _ => updCell_changesOnly u _ _ _) _ s
  · exact changesOnly_refl _ s

theorem clearProtCells_changesOnly (s : State) (e : Entry) : changesOnly [.switch, .mons, .site] s (clearProtCells s e) := by
  unfold clearProtCells
  split
  · exact forEach_changesOnly (fun u _ => updCell_changesOnly u _ _ _) _ s
  · exact changesOnly_refl _ s

theorem unwatchProtection_changesOnly (s : State) (e : Entry) : changesOnly [.mons, .site] s (unwatchProtection s e) :=
  forEach_changesOnly (fun u _ => updMon_changesOnly u _ _ _) _ s

theorem writeSelector_keepsLaws (s : State) (i : Nat) (v : Selector) : KeepsLaws s (writeSelector s i v) := by
  unfold writeSelector
  split
  · exact .refl s
  · split
    · exact .refl s
    · split
      · have hout (p : Nat) : KeepsLaws s (updOutput s p (fun o => { o with selector := v })) := withSwitch_keepsLaws ..
        dsimp only
        split
        · exact (hout _).trans (updEntry_keepsLaws (fun _ => by rfl))
        · exact hout _
      · exact .refl s

theorem judgePreempted_keepsLaws (k : Key) (s : State) (i : Nat) : KeepsLaws s (judgePreempted k s i) := by
  have hjudged (b : Bool) (c : NoticeBody) : KeepsLaws s (raiseNotice (writePreempted s i b) (sourceEntry i) c) :=
    (updEntry_keepsLaws (fun _ => by rfl)).trans (raiseNotice_keepsLaws ..)
  unfold judgePreempted
  split
  · exact .refl s
  · split
    · split <;> split
      · exact .refl s
      · exact hjudged _ _
      · exact hjudged _ _
      · exact .refl s
    · exact .refl s

theorem judgeAllPreempted_keepsLaws (s : State) (k : Key) : KeepsLaws s (judgeAllPreempted s k) :=
  forEach_keepsLaws (judgePreempted_keepsLaws k) _ s

theorem closePaths_keepsLaws (s : State) (i : Nat) : KeepsLaws s (closePaths s i) := by
  unfold closePaths
  split
  · exact .refl s
  · split
    · exact setEntry_keepsLaws ‹_› (by rfl)
    · exact .refl s

theorem closeRecords_keepsLaws (t : Nat) (s : State) : KeepsLaws s (closeRecords t s) :=
  KeepsLaws.trans (.of_changesOnly (closeLanes_changesOnly t s) (by decide) (by decide)) (forEach_keepsLaws closePaths_keepsLaws _ _)

/-! ### The protection controller keeps both laws -/

theorem attemptSwitchreq_keepsLaws (s : State) (i : Nat) : KeepsLaws s (attemptSwitchreq s i) := by
  unfold attemptSwitchreq
  split
  · exact .refl s
  · rename_i e he
    split
    · exact .refl s
    · split
      · exact (join_keepsLaws ..).trans (setEntry_keepsLaws_of_same he (join_entries ..) (by rfl))
      · exact .refl s

theorem attemptMarked_keepsLaws (h : KeepsLaws s t) (i : Nat) : KeepsLaws s (attemptMarked s t i) := by
  unfold attemptMarked
  split
  · exact h.trans (attemptSwitchreq_keepsLaws t i)
  · exact h

theorem changeState_keepsLaws (s : State) (i : Nat) (p : ProtPart) (c : ProtCause) : KeepsLaws s (changeState s i p c) := by
  unfold changeState
  split
  · exact .refl s
  · rename_i e he
    split
    · exact .refl s
    · refine KeepsLaws.trans ?_ (raiseNotice_keepsLaws ..)
      split
      · exact setEntry_keepsLaws he (by rfl)
      · exact KeepsLaws.trans (setEntry_keepsLaws he (by rfl)) (writeSelector_keepsLaws ..)

theorem expireHoldOff_keepsLaws (s : State) (i : Nat) : KeepsLaws s (expireHoldOff s i) := by
  unfold expireHoldOff
  split
  · exact .refl s
  · split
    · exact .refl s
    · split
      · dsimp only
        split
        · exact (changeState_keepsLaws ..).trans (changeState_keepsLaws ..)
        · exact changeState_keepsLaws ..
      · exact .refl s

theorem enterHoldOff_keepsLaws (s : State) (i n : Nat) (c : ProtCause) : KeepsLaws s (enterHoldOff s i n c) := by
  unfold enterHoldOff
  dsimp only
  split
  · exact (changeState_keepsLaws ..).trans (expireHoldOff_keepsLaws ..)
  · exact changeState_keepsLaws ..

theorem enterRestoreWait_keepsLaws (s : State) (i n : Nat) (c : ProtCause) : KeepsLaws s (enterRestoreWait s i n c) :=
  changeState_keepsLaws ..

theorem applyOutcome_keepsLaws (s : State) (i : Nat) (p : ProtPart) (st : ProtState) (c : ProtCause) : KeepsLaws s (applyOutcome s i p st c) := by
  unfold applyOutcome
  split
  · exact enterHoldOff_keepsLaws ..
  · exact enterRestoreWait_keepsLaws ..
  · exact changeState_keepsLaws ..

theorem setResends_keepsLaws (s : State) (i n : Nat) : KeepsLaws s (setResends s i n) := updEntry_keepsLaws (fun _ => rfl)

theorem markRequest_keepsLaws (s : State) (i : Nat) : KeepsLaws s (markRequest s i) := updEntry_keepsLaws (fun _ => rfl)

theorem resendAtBoundary_keepsLaws (s : State) (i : Nat) (e : Entry) (p : ProtPart) (x : PathClass) :
    KeepsLaws s (resendAtBoundary s i e p x) := by
  have hasked (b : Prop) [Decidable b] (n : Nat) : KeepsLaws s (if b then markRequest (setResends s i n) i else s) := by
    split
    · exact (setResends_keepsLaws ..).trans (markRequest_keepsLaws ..)
    · exact .refl s
  unfold resendAtBoundary
  dsimp only
  split
  · exact hasked _ _
  · exact hasked _ _
  · exact hasked _ _
  · exact .refl s

theorem protectionBoundary_keepsLaws (s : State) (i : Nat) : KeepsLaws s (protectionBoundary s i) := by
  unfold protectionBoundary
  split
  · exact .refl s
  · split
    · dsimp only
      split
      · exact (setResends_keepsLaws ..).trans (applyOutcome_keepsLaws ..)
      · exact (setResends_keepsLaws ..).trans (resendAtBoundary_keepsLaws ..)
    · exact .refl s

theorem attemptBridge_keepsLaws (s : State) (i : Nat) : KeepsLaws s (attemptBridge s i) := by
  unfold attemptBridge
  split
  · exact .refl s
  · rename_i e he
    split
    · exact .refl s
    · split
      · exact (join_keepsLaws ..).trans ((setEntry_keepsLaws_of_same he (join_entries ..) (by rfl)).trans (applyBridge_keepsLaws ..))
      · exact .refl s

theorem setBridgeDrops_keepsLaws (s : State) (i : Nat) (d : StationSet) : KeepsLaws s (setBridgeDrops s i d) := updEntry_keepsLaws (fun _ => rfl)

theorem originBridgeOn_keepsLaws (s : State) (i : Nat) (e : Entry) (d : StationSet) : KeepsLaws s (originBridgeOn s i e d) :=
  (setBridgeDrops_keepsLaws s i d).trans (KeepsLaws.trans (.of_changesOnly (writeProtCells_changesOnly _ _ _) (by decide) (by decide))
    ((judgeAllPreempted_keepsLaws ..).trans (raiseNotice_keepsLaws ..)))

theorem originBridgeOff_keepsLaws (s : State) (i : Nat) (e : Entry) : KeepsLaws s (originBridgeOff s i e) :=
  (setBridgeDrops_keepsLaws s i 0).trans (KeepsLaws.trans (.of_changesOnly (clearProtCells_changesOnly _ _) (by decide) (by decide))
    ((judgeAllPreempted_keepsLaws ..).trans (raiseNotice_keepsLaws ..)))

theorem actSwitchreq_keepsLaws (s : State) (k : Key) (n : Nat) (on : Bool) : KeepsLaws s (actSwitchreq s k n on) := by
  have hset (i : Nat) (d : StationSet) : KeepsLaws s (attemptBridge (setBridgeDrops s i d) i) :=
    (setBridgeDrops_keepsLaws ..).trans (attemptBridge_keepsLaws ..)
  unfold actSwitchreq
  split
  · exact .refl s
  · split
    · exact .refl s
    · split
      · exact .refl s
      · dsimp only
        split_ifs
        · exact hset _ _
        · exact (originBridgeOn_keepsLaws ..).trans (attemptBridge_keepsLaws ..)
        · exact hset _ _
        · exact (originBridgeOff_keepsLaws ..).trans (attemptBridge_keepsLaws ..)
        · exact hset _ _
        · exact hset _ _
        · exact .refl s
        · exact .refl s

theorem setBridgeFlag_keepsLaws (s : State) (i : Nat) (on : Bool) : KeepsLaws s (setBridgeFlag s i on) := updEntry_keepsLaws (fun _ => rfl)

theorem openProtection_keepsLaws (s : State) (i : Nat) (e : Entry) (v : Nat) : KeepsLaws s (openProtection s i e v) :=
  KeepsLaws.trans (.of_changesOnly (writeProtCells_changesOnly _ _ _) (by decide) (by decide)) ((judgeAllPreempted_keepsLaws ..).trans
    (.of_changesOnly (watchProtection_changesOnly _ _ _ _) (by decide) (by decide)))

theorem closeProtection_keepsLaws (s : State) (e : Entry) : KeepsLaws s (closeProtection s e) :=
  KeepsLaws.trans (.of_changesOnly (clearProtCells_changesOnly _ _) (by decide) (by decide)) ((judgeAllPreempted_keepsLaws ..).trans
    (.of_changesOnly (unwatchProtection_changesOnly _ _) (by decide) (by decide)))

theorem bridgeSeen_keepsLaws (s : State) (i : Nat) : KeepsLaws s (bridgeSeen s i) := by
  unfold bridgeSeen
  split
  · exact .refl s
  · split
    · exact .refl s
    · split
      · exact changeState_keepsLaws ..
      · exact .refl s

theorem correctRequest_keepsLaws (s : State) (i : Nat) (on : Bool) (d : StationSet) : KeepsLaws s (correctRequest s i on d) := by
  unfold correctRequest
  split
  · exact .refl s
  · split
    · exact (markRequest_keepsLaws ..).trans (attemptSwitchreq_keepsLaws ..)
    · exact .refl s

theorem actBridgeOn_keepsLaws (s : State) (k : Key) (d : StationSet) : KeepsLaws s (actBridgeOn s k d) := by
  unfold actBridgeOn
  refine (applyBridge_keepsLaws s k true).trans ?_
  dsimp only
  generalize applyBridge s k true = u
  split
  · exact .refl u
  · rename_i i e _
    split
    · have hflag : KeepsLaws u (if e.bridgeFlag = some false then
          if e.state = .active then openProtection (setBridgeFlag u i true) i e u.now else setBridgeFlag u i true else u) := by
        split_ifs
        · exact (setBridgeFlag_keepsLaws ..).trans (openProtection_keepsLaws ..)
        · exact setBridgeFlag_keepsLaws ..
        · exact .refl u
      exact hflag.trans ((bridgeSeen_keepsLaws ..).trans (correctRequest_keepsLaws ..))
    · exact .refl u

theorem actBridgeOff_keepsLaws (s : State) (k : Key) : KeepsLaws s (actBridgeOff s k) := by
  unfold actBridgeOff
  refine (applyBridge_keepsLaws s k false).trans ?_
  dsimp only
  generalize applyBridge s k false = u
  split
  · exact .refl u
  · split
    · refine KeepsLaws.trans ?_ (correctRequest_keepsLaws ..)
      split
      · exact (setBridgeFlag_keepsLaws ..).trans (closeProtection_keepsLaws ..)
      · exact setBridgeFlag_keepsLaws ..
    · exact .refl u

theorem bridgeOffAtEnd_keepsLaws (s : State) (e : Entry) : KeepsLaws s (bridgeOffAtEnd s e) := by
  unfold bridgeOffAtEnd
  split
  · split
    · exact join_keepsLaws ..
    · exact .refl s
  · exact .refl s

theorem endProtection_keepsLaws (s : State) (i : Nat) (e : Entry) : KeepsLaws s (endProtection s i e) :=
  (updEntry_keepsLaws (fun _ => by rfl)).trans
    ((judgeAllPreempted_keepsLaws ..).trans ((bridgeOffAtEnd_keepsLaws ..).trans (dropBridged_keepsLaws ..)))

/-! ### Meters and match bills keep both laws -/

theorem restartLatches_keepsLaws (s : State) (i : Nat) : KeepsLaws s (restartLatches s i) := by
  obtain h | ⟨e, he, -, h⟩ := restartLatches_cases s i <;> rw [h]
  · exact .refl s
  · exact setEntry_keepsLaws he (by rfl)

theorem meterBoundary_keepsLaws (t : Nat) (s : State) (i : Nat) : KeepsLaws s (meterBoundary t s i) := by
  refine KeepsLaws.trans ?_ (restartLatches_keepsLaws ..)
  unfold meterCount
  split
  · exact .refl s
  · rename_i e he
    split
    · split
      · exact setEntry_keepsLaws he (by rfl)
      · exact .refl s
    · exact .refl s

theorem setBinding_keepsLaws (s : State) (i : Nat) (b : Binding) : KeepsLaws s (setBinding s i b) := updEntry_keepsLaws (fun _ => rfl)

theorem setRecord_keepsLaws (s : State) (n : Nat) (r : Option MatchRecord) : KeepsLaws s (setRecord s n r) := withBill_keepsLaws ..

theorem bindTo_keepsLaws (s : State) (i : Nat) (e : Entry) (n : Nat) (x : MatchRecord) : KeepsLaws s (bindTo s i e n x) :=
  (setRecord_keepsLaws ..).trans (setBinding_keepsLaws ..)

theorem leaveUnbound_keepsLaws (s : State) (i : Nat) (e : Entry) (c : UnboundCause) : KeepsLaws s (leaveUnbound s i e c) := by
  have htold (b : Prop) [Decidable b] (body : NoticeBody) :
      KeepsLaws s (if b then setBinding s i (.unbound c) else raiseNotice (setBinding s i (.unbound c)) (sourceEntry i) body) := by
    split
    · exact setBinding_keepsLaws ..
    · exact (setBinding_keepsLaws ..).trans (raiseNotice_keepsLaws ..)
  unfold leaveUnbound
  cases e.meter with
  | none => exact htold _ _
  | some m => exact htold _ _

theorem matchStage_keepsLaws (s : State) (n : Nat) (l : Line) (b : Bool) : KeepsLaws s (matchStage s n l b) :=
  .of_changesOnly (matchStage_apart s n l b).changes (by decide) (by decide)

theorem placeIn_keepsLaws (s : State) (i : Nat) (e : Entry) (n : Nat) (x : MatchRecord) : KeepsLaws s (placeIn s i e n x) := by
  unfold placeIn
  split
  · exact (setRecord_keepsLaws ..).trans ((matchStage_keepsLaws ..).trans (freeEntry_keepsLaws ..))
  · exact bindTo_keepsLaws ..

theorem placeOne_keepsLaws (s : State) (i : Nat) : KeepsLaws s (placeOne s i) := by
  unfold placeOne
  split
  · exact .refl s
  · split
    · split
      · exact placeIn_keepsLaws ..
      · exact (setRecord_keepsLaws ..).trans (placeIn_keepsLaws ..)
      · exact leaveUnbound_keepsLaws ..
    · exact .refl s

theorem placementScan_keepsLaws (s : State) : KeepsLaws s (placementScan s) := forEach_keepsLaws placeOne_keepsLaws _ s

theorem bindEntry_keepsLaws (s : State) (i : Nat) : KeepsLaws s (bindEntry s i) := by
  unfold bindEntry
  split
  · exact .refl s
  · split
    · exact .refl s
    · split
      · exact bindTo_keepsLaws ..
      · exact (setRecord_keepsLaws ..).trans ((bindTo_keepsLaws ..).trans (placementScan_keepsLaws _))
      · exact leaveUnbound_keepsLaws ..

/-! ### The life of a window keeps both laws -/

theorem handToProtection_keepsLaws (s : State) (i v : Nat) : KeepsLaws s (handToProtection s i v) := by
  unfold handToProtection
  split
  · exact .refl s
  · split
    · exact openProtection_keepsLaws ..
    · exact .refl s

theorem activate_keepsLaws (s : State) (i v : Nat) : KeepsLaws s (activate s i v) := by
  unfold activate
  split
  · exact .refl s
  · rename_i e he
    have hwritten (u : State) : KeepsLaws u (writeWorkPlaces (writeOutput (writeWorkCells u i e) i e) i e v) :=
      KeepsLaws.trans (.of_changesOnly (writeWorkCells_changesOnly _ _ _) (by decide) (by decide))
        (KeepsLaws.trans (.of_changesOnly (writeOutput_changesOnly _ _ _) (by decide) (by decide))
          (.of_changesOnly (writeWorkPlaces_changesOnly _ _ _ _) (by decide) (by decide)))
    exact (setEntry_keepsLaws he (by rfl)).trans ((hwritten _).trans ((judgePreempted_keepsLaws ..).trans
      ((handToProtection_keepsLaws ..).trans (bindEntry_keepsLaws ..))))

theorem activateOne_keepsLaws (t : Nat) (s : State) (i : Nat) : KeepsLaws s (activateOne t s i) := by
  unfold activateOne
  split
  · split
    · exact activate_keepsLaws ..
    · exact .refl s
  · exact .refl s

theorem closeOrFree_keepsLaws (s : State) (i : Nat) : KeepsLaws s (closeOrFree s i) := by
  unfold closeOrFree
  split
  · exact .refl s
  · split
    · exact (setEntry_keepsLaws ‹_› (by rfl)).trans (withBill_keepsLaws ..)
    · exact freeEntry_keepsLaws ..

theorem release_keepsLaws (s : State) (i : Nat) : KeepsLaws s (release s i) := by
  unfold release
  split
  · exact .refl s
  · rename_i e _
    have hcleared : KeepsLaws s (clearPlaces (releaseOutput (clearProtCells (clearWorkCells s e) e) e) e.key) :=
      KeepsLaws.trans (.of_changesOnly (clearWorkCells_changesOnly _ _) (by decide) (by decide))
        (KeepsLaws.trans (.of_changesOnly (clearProtCells_changesOnly _ _) (by decide) (by decide))
          (.of_same (releaseOutput_entries ..) (releaseOutput_bridged ..)))
    exact hcleared.trans ((endProtection_keepsLaws ..).trans (closeOrFree_keepsLaws ..))

theorem releaseOne_keepsLaws (t : Nat) (s : State) (i : Nat) : KeepsLaws s (releaseOne t s i) := by
  unfold releaseOne
  split
  · split
    · exact (meterBoundary_keepsLaws ..).trans (release_keepsLaws ..)
    · exact .refl s
  · exact .refl s

theorem noticeWithdrawn_keepsLaws (s : State) (i : Nat) (e : Entry) (v : Nat) (x : WithdrawEffect) : KeepsLaws s (noticeWithdrawn s i e v x) := by
  unfold noticeWithdrawn
  split
  · exact raiseNotice_keepsLaws ..
  · exact .refl s

theorem lowerBeforeStart_keepsLaws (he : s.entry i = some e) (v : Nat) : KeepsLaws s (lowerBeforeStart s i e v) := by
  have hlowered (b : Bool) (w : Nat) : KeepsLaws s (if b then freeEntry s i else setEntry s i (e.withEnd w)) := by
    split
    · exact freeEntry_keepsLaws ..
    · exact setEntry_keepsLaws he (by rfl)
  unfold lowerBeforeStart
  dsimp only
  split
  · exact (hlowered _ _).trans (noticeWithdrawn_keepsLaws ..)
  · exact hlowered _ _

theorem applyWithdraw_keepsLaws (s : State) (i v : Nat) : KeepsLaws s (applyWithdraw s i v) := by
  unfold applyWithdraw
  split
  · exact .refl s
  · rename_i e he
    dsimp only
    have hlimited : (if e.ext.isSome then limitRecent s e.key v else s).entries = s.entries := by
      split <;> rfl
    have hlimit : KeepsLaws s (if e.ext.isSome then limitRecent s e.key v else s) := by
      split
      · exact .of_same rfl rfl
      · exact .refl s
    generalize (if e.ext.isSome then limitRecent s e.key v else s) = u at hlimited hlimit ⊢
    have hended (w : Nat) : KeepsLaws s (setEntry u i (e.withEnd w)) := hlimit.trans (setEntry_keepsLaws_of_same he hlimited rfl)
    have hlowered : KeepsLaws s (lowerBeforeStart u i e v) :=
      hlimit.trans (lowerBeforeStart_keepsLaws ((entry_of_entries hlimited i).trans he) v)
    split
    · exact hlowered
    · exact hlowered
    · split_ifs
      · exact (hended _).trans (noticeWithdrawn_keepsLaws ..)
      · exact hended _
      · exact (hended _).trans ((release_keepsLaws ..).trans (noticeWithdrawn_keepsLaws ..))
      · exact (hended _).trans (release_keepsLaws ..)
    · exact .refl s
    · exact .refl s

theorem attemptMarker_keepsLaws (s : State) (i : Nat) : KeepsLaws s (attemptMarker s i) := by
  unfold attemptMarker
  split
  · exact .refl s
  · rename_i e he
    have hsent (n w : Nat) (b : Body) :
        KeepsLaws s (applyWithdraw (setEntry (join s e.bk.dir n b) i { e with marker := none }) i w) :=
      (join_keepsLaws ..).trans ((setEntry_keepsLaws_of_same he (join_entries ..) (by rfl)).trans (applyWithdraw_keepsLaws ..))
    split
    · exact .refl s
    · split
      · exact .refl s
      · dsimp only
        split
        · split_ifs
          · exact setEntry_keepsLaws he (by rfl)
          · exact hsent _ _ _
          · exact .refl s
        · split_ifs
          · exact hsent _ _ _
          · exact .refl s

/-! ### A second boundary keeps both laws -/

theorem attemptsOne_keepsLaws (s : State) (i : Nat) : KeepsLaws s (attemptsOne s i) := by
  unfold attemptsOne
  split
  · exact .refl s
  · exact (protectionBoundary_keepsLaws ..).trans ((restartLatches_keepsLaws ..).trans ((attemptSwitchreq_keepsLaws ..).trans
      ((attemptBridge_keepsLaws ..).trans (attemptMarker_keepsLaws ..))))

theorem boundary_keepsLaws (t : Nat) (s : State) : KeepsLaws s (boundary t s) := by
  have hclosed : KeepsLaws s (secondClosed t s) :=
    (closeRecords_keepsLaws t s).trans
      ((forEach_keepsLaws (meterBoundary_keepsLaws t) _ _).trans (.of_changesOnly (closeInputs_changesOnly _) (by decide) (by decide)))
  have hmoved (u : State) : KeepsLaws u (windowsMoved t u) :=
    (forEach_keepsLaws (releaseOne_keepsLaws t) _ u).trans (forEach_keepsLaws (activateOne_keepsLaws t) _ _)
  exact hclosed.trans ((hmoved _).trans ((forEach_keepsLaws attemptsOne_keepsLaws _ _).trans (forEach_keepsLaws restartLatches_keepsLaws _ _)))

end Blocks

end Sys2Proof.Machine

namespace Sys2Proof.Machine

/-! ### A sequence that the calendar does not hold -/

section Sequence
variable {s : State}

/-- The sequence that a search comes to after a number of steps (R54). -/
def seqAfter (n : Nat) (m : Nat) : Nat := nextSeq^[m] n

/-- A search that ends on a sequence of this station's that the calendar holds has met such sequences all the way (R54). -/
theorem freeSeq_held {fuel n : Nat} (h : (lookup s { origin := s.self, seq := freeSeq s fuel n }).isSome) :
    ∀ m < fuel, (lookup s { origin := s.self, seq := seqAfter n m }).isSome := by
  induction fuel generalizing n with
  | zero => exact fun m hm => absurd hm (Nat.not_lt_zero m)
  | succ fuel ih =>
    unfold freeSeq at h
    split at h
    · rename_i hn
      intro m hm
      cases m with
      | zero => exact hn
      | succ m => exact ih h m (Nat.lt_of_succ_lt_succ hm)
    · rename_i hn
      exact absurd h hn

theorem seqAfter_succ (n m : Nat) : seqAfter n (m + 1) = (n + m + 1) % 65536 := by
  induction m with
  | zero => rfl
  | succ m ih =>
    rw [seqAfter, Function.iterate_succ_apply', ← seqAfter, ih, nextSeq]
    omega

/-- The 65 sequences of a search are different (R54). -/
theorem seqAfter_inj {n a b : Nat} (ha : a < 65) (hb : b < 65) (h : seqAfter n a = seqAfter n b) : a = b := by
  have hzero : seqAfter n 0 = n := rfl
  cases a <;> cases b <;> simp only [hzero, seqAfter_succ] at h <;> omega

/-- In a calendar of 64 places one of 65 sequences is free: the one that a booking takes (R54). -/
theorem takenSeq_free (hl : s.entries.length = 64) (i : Nat) : s.keyAt i ≠ some { origin := s.self, seq := takenSeq s } := by
  intro hi
  have hheld := freeSeq_held ((lookup_isSome_iff hl _).2 ⟨i, hi⟩)
  choose place hplace using fun m hm => (lookup_isSome_iff hl _).1 (hheld m hm)
  have hlt (m : Nat) (hm : m < 65) : place m hm < 64 := by
    obtain ⟨e, he, -⟩ := exists_of_keyAt (hplace m hm)
    exact hl ▸ placeAt_lt s.entries _ e he
  have hinj : Function.Injective (fun m : Fin 65 => (⟨place m m.isLt, hlt m m.isLt⟩ : Fin 64)) := by
    intro a b hab
    have hsame : place a a.isLt = place b b.isLt := congrArg Fin.val hab
    have hkeys := (hplace a a.isLt).symm.trans (hsame ▸ hplace b b.isLt)
    exact Fin.ext (seqAfter_inj a.isLt b.isLt (by simpa using hkeys))
  simpa using Fintype.card_le_of_injective _ hinj

/-- A New test that passes has met no entry with the candidate's key (R46). -/
theorem unheld_of_testNew {k : Key} {cand : Reserve} (hl : s.entries.length = 64) (h : testNew s (some k) cand = .pass) (i : Nat) :
    s.keyAt i ≠ some k := by
  intro hi
  obtain ⟨e, he, hkey⟩ := exists_of_keyAt hi
  unfold testNew at h
  split at h
  · exact nomatch h
  · split at h
    · exact nomatch h
    · split at h
      · exact nomatch h
      · rename_i hnone
        have hlt : i < 64 := hl ▸ placeAt_lt s.entries i e he
        have hmiss := firstEntry_none hnone i e hlt he
        simp [hkey] at hmiss

end Sequence

/-! ### The claim controller keeps both laws -/

section Claims
variable {s t : State}

theorem takeSeq_keepsLaws (s : State) : KeepsLaws s (takeSeq s) := withClaims_keepsLaws ..

theorem addRecent_keepsLaws (s : State) (k : Key) (m : Mode) : KeepsLaws s (addRecent s k m) := withClaims_keepsLaws ..

theorem discardRecent_keepsLaws (s : State) (k : Key) (m : Mode) : KeepsLaws s (discardRecent s k m) := withClaims_keepsLaws ..

theorem markRecent_keepsLaws (s : State) (k : Key) (m : Mode) (x : RecentMark) : KeepsLaws s (markRecent s k m x) := withClaims_keepsLaws ..

/-- A booking of this station's is entered under the sequence that it takes (R54, R59, R70). -/
theorem allocate_takeSeq_keepsLaws (s : State) (b : Booking) :
    KeepsLaws s (allocate (takeSeq s) { origin := s.self, seq := takenSeq s } b .tentative none false) := by
  refine (takeSeq_keepsLaws s).trans (allocate_keepsLaws (fun hs i => ?_) b _ _ _)
  obtain ⟨hl, -⟩ := (identityLaw_iff _).1 hs
  exact takenSeq_free (s := s) hl i

theorem assessNew_keepsLaws (s : State) (k : Key) (b : ClaimBody) : KeepsLaws s (assessNew s k b).1 := by
  unfold assessNew
  split
  · rename_i hpass
    exact (allocate_keepsLaws (fun hs i => unheld_of_testNew ((identityLaw_iff s).1 hs).1 hpass i) b.bk _ _ _).trans (addRecent_keepsLaws ..)
  · exact .refl s

theorem assessExtend_keepsLaws (s : State) (k : Key) (b : ClaimBody) : KeepsLaws s (assessExtend s k b).1 := by
  unfold assessExtend
  split
  · exact .refl s
  · rename_i i e hfind
    obtain ⟨he, -⟩ := findEntry_spec s k i e hfind
    split
    · exact .refl s
    · split
      · exact .refl s
      · split
        · exact (setEntry_keepsLaws he (by rfl)).trans (addRecent_keepsLaws ..)
        · exact .refl s

theorem actClaim_keepsLaws (s : State) (k : Key) (b : ClaimBody) : KeepsLaws s (actClaim s k b).1 := by
  unfold actClaim
  split
  · exact .refl s
  · split
    · exact .refl s
    · split
      · exact .refl s
      · split
        · exact .refl s
        · split
          · exact assessNew_keepsLaws ..
          · exact assessExtend_keepsLaws ..

theorem removeOwnSide_keepsLaws (s : State) (c : ClaimSlot) : KeepsLaws s (removeOwnSide s c) := by
  unfold removeOwnSide
  split
  · exact .refl s
  · rename_i i e hfind
    obtain ⟨he, -⟩ := findEntry_spec s _ i e hfind
    split
    · split
      · exact freeEntry_keepsLaws ..
      · exact .refl s
    · exact setEntry_keepsLaws he (by rfl)

theorem commitOwnSide_keepsLaws (s : State) (c : ClaimSlot) : KeepsLaws s (commitOwnSide s c) := by
  unfold commitOwnSide
  split
  · exact .refl s
  · rename_i i e hfind
    obtain ⟨he, -⟩ := findEntry_spec s _ i e hfind
    split
    · exact setEntry_keepsLaws he (by rfl)
    · split
      · exact .refl s
      · exact setEntry_keepsLaws he (by rfl)

theorem joinOutbound_keepsLaws (s : State) (n : Nat) (c : ClaimSlot) : KeepsLaws s (joinOutbound s n c) := by
  unfold joinOutbound
  split
  · split
    · exact (join_keepsLaws ..).trans ((commitOwnSide_keepsLaws ..).trans (concludeSlot_keepsLaws ..))
    · exact (join_keepsLaws ..).trans ((removeOwnSide_keepsLaws ..).trans (concludeSlot_keepsLaws ..))
  · dsimp only
    split
    · exact (join_keepsLaws ..).trans (setSlot_keepsLaws ..)
    · exact (join_keepsLaws ..).trans (concludeSlot_keepsLaws ..)
  · exact .refl s

theorem offerOutbound_keepsLaws (s : State) (n : Nat) (c : ClaimSlot) : KeepsLaws s (offerOutbound s n c) := by
  unfold offerOutbound
  dsimp only
  split
  · exact (setSlot_keepsLaws ..).trans (joinOutbound_keepsLaws ..)
  · exact setSlot_keepsLaws ..

theorem reachResult_keepsLaws (s : State) (n : Nat) (c : ClaimSlot) (r : ClaimResult) : KeepsLaws s (reachResult s n c r) := by
  unfold reachResult
  split
  · exact offerOutbound_keepsLaws ..
  · exact (removeOwnSide_keepsLaws ..).trans (offerOutbound_keepsLaws ..)

theorem claimBack_keepsLaws (s : State) (k : Key) (b : ClaimBody) : KeepsLaws s (claimBack s k b) := by
  unfold claimBack
  split
  · exact .refl s
  · split
    · exact reachResult_keepsLaws ..
    · exact .refl s

theorem noticeCommitted_keepsLaws (s : State) (i : Nat) (e : Entry) (m : Mode) : KeepsLaws s (noticeCommitted s i e m) := by
  unfold noticeCommitted
  split
  · exact raiseNotice_keepsLaws ..
  · exact .refl s

theorem lateConfirm_keepsLaws (s : State) (k : Key) (m : Mode) : KeepsLaws s (lateConfirm s k m) := by
  unfold lateConfirm
  split
  · split
    · exact KeepsLaws.trans (.of_same (joinHoldlost_entries ..) (joinHoldlost_bridged ..)) (markRecent_keepsLaws ..)
    · exact .refl s
  · exact .refl s

theorem actConfirm_keepsLaws (s : State) (k : Key) (m : Mode) : KeepsLaws s (actConfirm s k m) := by
  unfold actConfirm
  split
  · exact lateConfirm_keepsLaws ..
  · rename_i i e hfind
    obtain ⟨he, -⟩ := findEntry_spec s k i e hfind
    split
    · split
      · split
        · exact (setEntry_keepsLaws he (by rfl)).trans ((markRecent_keepsLaws ..).trans (noticeCommitted_keepsLaws ..))
        · exact (freeEntry_keepsLaws ..).trans (lateConfirm_keepsLaws ..)
      · exact .refl s
    · split
      · exact (setEntry_keepsLaws he (by rfl)).trans ((markRecent_keepsLaws ..).trans (noticeCommitted_keepsLaws ..))
      · exact lateConfirm_keepsLaws ..

theorem actAbandon_keepsLaws (s : State) (k : Key) (m : Mode) : KeepsLaws s (actAbandon s k m) := by
  unfold actAbandon
  refine KeepsLaws.trans ?_ (discardRecent_keepsLaws ..)
  split
  · exact .refl s
  · rename_i i e hfind
    obtain ⟨he, -⟩ := findEntry_spec s k i e hfind
    split
    · split
      · exact freeEntry_keepsLaws ..
      · exact .refl s
    · exact setEntry_keepsLaws he (by rfl)

theorem actHoldlost_keepsLaws (s : State) (k : Key) (m : Mode) (n : Nat) : KeepsLaws s (actHoldlost s k m n) := by
  unfold actHoldlost
  split
  · exact .refl s
  · split
    · exact .refl s
    · rename_i i e hfind
      obtain ⟨he, -⟩ := findEntry_spec s k i e hfind
      split
      · exact .refl s
      · exact (setEntry_keepsLaws he (by rfl)).trans ((raiseNotice_keepsLaws ..).trans (attemptMarker_keepsLaws ..))

theorem actWithdraw_keepsLaws (s : State) (k : Key) (v : Nat) : KeepsLaws s (actWithdraw s k v) := by
  unfold actWithdraw
  split
  · exact applyWithdraw_keepsLaws ..
  · exact .refl s

end Claims

/-! ### The recall controller keeps both laws -/

section Recall
variable {s t : State}

theorem walkFrom_keepsLaws (n : Nat) (s : State) (i : Nat) : KeepsLaws s (walkFrom n s i) := by
  induction n generalizing s i with
  | zero => exact withRecov_keepsLaws ..
  | succ n ih =>
    unfold walkFrom
    split
    · exact ih ..
    · split
      · split
        · exact (join_keepsLaws ..).trans (ih ..)
        · exact withRecov_keepsLaws ..
      · exact ih ..

theorem walkAt_keepsLaws (s : State) (i : Nat) : KeepsLaws s (walkAt s i) := walkFrom_keepsLaws ..

theorem actRecall_keepsLaws (s : State) (n : Nat) : KeepsLaws s (actRecall s n) := by
  unfold actRecall
  dsimp only
  split
  · exact (withRecov_keepsLaws ..).trans (walkAt_keepsLaws ..)
  · exact withRecov_keepsLaws ..

/-- A reannounced booking is installed where the calendar does not hold its key (R94, R95). -/
theorem install_keepsLaws {r : Reannounce} (hk : identityLaw s → ∀ i, s.keyAt i ≠ some r.key) : KeepsLaws s (install s r) := by
  have hentered (x : Recall) : KeepsLaws s (allocate (s.withRecov x) r.key r.bk (installState s r) none true) :=
    (withRecov_keepsLaws s x).trans (allocate_keepsLaws (s := s.withRecov x) hk _ _ _ _)
  unfold install
  dsimp only
  split
  · split
    · exact (hentered _).trans (activate_keepsLaws ..)
    · exact hentered _
  · exact hentered _

theorem judgeReannounce_keepsLaws (s : State) (r : Reannounce) : KeepsLaws s (judgeReannounce s r) := by
  unfold judgeReannounce
  split
  · exact withRecov_keepsLaws ..
  · split
    · exact .refl s
    · split
      · exact .refl s
      · split
        · exact (withRecov_keepsLaws ..).trans (raiseNotice_keepsLaws ..)
        · rename_i hpass
          exact install_keepsLaws (fun hs i => unheld_of_testNew ((identityLaw_iff s).1 hs).1 hpass i)

theorem actReannounce_keepsLaws (s : State) (r : Reannounce) : KeepsLaws s (actReannounce s r) := by
  unfold actReannounce
  split
  · refine KeepsLaws.trans ?_ (judgeReannounce_keepsLaws ..)
    split
    · exact withRecov_keepsLaws ..
    · exact .refl s
  · exact .refl s

theorem leaveRecovery_keepsLaws (s : State) (c : EndCause) : KeepsLaws s (leaveRecovery s c) := by
  have hidled (r : Recall) (b : Prop) [Decidable b] : KeepsLaws s (if b then idleUnownedCells (s.withRecov r) else s.withRecov r) := by
    split <;> exact .of_same rfl rfl
  have hleft {u : State} (hu : KeepsLaws s u) (src : Nat) (body : NoticeBody) : KeepsLaws s
      (if (raiseNotice u src body).recov.pendingSet != 0 then walkAt (raiseNotice u src body) 0 else raiseNotice u src body) := by
    split
    · exact hu.trans ((raiseNotice_keepsLaws ..).trans (walkAt_keepsLaws ..))
    · exact hu.trans (raiseNotice_keepsLaws ..)
  unfold leaveRecovery
  dsimp only
  cases s.recov.highestOwn with
  | none => exact hleft (hidled _ _) _ _
  | some n => exact hleft ((hidled _ _).trans (withClaims_keepsLaws ..)) _ _

end Recall

/-! ### The charge unit and ring time keep both laws -/

section Time
variable {s t : State}

theorem joinWaiting_keepsLaws (s : State) (d : Dir) (n : Nat) : KeepsLaws s (joinWaiting s d n) := by
  unfold joinWaiting
  split
  · split
    · exact joinOutbound_keepsLaws ..
    · exact .refl s
  · exact .refl s

theorem takeCharge_keepsLaws (s : State) : KeepsLaws s (takeCharge s) := by
  unfold takeCharge
  split
  · exact withBill_keepsLaws ..
  · exact .refl s

theorem placeLine_keepsLaws (s : State) (i n : Nat) (m : Meter) (l : Line) : KeepsLaws s (placeLine s i n m l) := by
  have hcharged : KeepsLaws s (noticeCharged (freeEntry (matchStage s n l true) i) i m l .placed) :=
    (matchStage_keepsLaws ..).trans ((freeEntry_keepsLaws ..).trans (raiseNotice_keepsLaws ..))
  unfold placeLine
  dsimp only
  split
  · exact hcharged
  · exact hcharged.trans (placementScan_keepsLaws _)

theorem completeCharge_keepsLaws {i : Nat} {e : Entry} (he : s.entry i = some e) (m : Meter) : KeepsLaws s (completeCharge s i e m) := by
  unfold completeCharge
  split
  · exact (placeLine_keepsLaws ..).trans (withBill_keepsLaws ..)
  · exact (setEntry_keepsLaws he (by rfl)).trans ((raiseNotice_keepsLaws ..).trans (withBill_keepsLaws ..))
  · exact .refl s

theorem runSecond_keepsLaws (s : State) : KeepsLaws s (runSecond s) := by
  unfold runSecond
  split
  · exact (withClock_keepsLaws ..).trans (boundary_keepsLaws ..)
  · exact .refl s

theorem jump_keepsLaws (s : State) (j : Nat) : KeepsLaws s (jump s j) :=
  (withClock_keepsLaws ..).trans (forEach_keepsLaws (fun u n => boundary_keepsLaws (s.clock.seconds + n + 1) u) _ _)

theorem becomeSynced_keepsLaws (s : State) (v : Nat) (c : SyncCause) : KeepsLaws s (becomeSynced s v c) :=
  .of_changesOnly (becomeSynced_changesOnly s v c) (by decide) (by decide)

theorem takeStamp_keepsLaws (s : State) (m : Msg) : KeepsLaws s (takeStamp s m) := by
  unfold takeStamp
  split_ifs
  · exact .refl s
  · exact becomeSynced_keepsLaws ..
  · exact .refl s
  · exact jump_keepsLaws ..
  · exact raiseNotice_keepsLaws ..

end Time

/-! ### The header processor keeps both laws -/

section Header

theorem emit_keepsLaws (s : State) (d : Dir) (m : Option Msg) : KeepsLaws s (emit s d m) := .of_same (emit_entries ..) (emit_bridged ..)

theorem putSlot_keepsLaws (s : State) (d : Dir) (x : Slot) : KeepsLaws s (putSlot s d x) := .of_same (putSlot_entries ..) (putSlot_bridged ..)

theorem noteFar_keepsLaws (s : State) (d : Dir) (b : Bool) : KeepsLaws s (noteFar s d b) := .of_same (noteFar_entries ..) (noteFar_bridged ..)

theorem startMark_keepsLaws (s : State) : KeepsLaws s (startMark s) := .of_same (startMark_entries ..) (startMark_bridged ..)

theorem placeHead_keepsLaws (s : State) (d side : Dir) : KeepsLaws s (placeHead s d side) := by
  unfold placeHead
  split
  · exact emit_keepsLaws ..
  · exact KeepsLaws.trans (.of_same (freePlace_entries ..) (freePlace_bridged ..)) ((emit_keepsLaws ..).trans (startMark_keepsLaws _))

theorem serveFolded_keepsLaws (s : State) (side : Dir) : KeepsLaws s (serveFolded s side) := by
  unfold serveFolded
  split
  · exact emit_keepsLaws ..
  · exact (withLane_keepsLaws ..).trans (placeHead_keepsLaws ..)

theorem continueEmpty_keepsLaws (s : State) (port : Dir) (fill : Bool) : KeepsLaws s (continueEmpty s port fill) := by
  unfold continueEmpty
  dsimp only
  split_ifs
  · exact emit_keepsLaws ..
  · exact (emit_keepsLaws ..).trans (serveFolded_keepsLaws ..)
  · exact (emit_keepsLaws ..).trans (emit_keepsLaws ..)
  · exact placeHead_keepsLaws ..
  · exact emit_keepsLaws ..

theorem handBack_keepsLaws (s : State) (m : Msg) : KeepsLaws s (handBack s m) := by
  unfold handBack
  split
  case h_1 => exact claimBack_keepsLaws ..
  case h_2 =>
    unfold recallBack
    split
    · exact withRecov_keepsLaws ..
    · exact .refl s
  all_goals exact .refl s

theorem actQuery_keepsLaws (s : State) (a b c d : Nat) : KeepsLaws s (actQuery s a b c d) := by
  unfold actQuery
  split
  · exact .of_changesOnly (joinCounted_changesOnly _ _) (by decide) (by decide)
  · exact .refl s

theorem actAnswer_keepsLaws (s : State) (a b c d : Nat) (x : Option Statement) : KeepsLaws s (actAnswer s a b c d x) := by
  unfold actAnswer
  split
  · split
    · exact (withBill_keepsLaws ..).trans (raiseNotice_keepsLaws ..)
    · exact .refl s
  · exact .refl s

theorem act_keepsLaws (s : State) (port : Dir) (m : Msg) : KeepsLaws s (act s port m).1 := by
  unfold act
  split
  · exact .refl s
  · exact actClaim_keepsLaws ..
  · exact actConfirm_keepsLaws ..
  · exact actAbandon_keepsLaws ..
  · exact actWithdraw_keepsLaws ..
  · exact actHoldlost_keepsLaws ..
  · exact actSwitchreq_keepsLaws ..
  · exact actBridgeOn_keepsLaws ..
  · exact actBridgeOff_keepsLaws ..
  · exact raiseNotice_keepsLaws ..
  · exact actQuery_keepsLaws ..
  · exact actAnswer_keepsLaws ..
  · exact actRecall_keepsLaws ..
  · exact actReannounce_keepsLaws ..
  · exact .refl s

theorem forward_keepsLaws (s : State) (port : Dir) (m : Msg) : KeepsLaws s (forward s port m) := by
  unfold forward
  dsimp only
  split_ifs
  · exact emit_keepsLaws ..
  · exact continueEmpty_keepsLaws ..
  · exact (emit_keepsLaws ..).trans (emit_keepsLaws ..)

theorem handleFull_keepsLaws (s : State) (port : Dir) (m : Msg) : KeepsLaws s (handleFull s port m) := by
  unfold handleFull
  dsimp only
  split_ifs
  · exact (handBack_keepsLaws ..).trans (continueEmpty_keepsLaws ..)
  · exact continueEmpty_keepsLaws ..
  · exact continueEmpty_keepsLaws ..
  · exact (act_keepsLaws ..).trans (forward_keepsLaws ..)
  · exact forward_keepsLaws ..

theorem arriveFull_keepsLaws (s : State) (port : Dir) (far : Bool) (m : Msg) : KeepsLaws s (arriveFull s port far m) := by
  unfold arriveFull
  dsimp only
  split_ifs
  · exact (noteFar_keepsLaws ..).trans (emit_keepsLaws ..)
  · exact (noteFar_keepsLaws ..).trans ((takeStamp_keepsLaws ..).trans (handleFull_keepsLaws ..))
  · exact putSlot_keepsLaws ..

theorem arriveEmpty_keepsLaws (s : State) (port : Dir) (far : Bool) : KeepsLaws s (arriveEmpty s port far) := by
  unfold arriveEmpty
  split_ifs
  · exact (noteFar_keepsLaws ..).trans (continueEmpty_keepsLaws ..)
  · exact putSlot_keepsLaws ..

theorem exec_slot_keepsLaws {c : Instr} {port : Dir} {slot : Slot} (hc : slotOf c = some (port, slot)) (s : State) :
    ∃ t, exec c s = .next t ∧ KeepsLaws s t := by
  rw [exec_of_slotOf hc]
  refine ⟨_, rfl, ?_⟩
  split
  · exact arriveFull_keepsLaws ..
  · exact arriveEmpty_keepsLaws ..

end Header

end Sys2Proof.Machine

namespace Sys2Proof.Machine

/-! ### Site requests keep both laws -/

section Requests
variable {s : State}

theorem joinShort_keepsLaws (s : State) (r : Reply) : KeepsLaws s (joinShort s r) := .of_same (joinShort_entries ..) (joinShort_bridged ..)

theorem takeRequest_keepsLaws (s : State) (tag code : Byte) {handle : State → Answer} (h : KeepsLaws s (handle s).state) :
    KeepsLaws s (takeRequest s tag code handle) := by
  obtain he | ⟨-, he⟩ | ⟨-, he⟩ := takeRequest_spec s tag code handle <;> rw [he]
  · exact .refl s
  · exact joinShort_keepsLaws ..
  · exact h.trans (withSite_keepsLaws ..)

theorem siteRequest_keepsLaws (s : State) (tag code : Byte) (params : List Byte) {handle : State → Answer} (h : KeepsLaws s (handle s).state) :
    KeepsLaws s (siteRequest s tag code params handle) := by
  refine takeRequest_keepsLaws s tag code ?_
  unfold checked
  split_ifs
  · exact .refl s
  · exact .refl s
  · exact h

theorem handleBook_keepsLaws (p : List Byte) (s : State) : KeepsLaws s (handleBook p s).state := by
  have htaken (n : Nat) (b : Booking) : KeepsLaws s (takeBooking s n b) :=
    (allocate_takeSeq_keepsLaws s b).trans ((setSlot_keepsLaws ..).trans (join_keepsLaws ..))
  unfold handleBook
  split
  · exact .refl s
  · unfold handleBooking
    split
    · exact .refl s
    · split
      · exact .refl s
      · split
        · exact .refl s
        · split
          · exact .refl s
          · split
            · exact .refl s
            · split
              · exact htaken _ _
              · exact .refl s

theorem handleWithdraw_keepsLaws (p : List Byte) (s : State) : KeepsLaws s (handleWithdraw p s).state := by
  unfold handleWithdraw
  split
  · exact .refl s
  · unfold withdrawEntry
    dsimp only
    split_ifs
    · exact .refl s
    · exact .refl s
    · exact (join_keepsLaws ..).trans (applyWithdraw_keepsLaws ..)
    · exact .refl s

theorem handleExtend_keepsLaws (p : List Byte) (s : State) : KeepsLaws s (handleExtend p s).state := by
  unfold handleExtend
  split
  · exact .refl s
  · rename_i i e hfind
    obtain ⟨he, -⟩ := findEntry_spec s _ i e hfind
    have htaken (n v : Nat) : KeepsLaws s (takeExtension s n i e v) :=
      (setEntry_keepsLaws he (by rfl)).trans ((setSlot_keepsLaws ..).trans (join_keepsLaws ..))
    unfold extendEntry
    split
    · exact .refl s
    · split
      · exact .refl s
      · split
        · exact .refl s
        · split
          · exact .refl s
          · split
            · exact .refl s
            · split
              · exact .refl s
              · split
                · exact htaken _ _
                · exact .refl s

theorem handleSetClock_keepsLaws (p : List Byte) (s : State) : KeepsLaws s (handleSetClock p s).state := by
  unfold handleSetClock
  split
  · exact .refl s
  · exact becomeSynced_keepsLaws ..

theorem manualRequest_keepsLaws (p : List Byte) {act : Nat → Entry → ProtPart → Answer} (h : ∀ i e x, KeepsLaws s (act i e x).state) :
    KeepsLaws s (manualRequest p s act).state := by
  unfold manualRequest
  split
  · exact .refl s
  · split
    · exact h _ _ _
    · exact .refl s

theorem forceDrop_keepsLaws (s : State) (i : Nat) (p : ProtPart) : KeepsLaws s (forceDrop s i p).state := by
  unfold forceDrop
  split
  · exact .refl s
  · exact .refl s
  · exact attemptMarked_keepsLaws (changeState_keepsLaws ..) i

theorem lockoutDrop_keepsLaws (s : State) (i : Nat) (p : ProtPart) : KeepsLaws s (lockoutDrop s i p).state := by
  unfold lockoutDrop
  split
  · exact .refl s
  · exact attemptMarked_keepsLaws (changeState_keepsLaws ..) i

theorem clearDrop_keepsLaws (s : State) (i : Nat) (e : Entry) (p : ProtPart) : KeepsLaws s (clearDrop s i e p).state := by
  unfold clearDrop
  split
  · exact attemptMarked_keepsLaws (changeState_keepsLaws ..) i
  · exact attemptMarked_keepsLaws (enterRestoreWait_keepsLaws ..) i
  · exact attemptMarked_keepsLaws (enterHoldOff_keepsLaws ..) i
  · exact attemptMarked_keepsLaws (changeState_keepsLaws ..) i
  · exact .refl s

theorem handleReadEntry_state (p : List Byte) (s : State) : (handleReadEntry p s).state = s := by
  unfold handleReadEntry readIndex readKey
  (repeat' split) <;> rfl

theorem matchRequest_keepsLaws (p : List Byte) {act : Nat → MatchRecord → Answer} (h : ∀ n r, KeepsLaws s (act n r).state) :
    KeepsLaws s (matchRequest p s act).state := by
  unfold matchRequest
  split
  · exact .refl s
  · split
    · exact .refl s
    · split
      · exact .refl s
      · exact h _ _

theorem closeMatchRecord_keepsLaws (s : State) (n : Nat) (r : MatchRecord) : KeepsLaws s (closeMatchRecord s n r).state := by
  unfold closeMatchRecord
  split
  · split
    · dsimp only
      exact KeepsLaws.trans (.of_changesOnly (closeRecord_apart s n r).changes (by decide) (by decide)) (placementScan_keepsLaws _)
    · dsimp only
      exact (setRecord_keepsLaws ..).trans (placementScan_keepsLaws _)
  · exact .refl s
  · exact .refl s

theorem takeRecord_keepsLaws (s : State) (n : Nat) (r : MatchRecord) : KeepsLaws s (takeRecord s n r).state := by
  unfold takeRecord
  split
  · dsimp only
    exact (setRecord_keepsLaws ..).trans (placementScan_keepsLaws _)
  · exact .refl s

theorem handleRemoteRead_keepsLaws (p : List Byte) (s : State) : KeepsLaws s (handleRemoteRead p s).state := by
  unfold handleRemoteRead
  dsimp only
  split_ifs
  · exact .refl s
  · exact .refl s
  · exact .refl s
  · exact KeepsLaws.trans (.of_changesOnly (joinCounted_changesOnly _ _) (by decide) (by decide)) (withBill_keepsLaws ..)
  · exact .refl s

theorem exec_request_keepsLaws {c : Instr} {x : Byte × Byte × List Byte} (hc : requestOf c = some x) (s : State) :
    ∃ t, exec c s = .next t ∧ KeepsLaws s t := by
  cases c
  case book => exact ⟨_, rfl, siteRequest_keepsLaws _ _ _ _ (handleBook_keepsLaws ..)⟩
  case withdraw => exact ⟨_, rfl, siteRequest_keepsLaws _ _ _ _ (handleWithdraw_keepsLaws ..)⟩
  case extend => exact ⟨_, rfl, siteRequest_keepsLaws _ _ _ _ (handleExtend_keepsLaws ..)⟩
  case setClock => exact ⟨_, rfl, siteRequest_keepsLaws _ _ _ _ (handleSetClock_keepsLaws ..)⟩
  case force => exact ⟨_, rfl, siteRequest_keepsLaws _ _ _ _ (manualRequest_keepsLaws _ (fun _ _ _ => forceDrop_keepsLaws ..))⟩
  case lockout => exact ⟨_, rfl, siteRequest_keepsLaws _ _ _ _ (manualRequest_keepsLaws _ (fun _ _ _ => lockoutDrop_keepsLaws ..))⟩
  case clearSwitch => exact ⟨_, rfl, siteRequest_keepsLaws _ _ _ _ (manualRequest_keepsLaws _ (fun _ _ _ => clearDrop_keepsLaws ..))⟩
  case readEntry _ params => exact ⟨_, rfl, siteRequest_keepsLaws _ _ _ _ ((handleReadEntry_state params s).symm ▸ .refl s)⟩
  case readMonitor => exact ⟨_, rfl, siteRequest_keepsLaws _ _ _ _ (.refl s)⟩
  case readMatch => exact ⟨_, rfl, siteRequest_keepsLaws _ _ _ _ (matchRequest_keepsLaws _ (fun _ _ => .refl s))⟩
  case closeMatch => exact ⟨_, rfl, siteRequest_keepsLaws _ _ _ _ (matchRequest_keepsLaws _ (closeMatchRecord_keepsLaws s))⟩
  case takeStatement => exact ⟨_, rfl, siteRequest_keepsLaws _ _ _ _ (matchRequest_keepsLaws _ (takeRecord_keepsLaws s))⟩
  case remoteRead => exact ⟨_, rfl, siteRequest_keepsLaws _ _ _ _ (handleRemoteRead_keepsLaws ..)⟩
  case restart => exact ⟨_, rfl, siteRequest_keepsLaws _ _ _ _ (withSite_keepsLaws ..)⟩
  all_goals simp [requestOf] at hc

theorem sendNext_keepsLaws (s : State) : KeepsLaws s (sendNext s) := by
  unfold sendNext
  split
  · exact .refl s
  · split
    · exact withSite_keepsLaws ..
    · exact withSite_keepsLaws ..
    · exact withSite_keepsLaws ..
    · exact .refl s

theorem answerBadFrame_keepsLaws (s : State) : KeepsLaws s (answerBadFrame s) := (joinShort_keepsLaws ..).trans (.of_same rfl rfl)

end Requests

/-! ### The timer commands keep both laws -/

section Timers
variable {s : State} {i : Nat} {e : Entry}

theorem reach_keepsLaws (s : State) (d : Nat) : KeepsLaws s (reach s d) := .of_changesOnly (reach_changesOnly s d) (by decide) (by decide)

theorem entry_reach (he : s.entry i = some e) (d : Nat) : (reach s d).entry i = some e := (entry_of_entries (reach_entries ..) i).trans he

theorem expireMark_keepsLaws (s : State) : KeepsLaws s (expireMark s) := by
  unfold expireMark
  refine KeepsLaws.trans ?_ (startMark_keepsLaws _)
  split
  · exact .of_changesOnly (joinCounted_changesOnly _ _) (by decide) (by decide)
  · exact .refl s

theorem retryNew_keepsLaws (s : State) (n : Nat) (c : ClaimSlot) : KeepsLaws s (retryNew s n c) := by
  unfold retryNew
  dsimp only
  split
  · exact concludeSlot_keepsLaws ..
  · split
    · exact concludeSlot_keepsLaws ..
    · split
      · exact (allocate_takeSeq_keepsLaws s c.req).trans ((setSlot_keepsLaws ..).trans (join_keepsLaws ..))
      · exact setSlot_keepsLaws ..

theorem retryExtend_keepsLaws (s : State) (n : Nat) (c : ClaimSlot) : KeepsLaws s (retryExtend s n c) := by
  unfold retryExtend
  split
  · exact concludeSlot_keepsLaws ..
  · rename_i i e hretry
    obtain ⟨he, -⟩ := findEntry_spec s _ i e (Option.eq_some_of_filter_eq_some hretry)
    split
    · exact concludeSlot_keepsLaws ..
    · split
      · exact (setEntry_keepsLaws he (by rfl)).trans ((setSlot_keepsLaws ..).trans (join_keepsLaws ..))
      · exact setSlot_keepsLaws ..

theorem expireRetry_keepsLaws (s : State) (n : Nat) (c : ClaimSlot) : KeepsLaws s (expireRetry s n c) := by
  unfold expireRetry
  split
  · exact retryNew_keepsLaws ..
  · exact retryExtend_keepsLaws ..

theorem expireRestoreWait_keepsLaws (s : State) (i : Nat) : KeepsLaws s (expireRestoreWait s i) := by
  unfold expireRestoreWait
  split
  · exact .refl s
  · split
    · exact .refl s
    · split
      · exact changeState_keepsLaws ..
      · exact .refl s

theorem expireResend_keepsLaws (s : State) : KeepsLaws s (expireResend s) := by
  unfold expireResend
  split
  · exact .of_changesOnly (sendRecall_changesOnly s) (by decide) (by decide)
  · exact leaveRecovery_keepsLaws ..

theorem exec_markTimer_keepsLaws (s : State) : ∃ t, execMarkTimerExpiry s = .next t ∧ KeepsLaws s t := by
  refine ⟨_, rfl, ?_⟩
  split
  · exact (reach_keepsLaws ..).trans (expireMark_keepsLaws _)
  · exact .refl s

theorem exec_secondBoundary_keepsLaws (s : State) : ∃ t, execSecondBoundary s = .next t ∧ KeepsLaws s t := by
  refine ⟨_, rfl, ?_⟩
  split
  · exact (withNowMs_keepsLaws ..).trans (runSecond_keepsLaws _)
  · exact .refl s

theorem exec_circuitTimeout_keepsLaws (n : Nat) (s : State) : ∃ t, execCircuitTimeout n s = .next t ∧ KeepsLaws s t := by
  refine ⟨_, rfl, ?_⟩
  split
  · split
    · exact (reach_keepsLaws ..).trans (reachResult_keepsLaws ..)
    · exact .refl s
  · exact .refl s

theorem exec_tentativeLifetime_keepsLaws (i : Nat) (s : State) : ∃ t, execTentativeLifetimeExpiry i s = .next t ∧ KeepsLaws s t := by
  refine ⟨_, rfl, ?_⟩
  split
  · split
    · exact (reach_keepsLaws ..).trans ((freeEntry_keepsLaws ..).trans (raiseNotice_keepsLaws ..))
    · exact .refl s
  · exact .refl s

theorem exec_extensionLifetime_keepsLaws (i : Nat) (s : State) : ∃ t, execExtensionLifetimeExpiry i s = .next t ∧ KeepsLaws s t := by
  refine ⟨_, rfl, ?_⟩
  split
  · rename_i e he
    split
    · exact (reach_keepsLaws ..).trans ((setEntry_keepsLaws (entry_reach he _) (by rfl)).trans (raiseNotice_keepsLaws ..))
    · exact .refl s
  · exact .refl s

theorem exec_retryDeadline_keepsLaws (n : Nat) (s : State) : ∃ t, execRetryDeadline n s = .next t ∧ KeepsLaws s t := by
  refine ⟨_, rfl, ?_⟩
  split
  · split
    · exact (reach_keepsLaws ..).trans (expireRetry_keepsLaws ..)
    · exact .refl s
  · exact .refl s

theorem exec_ageDeadline_keepsLaws (k : Key) (m : Mode) (s : State) : ∃ t, execAgeDeadline k m s = .next t ∧ KeepsLaws s t := by
  refine ⟨_, rfl, ?_⟩
  split
  · exact (reach_keepsLaws ..).trans (discardRecent_keepsLaws ..)
  · exact .refl s

theorem exec_holdOff_keepsLaws (i : Nat) (s : State) : ∃ t, execHoldOffExpiry i s = .next t ∧ KeepsLaws s t := by
  refine ⟨_, rfl, ?_⟩
  split
  · split
    · exact attemptMarked_keepsLaws ((reach_keepsLaws ..).trans (expireHoldOff_keepsLaws ..)) i
    · exact .refl s
  · exact .refl s

theorem exec_restoreWait_keepsLaws (i : Nat) (s : State) : ∃ t, execRestoreWaitExpiry i s = .next t ∧ KeepsLaws s t := by
  refine ⟨_, rfl, ?_⟩
  split
  · split
    · exact attemptMarked_keepsLaws ((reach_keepsLaws ..).trans (expireRestoreWait_keepsLaws ..)) i
    · exact .refl s
  · exact .refl s

theorem exec_resend_keepsLaws (s : State) : ∃ t, execResendDeadline s = .next t ∧ KeepsLaws s t := by
  refine ⟨_, rfl, ?_⟩
  split
  · exact (reach_keepsLaws ..).trans (expireResend_keepsLaws _)
  · exact .refl s

theorem exec_quiet_keepsLaws (s : State) : ∃ t, execQuietDeadline s = .next t ∧ KeepsLaws s t := by
  refine ⟨_, rfl, ?_⟩
  split
  · exact (reach_keepsLaws ..).trans (leaveRecovery_keepsLaws ..)
  · exact .refl s

theorem exec_recoveryLimit_keepsLaws (s : State) : ∃ t, execRecoveryLimit s = .next t ∧ KeepsLaws s t := by
  refine ⟨_, rfl, ?_⟩
  split
  · exact (reach_keepsLaws ..).trans (leaveRecovery_keepsLaws ..)
  · exact .refl s

theorem exec_queryDeadline_keepsLaws (s : State) : ∃ t, execQueryDeadline s = .next t ∧ KeepsLaws s t := by
  refine ⟨_, rfl, ?_⟩
  split
  · exact (reach_keepsLaws ..).trans ((withBill_keepsLaws ..).trans (raiseNotice_keepsLaws ..))
  · exact .refl s

end Timers

/-! ### The monitors, the lane frames and the resets keep both laws -/

section Rest
variable {s : State}

theorem setSpan_keepsLaws (s : State) (side : Dir) (m : SpanMon) : KeepsLaws s (setSpan s side m) :=
  .of_same (setSpan_entries ..) (setSpan_bridged ..)

theorem reportSpan_keepsLaws (s : State) (side : Dir) (up : Bool) (c : SpanCause) : KeepsLaws s (reportSpan s side up c) := by
  unfold reportSpan
  dsimp only
  split_ifs
  · exact (raiseNotice_keepsLaws ..).trans (.of_changesOnly (joinCounted_changesOnly _ _) (by decide) (by decide))
  · exact raiseNotice_keepsLaws ..
  · exact .refl s

theorem loseSpan_keepsLaws (s : State) (side : Dir) (c : LossCause) : KeepsLaws s (loseSpan s side c) := by
  unfold loseSpan
  split
  · exact (setSpan_keepsLaws ..).trans (reportSpan_keepsLaws ..)
  · exact setSpan_keepsLaws ..

theorem exec_spanLoss_keepsLaws (side : Dir) (c : LossCause) (s : State) : ∃ t, execSpanLoss side c s = .next t ∧ KeepsLaws s t := by
  have hpins : KeepsLaws s (losePins s side c) := by cases side <;> cases c <;> exact .of_same rfl rfl
  have hside (u : State) : KeepsLaws u (generateSlot u side) := by
    unfold generateSlot
    split
    · exact emit_keepsLaws ..
    · exact putSlot_keepsLaws ..
  refine ⟨_, rfl, KeepsLaws.trans ?_ (hside _)⟩
  split
  · exact hpins.trans (loseSpan_keepsLaws ..)
  · exact hpins

theorem exec_spanReturn_keepsLaws (side : Dir) (s : State) : ∃ t, execSpanSignalReturn side s = .next t ∧ KeepsLaws s t := by
  have hpins : KeepsLaws s (restorePins s side) := by cases side <;> exact .of_same rfl rfl
  refine ⟨_, rfl, ?_⟩
  split
  · unfold regainSpan
    split
    · exact hpins.trans (setSpan_keepsLaws ..)
    · exact hpins
  · exact hpins

theorem exec_spanConfirmed_keepsLaws (side : Dir) (s : State) : ∃ t, execSpanConfirmed side s = .next t ∧ KeepsLaws s t := by
  refine ⟨_, rfl, ?_⟩
  split
  · exact (reach_keepsLaws ..).trans ((setSpan_keepsLaws ..).trans (reportSpan_keepsLaws ..))
  · exact .refl s

theorem exec_inputChange_keepsLaws (p : Nat) (b : Bool) (s : State) : ∃ t, execInputStateChange p b s = .next t ∧ KeepsLaws s t := by
  refine ⟨_, rfl, ?_⟩
  split <;> exact .of_same rfl rfl

theorem takeLanes_changesOnly (p : Period) (s : State) : changesOnly [.mons, .site] s (takeLanes p s) :=
  changesOnly_trans (forEach_changesOnly (fun u _ => updMon_changesOnly u _ _ _) _ s)
    (forEach_changesOnly (fun u _ => updMon_changesOnly u _ _ _) _ _)

theorem settleOne_changesOnly (p : Period) (s : State) (i : Nat) : changesOnly [.mons, .site] s (settleOne p s i) := by
  have hwatched (b : Bool) (u : State) (port : Dir) (l : List Nat) (f : LaneMon → LaneMon) :
      changesOnly [.mons, .site] u (if b then forEach l u (fun v lane => updMon v port lane f) else u) := by
    split
    · exact forEach_changesOnly (fun v _ => updMon_changesOnly v _ _ _) _ u
    · exact changesOnly_refl _ u
  unfold settleOne
  split
  · exact changesOnly_refl _ s
  · dsimp only
    split
    · exact changesOnly_trans (hwatched _ _ _ _ _) (hwatched _ _ _ _ _)
    · exact changesOnly_refl _ s

theorem selectOne_keepsLaws (p : Period) (s : State) (i : Nat) : KeepsLaws s (selectOne p s i) := by
  unfold selectOne
  split
  · exact .refl s
  · split
    · exact setEntry_keepsLaws ‹_› (by rfl)
    · exact .refl s

theorem framePeriod_keepsLaws (p : Period) (s : State) : KeepsLaws s (framePeriod p s) :=
  KeepsLaws.trans (.of_changesOnly (takeLanes_changesOnly p s) (by decide) (by decide))
    (KeepsLaws.trans (.of_changesOnly (forEach_changesOnly (settleOne_changesOnly p) _ _) (by decide) (by decide))
      ((forEach_keepsLaws (selectOne_keepsLaws p) _ _).trans (withSwitch_keepsLaws ..)))

theorem clearTentative_keepsLaws (s : State) (i : Nat) : KeepsLaws s (clearTentative s i) := by
  unfold clearTentative
  split
  · exact .refl s
  · split
    · exact freeEntry_keepsLaws ..
    · exact setEntry_keepsLaws ‹_› (by rfl)

theorem warmClear_keepsLaws (s : State) : KeepsLaws s (warmClear s) :=
  KeepsLaws.trans (t := clearSlots (clearQueues s)) (.of_same rfl rfl)
    ((forEach_keepsLaws clearTentative_keepsLaws _ _).trans (.of_changesOnly (clearBilling_changesOnly _) (by decide) (by decide)))

theorem remarkOne_keepsLaws (s : State) (i : Nat) : KeepsLaws s (remarkOne s i) := by
  unfold remarkOne
  split
  · exact .refl s
  · rename_i e he
    have hmarked : KeepsLaws s (setEntry s i (remark e)) := setEntry_keepsLaws he (by rfl)
    have hasked (b : Prop) [Decidable b] : KeepsLaws s (if b then attemptSwitchreq (setEntry s i (remark e)) i else setEntry s i (remark e)) := by
      split
      · exact hmarked.trans (attemptSwitchreq_keepsLaws ..)
      · exact hmarked
    dsimp only
    split
    · exact (hasked _).trans (attemptBridge_keepsLaws ..)
    · exact hasked _

theorem restartRecall_keepsLaws (s : State) : KeepsLaws s (restartRecall s) := by
  unfold restartRecall
  dsimp only
  split
  · exact (withRecov_keepsLaws ..).trans ((withRecov_keepsLaws ..).trans (.of_changesOnly (sendRecall_changesOnly _) (by decide) (by decide)))
  · exact withRecov_keepsLaws ..

theorem warmStart_keepsLaws (s : State) : KeepsLaws s (warmStart s) :=
  (withBill_keepsLaws ..).trans ((forEach_keepsLaws remarkOne_keepsLaws _ _).trans ((startMark_keepsLaws _).trans (restartRecall_keepsLaws _)))

theorem exec_warmReset_keepsLaws (s : State) : ∃ t, execWarmReset s = .next t ∧ KeepsLaws s t := by
  refine ⟨_, rfl, ?_⟩
  split
  · exact (warmClear_keepsLaws s).trans ((warmStart_keepsLaws _).trans (withSite_keepsLaws ..))
  · exact .refl s

/-- A cold reset comes back to the empty calendar and the empty set, which keep their laws (R49, R150, R199). -/
theorem exec_coldReset_keepsLaws (s : State) : ∃ t, execColdReset s = .next t ∧ KeepsLaws s t := by
  obtain ⟨-, -, -, hidentity, -, hbridged⟩ := resetMeetsLaws
  exact ⟨_, rfl, fun _ => hidentity, fun _ _ => hbridged⟩

theorem endLoad_keepsLaws (s : State) (image : List Byte) : KeepsLaws s (endLoad s image) := by
  unfold endLoad
  dsimp only
  split
  · exact KeepsLaws.trans (t := ((startReceiver (followInputs s)).withPhase .normal).withCfg (loadCfg image)) (.of_same rfl rfl)
      ((emit_keepsLaws ..).trans (emit_keepsLaws ..))
  · exact .of_same rfl rfl

/-! ### Every command and the tick -/

theorem exec_keepsLaws (c : Instr) (s : State) : ∃ t, exec c s = .next t ∧ KeepsLaws s t := by
  cases c
  case book | withdraw | extend | setClock | force | lockout | clearSwitch | readEntry | readMonitor | readMatch | closeMatch | takeStatement
      | remoteRead | restart => exact exec_request_keepsLaws rfl s
  case bypassSlotForward | slotDroppedOnWrap | emptySlotArrival | markReceived | unknownKindMessage | claimReceived | claimReturned
      | confirmReceived | abandonReceived | withdrawReceived | holdlostReceived | switchreqReceived | bridgeOnReceived | bridgeOffReceived
      | spanstateReceived | queryReceived | answerReceived | recallReceived | recallReturned | reannounceReceived =>
    exact exec_slot_keepsLaws rfl s
  case unknownRequest => exact ⟨_, rfl, by split <;> [exact .refl s; exact takeRequest_keepsLaws _ _ _ (.refl s)]⟩
  case badFrame => exact ⟨_, rfl, by split <;> [exact answerBadFrame_keepsLaws s; exact .refl s]⟩
  case interByteTimeout => exact ⟨_, rfl, by split <;> [exact answerBadFrame_keepsLaws s; exact .refl s]⟩
  case frameSent => exact ⟨_, rfl, sendNext_keepsLaws s⟩
  case warmReset => exact exec_warmReset_keepsLaws s
  case coldReset => exact exec_coldReset_keepsLaws s
  case configurationLoad image => exact ⟨_, rfl, by split <;> [exact endLoad_keepsLaws s image; exact .refl s]⟩
  case resetPinRelease => exact ⟨_, rfl, by split <;> [exact .of_same rfl rfl; exact .refl s]⟩
  case outboundJoin => exact ⟨_, rfl, by split <;> [exact joinWaiting_keepsLaws ..; exact .refl s]⟩
  case holdlostHeldOverJoin => exact ⟨_, rfl, .of_changesOnly (joinHeldOver_changesOnly s) (by decide) (by decide)⟩
  case walkResume => exact ⟨_, rfl, by split <;> [exact walkAt_keepsLaws ..; exact .refl s]⟩
  case markTimerExpiry => exact exec_markTimer_keepsLaws s
  case secondBoundary => exact exec_secondBoundary_keepsLaws s
  case chargeTake => exact ⟨_, rfl, takeCharge_keepsLaws s⟩
  case chargeCompletion =>
    refine ⟨_, rfl, ?_⟩
    split
    · exact .refl s
    · split
      · exact .refl s
      · split
        · exact completeCharge_keepsLaws ‹_› _
        · exact .refl s
  case circuitTimeout => exact exec_circuitTimeout_keepsLaws _ s
  case tentativeLifetimeExpiry => exact exec_tentativeLifetime_keepsLaws _ s
  case extensionLifetimeExpiry => exact exec_extensionLifetime_keepsLaws _ s
  case retryDeadline => exact exec_retryDeadline_keepsLaws _ s
  case ageDeadline => exact exec_ageDeadline_keepsLaws _ _ s
  case holdOffExpiry => exact exec_holdOff_keepsLaws _ s
  case restoreWaitExpiry => exact exec_restoreWait_keepsLaws _ s
  case resendDeadline => exact exec_resend_keepsLaws s
  case quietDeadline => exact exec_quiet_keepsLaws s
  case recoveryLimit => exact exec_recoveryLimit_keepsLaws s
  case queryDeadline => exact exec_queryDeadline_keepsLaws s
  case spanLoss => exact exec_spanLoss_keepsLaws _ _ s
  case spanSignalReturn => exact exec_spanReturn_keepsLaws _ s
  case spanConfirmed => exact exec_spanConfirmed_keepsLaws _ s
  case inputStateChange => exact exec_inputChange_keepsLaws _ _ s
  case laneFramePeriod => exact ⟨_, rfl, framePeriod_keepsLaws ..⟩

theorem idle_keepsLaws (s : State) : KeepsLaws s (idle s) := by
  unfold idle
  split
  · unfold passMs
    dsimp only
    split
    · exact withPending_keepsLaws ..
    · exact KeepsLaws.trans (.of_same (passTime_entries ..) (passTime_bridged ..)) (withPending_keepsLaws ..)
  · exact withPending_keepsLaws ..

/-- A step is the tick, or the front command on the queue's rest. -/
theorem step_keepsLaws {s t : State} (h : step s = .next t) : KeepsLaws s t := by
  unfold step at h
  split at h
  · obtain rfl := Host.Outcome.next.inj h
    exact idle_keepsLaws s
  · rename_i c rest _
    obtain ⟨u, hu, hkept⟩ := exec_keepsLaws c (s.withPending rest)
    obtain rfl : u = t := Host.Outcome.next.inj (hu.symm.trans h)
    exact (withPending_keepsLaws s rest).trans hkept

/-- Settles O9: every write of an entry keeps its key, and a new entry takes a key that the calendar does not hold, by the occupancy test or as the
free one of 65 sequences (R46, R47, R54). -/
theorem identityLawKept : Obligations.IdentityLawKept := fun _ _ hs h => (step_keepsLaws h).identity hs

/-- Settles O11: a key leaves the set when its entry is freed, and joins it only while the calendar holds it and the set has room (R49, R150). -/
theorem bridgedLawKept : Obligations.BridgedLawKept := fun _ _ hs hb h => (step_keepsLaws h).bridged hs hb

end Rest

end Sys2Proof.Machine

namespace Sys2Proof.Machine

/-! ### ReadEntry and ReadMonitor -/

section Reads
variable {s : State} {params : List Byte}

theorem fieldAt_byte (x : Byte) : fieldAt [x] 0 1 = x.toNat := by simp [fieldAt, numOf, byteAt]

/-- One parameter byte names an index (R52). -/
theorem handleReadEntry_index (x : Byte) (s : State) : handleReadEntry [x] s = readIndex s x.toNat := by
  rw [handleReadEntry, if_pos List.length_singleton, fieldAt_byte]

/-- Three parameter bytes name a key (R52). -/
theorem handleReadEntry_key (hlen : params.length = 3) (s : State) : handleReadEntry params s = readKey s (keyAt params 0) := by
  rw [handleReadEntry, if_neg (by omega)]

theorem readIndex_beyond {i : Nat} (hi : 63 < i) : readIndex s i = turnDown s .badRequest := if_pos hi

theorem readIndex_free {i : Nat} (hi : i ≤ 63) (he : s.entry i = none) : readIndex s i = { state := s, status := .done, data := .freeSlot } := by
  rw [readIndex, if_neg (show ¬ Config.entryCount ≤ i from Nat.not_le.2 (Nat.lt_succ_of_le hi)), he]

theorem readIndex_held {i : Nat} {e : Entry} (hi : i ≤ 63) (he : s.entry i = some e) :
    readIndex s i = { state := s, status := .done, data := .entry (viewEntry s i e) } := by
  rw [readIndex, if_neg (show ¬ Config.entryCount ≤ i from Nat.not_le.2 (Nat.lt_succ_of_le hi)), he]

theorem readKey_none {k : Key} (h : findEntry s k = none) : readKey s k = turnDown s .notFound := by rw [readKey, h]

theorem readKey_some {k : Key} {i : Nat} {e : Entry} (h : findEntry s k = some (i, e)) :
    readKey s k = { state := s, status := .done, data := .entry (viewEntry s i e) } := by rw [readKey, h]

/-- A ReadEntry answered with the state as it was leaves its reply and nothing else (R52). -/
theorem exec_readEntry {x : Status} {data : ReplyData} (h : portReady s) (tag : Byte) (hlen : params.length = 1 ∨ params.length = 3)
    (ha : handleReadEntry params s = { state := s, status := x, data := data }) :
    exec (.readEntry tag params) s = .next (onlyReply s tag codeReadEntry x data) := by
  have hl : lengthOk codeReadEntry params.length = true := by
    obtain hlen | hlen := hlen <;> rw [hlen] <;> rfl
  exact congrArg Host.Outcome.next (siteRequest_answered h tag hl ha)

/-- ReadMonitor is answered in bypass as well (R194, R195). -/
theorem exec_readMonitor (h : portFree s) (tag : Byte) :
    exec (.readMonitor tag []) s = .next (onlyReply s tag codeReadMonitor .done (.station (viewStation s))) := by
  obtain ⟨hrx, hreply, hrestart⟩ := h
  have hfree : isOccupied s = false := by simp [isOccupied, hreply, hrestart]
  have hchecked (handle : State → Answer) : checked codeReadMonitor [] handle s = handle s := by
    rw [checked, if_neg (by decide), if_neg (by simp)]
  refine congrArg Host.Outcome.next ?_
  rw [siteRequest, takeRequest, if_neg hrx, if_neg (by simp [hfree]), hchecked]
  rfl

end Reads

/-- Settles O25: by index and by key the handler goes by what the calendar holds, and every read hands its state back as it was. -/
theorem readsCopy : Obligations.ReadsCopy := by
  refine ⟨fun s tag x hport => ?_, fun s tag params hport hlen => ?_, fun s tag hport => ?_⟩
  · have hanswer {st : Status} {data : ReplyData} (h : readIndex s x.toNat = { state := s, status := st, data := data }) :
        exec (.readEntry tag [x]) s = .next (onlyReply s tag codeReadEntry st data) :=
      exec_readEntry hport tag (.inl rfl) ((handleReadEntry_index x s).trans h)
    exact ⟨fun hx => hanswer (readIndex_beyond hx), fun hx he => hanswer (readIndex_free hx he),
      fun e hx he => ⟨hanswer (readIndex_held hx he), rfl, rfl, rfl⟩⟩
  · have hanswer {st : Status} {data : ReplyData} (h : readKey s (keyAt params 0) = { state := s, status := st, data := data }) :
        exec (.readEntry tag params) s = .next (onlyReply s tag codeReadEntry st data) :=
      exec_readEntry hport tag (.inr hlen) ((handleReadEntry_key hlen s).trans h)
    exact ⟨fun hn => hanswer (readKey_none hn), fun i e he => hanswer (readKey_some he)⟩
  · exact ⟨exec_readMonitor hport tag, rfl, rfl, rfl, rfl, rfl, rfl, rfl, rfl⟩

end Sys2Proof.Machine

namespace Sys2Proof.Machine

/-! ### A scan of the calendar -/

/-- A test of the scan tells a property of the entries whose key is not the one skipped. -/
def Tells (s : State) (skip : Option Key) (p : Entry → Bool) (P : Entry → Prop) : Prop :=
  ∀ i e, s.entry i = some e → (p e = true ↔ skip ≠ some e.key ∧ P e)

section Scan
variable {s : State} {skip : Option Key} {p : Entry → Bool} {P : Entry → Prop}

theorem metAt_iff (h : Tells s skip p P) (i : Nat) : metAt s skip P i ↔ i < Config.entryCount ∧ ∃ e, s.entry i = some e ∧ p e = true :=
  and_congr_right fun _ => exists_congr fun e => and_congr_right fun he => (h i e he).symm

/-- The scan finds nothing where no entry has the property. -/
theorem firstEntry_of_never (h : Tells s skip p P) (hn : ∀ i, ¬ metAt s skip P i) : firstEntry s p = none := by
  cases hf : firstEntry s p with
  | none => rfl
  | some i => exact absurd ((metAt_iff h i).mpr (firstEntry_some hf).1) (hn i)

/-- The scan finds the first entry that has the property. -/
theorem firstEntry_of_firstAt (h : Tells s skip p P) {i : Nat} (hi : firstAt (metAt s skip P) i) : firstEntry s p = some i := by
  obtain ⟨hmet, hlow⟩ := hi
  obtain ⟨hlt, e, he, hp⟩ := (metAt_iff h i).mp hmet
  cases hf : firstEntry s p with
  | none => simp [firstEntry_none hf i e hlt he] at hp
  | some j =>
    obtain ⟨hj, hbelow⟩ := firstEntry_some hf
    have hji : ¬ j < i := fun hlt => hlow j hlt ((metAt_iff h j).mpr hj)
    have hij : ¬ i < j := fun hlt => by simp [hbelow i e hlt he] at hp
    rw [show j = i by omega]

end Scan

/-! ### What the tests of an entry tell -/

section Conflicts
variable {n : Nat} {u : Use} {e : Entry}

theorem isCommitted_iff (e : Entry) : isCommitted e = true ↔ standsFast e := by simp [isCommitted, standsFast]

theorem laneBusy_iff (he : 0 < e.bk.count) (hu : 0 < u.bk.count) : laneBusy n (u.reserve n) e = true ↔ givesLaneBusy u e := by
  unfold laneBusy givesLaneBusy
  rw [Bool.and_eq_true, isCommitted_iff]
  exact and_congr_right fun _ => spanConflict_iff n (windowUse e) u he hu

theorem portBusy_iff : portBusy n (u.reserve n) e = true ↔ givesPortBusy n u e := by
  unfold portBusy givesPortBusy
  rw [Bool.and_eq_true, isCommitted_iff]
  exact and_congr_right fun _ => portConflict_iff n (windowUse e) u

/-- A use meets a candidate by a span-lane or by a port. -/
theorem conflict_iff (w : Use) (hw : 0 < w.bk.count) (hu : 0 < u.bk.count) :
    (spanConflict (w.reserve n) (u.reserve n) || portConflict (w.reserve n) (u.reserve n)) = true ↔ laneClash w u ∨ portClash n w u := by
  rw [Bool.or_eq_true, spanConflict_iff n w u hw hu, portConflict_iff]

theorem contests_iff (he : 0 < e.bk.count) (hu : 0 < u.bk.count) : contests n (u.reserve n) e = true ↔ givesContested n none u e := by
  have hwindow := conflict_iff (n := n) (windowUse e) he hu
  unfold contests givesContested
  rw [Bool.or_eq_true, Bool.and_eq_true, Bool.and_eq_true, isCommitted_iff, beq_iff_eq]
  refine or_congr (and_congr_right fun _ => hwindow) ?_
  cases hx : e.ext with
  | none => simp [extReserve, hx]
  | some x =>
    have hpart := conflict_iff (n := n) (extensionUse e x) he hu
    simp only [extReserve, hx, Option.map_some, Option.some.injEq, exists_eq_left', reduceCtorEq, or_false]
    exact and_congr_right fun _ => hpart

theorem givesContested_key (key : Option Key) : givesContested n key u e ↔ givesContested n none u e ∨ key = some e.key := by
  simp [givesContested, or_assoc]

end Conflicts

/-! ### The precedence of the test -/

/-- The result of the three scans in the order of R46, and of the test for a free place after them. -/
def resultOf (lane port contested : Option Nat) (last : TestResult) : TestResult :=
  match lane, port, contested with
  | some i, _, _ => .fails .laneBusy (some i)
  | none, some i, _ => .fails .portBusy (some i)
  | none, none, some i => .fails .contested (some i)
  | none, none, none => last

/-- The test of a new booking is the three scans, then the place. -/
theorem testNew_eq (s : State) (key : Option Key) (cand : Reserve) :
    testNew s key cand
      = resultOf (firstEntry s (laneBusy s.self cand)) (firstEntry s (portBusy s.self cand))
          (firstEntry s (fun e => contests s.self cand e || key == some e.key))
          (if (firstFree s.entries).isSome then .pass else .fails .tableFull none) := by
  unfold testNew
  cases firstEntry s (laneBusy s.self cand) with
  | some i => rfl
  | none =>
    cases firstEntry s (portBusy s.self cand) with
    | some i => rfl
    | none => cases firstEntry s (fun e => contests s.self cand e || key == some e.key) <;> rfl

/-- The test of an extension is the three scans past its own entry. -/
theorem testExtend_eq (s : State) (key : Key) (cand : Reserve) :
    testExtend s key cand
      = resultOf (firstEntry s (fun e => e.key != key && laneBusy s.self cand e)) (firstEntry s (fun e => e.key != key && portBusy s.self cand e))
          (firstEntry s (fun e => e.key != key && contests s.self cand e)) .pass := by
  unfold testExtend
  cases firstEntry s (fun e => e.key != key && laneBusy s.self cand e) with
  | some i => rfl
  | none =>
    cases firstEntry s (fun e => e.key != key && portBusy s.self cand e) with
    | some i => rfl
    | none => cases firstEntry s (fun e => e.key != key && contests s.self cand e) <;> rfl

/-- Three scans that tell the three conflicts give the result of the precedence (R46). -/
theorem judged_resultOf {s : State} {skip key : Option Key} {u : Use} {needsPlace : Bool} {lane port contested : Entry → Bool} {last : TestResult}
    (hlane : Tells s skip lane (givesLaneBusy u)) (hport : Tells s skip port (givesPortBusy s.self u))
    (hcontested : Tells s skip contested (givesContested s.self key u))
    (hlast : last = if needsPlace = true ∧ firstFree s.entries = none then .fails .tableFull none else .pass) :
    judgedByPrecedence s skip key u needsPlace
      (resultOf (firstEntry s lane) (firstEntry s port) (firstEntry s contested) last) := by
  refine ⟨fun i hi => by rw [firstEntry_of_firstAt hlane hi]; rfl, fun hnoLane => ?_⟩
  rw [firstEntry_of_never hlane hnoLane]
  refine ⟨fun i hi => by rw [firstEntry_of_firstAt hport hi]; rfl, fun hnoPort => ?_⟩
  rw [firstEntry_of_never hport hnoPort]
  refine ⟨fun i hi => by rw [firstEntry_of_firstAt hcontested hi]; rfl, fun hnoContested => ?_⟩
  rw [firstEntry_of_never hcontested hnoContested]
  exact hlast

/-- A new booking is judged by the precedence, over every entry (R46). -/
theorem testNew_judged {s : State} (hs : ∀ i e, s.entry i = some e → 0 < e.bk.count) (key : Option Key) (u : Use) (hu : 0 < u.bk.count) :
    judgedByPrecedence s none key u true (testNew s key (u.reserve s.self)) := by
  rw [testNew_eq]
  refine judged_resultOf (fun i e he => ?_) (fun i e _ => ?_) (fun i e he => ?_) ?_
  · simpa using laneBusy_iff (hs i e he) hu
  · simpa using portBusy_iff
  · rw [Bool.or_eq_true, contests_iff (hs i e he) hu, beq_iff_eq, givesContested_key key]
    simp
  · cases firstFree s.entries <;> simp

/-- An extension is judged by the precedence, past the entry that it extends (R46). -/
theorem testExtend_judged {s : State} (hs : ∀ i e, s.entry i = some e → 0 < e.bk.count) (key : Key) (u : Use) (hu : 0 < u.bk.count) :
    judgedByPrecedence s (some key) none u false (testExtend s key (u.reserve s.self)) := by
  rw [testExtend_eq]
  have skipped {P : Entry → Prop} {p : Entry → Bool} {e : Entry} (h : p e = true ↔ P e) :
      (e.key != key && p e) = true ↔ some key ≠ some e.key ∧ P e := by
    rw [Bool.and_eq_true, bne_iff_ne, h, ne_comm, ne_eq, ne_eq, Option.some.injEq]
  exact judged_resultOf (fun i e he => skipped (laneBusy_iff (hs i e he) hu)) (fun i e _ => skipped portBusy_iff)
    (fun i e he => skipped (contests_iff (hs i e he) hu)) (by simp)

/-! ### The recently-assessed list -/

/-- No record of the list is of the key and mode. -/
def lacksRecord (l : List Recent) (k : Key) (mode : Mode) : Prop := l.find? (fun r => r.key == k && r.mode == mode) = none

theorem dropRecent_lacksRecord (l : List Recent) (k : Key) (mode : Mode) : lacksRecord (dropRecent l k mode) k mode := by
  refine List.find?_eq_none.mpr fun r hr => ?_
  obtain ⟨-, hkept⟩ := List.mem_filter.mp hr
  simpa [or_iff_not_imp_left] using hkept

theorem dropEarliest_lacksRecord {l : List Recent} {k : Key} {mode : Mode} (h : lacksRecord l k mode) : lacksRecord (dropEarliest l) k mode :=
  List.find?_eq_none.mpr fun r hr => List.find?_eq_none.mp h r (List.mem_of_mem_eraseP hr)

/-- A record at the end of a list that lacks its key and mode is the one that is found. -/
theorem find_append_of_lacksRecord {l : List Recent} {r : Recent} (h : lacksRecord l r.key r.mode) :
    (l ++ [r]).find? (fun x => x.key == r.key && x.mode == r.mode) = some r := by
  rw [List.find?_append, h]
  simp

/-- A record that joins is the record of its key and mode afterwards (R55). -/
theorem findRecent_addRecent (s : State) (k : Key) (mode : Mode) :
    findRecent (addRecent s k mode) k mode
      = some { key := k, mode := mode, limit := none, mark := .opened, age := after s Config.ageMs } := by
  refine find_append_of_lacksRecord (r := { key := k, mode := mode, limit := none, mark := .opened, age := after s Config.ageMs }) ?_
  split
  · exact dropRecent_lacksRecord ..
  · next hnone =>
    have hlacks : lacksRecord s.claims.recent k mode := by simpa [findRecent, lacksRecord] using hnone
    split
    · exact dropEarliest_lacksRecord hlacks
    · exact hlacks

/-! ### The test goes by the calendar and the configuration -/

theorem firstEntry_of_entries {s t : State} (he : t.entries = s.entries) (p : Entry → Bool) : firstEntry t p = firstEntry s p := by
  simp only [firstEntry, entry_of_entries he]

section Same
variable {s t : State} (he : t.entries = s.entries) (hc : t.cfg = s.cfg)
include he hc

theorem testNew_of_entries (key : Option Key) (cand : Reserve) : testNew t key cand = testNew s key cand := by
  simp only [testNew, firstEntry_of_entries he, self_of_cfg hc, he]

theorem testExtend_of_entries (key : Key) (cand : Reserve) : testExtend t key cand = testExtend s key cand := by
  simp only [testExtend, firstEntry_of_entries he, self_of_cfg hc]

end Same

/-! ### A CLAIM that passes -/

section Claim
variable {s u : State} {port : Dir} {h : Header} {b b' : ClaimBody} {parts : List Part}

/-- A CLAIM that passes leaves with what the claim processor writes into it, in the state that the processor leaves (R15 to R17). -/
theorem exec_claim_passes (hp : passes s port h) :
    exec (.claimReceived port false h b) s
      = .next (emit (actClaim (noteFar s port false) { origin := h.origin, seq := h.seq } b).1 (opp port)
          (some (hopped { hdr := h, body := .claim (actClaim (noteFar s port false) { origin := h.origin, seq := h.seq } b).2 }))) := by
  obtain ⟨ho, -⟩ := id hp
  have hopen : wrapped (act (noteFar s port false) port (hopped { hdr := h, body := .claim b })).1 (opp port) = false :=
    (wrapped_of_shell (act_shell ..) _).trans (open_not_wrapped s port ho).2
  have harrive := (arriveFull_passes s port { hdr := h, body := .claim b } hp).trans (forward_open hopen _)
  exact congrArg Host.Outcome.next harrive

/-- What a CLAIM that passes does, from what the claim processor does to the calendar and the claim store. -/
theorem claim_passes (hp : passes s port h) (hact : actClaim (noteFar s port false) { origin := h.origin, seq := h.seq } b = (u, b'))
    (hu : changesOnly parts (noteFar s port false) u) (hparts : Part.lane ∉ parts) :
    ∃ t, exec (.claimReceived port false h b) s = .next t ∧ t.entries = u.entries ∧ t.claims = u.claims ∧ passedOn s t port h (.claim b')
      ∧ queuesKept s t ∧ changesOnly (.lane :: parts) s t := by
  obtain ⟨ho, -⟩ := id hp
  have hshell : u.shell = (noteFar s port false).shell := by
    have := actClaim_shell (noteFar s port false) { origin := h.origin, seq := h.seq } b
    rwa [hact] at this
  have hlane : u.lane = (noteFar s port false).lane := changesOnly_lane hu hparts
  refine ⟨_, (exec_claim_passes hp).trans (by rw [hact]), by simp, by simp, passedOn_emit h _ ho hshell, ?_, ?_⟩
  · refine queuesKept_trans (noteFar_queuesKept s port false) (queuesKept_trans ?_ (emit_queuesKept ..))
    unfold queuesKept
    rw [hlane]
    exact ⟨rfl, rfl, rfl, rfl⟩
  · have hlaneOnly : [Part.lane] ⊆ Part.lane :: parts := by simp
    exact changesOnly_trans (changesOnly_mono (noteFar_changesOnly s port false) hlaneOnly)
      (changesOnly_trans (changesOnly_mono hu (List.subset_cons_self ..)) (changesOnly_mono (emit_changesOnly _ _ _) hlaneOnly))

/-- A Clear CLAIM at a Synced station that has a role for it and is not Recovering is assessed by its mode (R62). -/
theorem actClaim_assesses {k : Key} (hclear : b.verdict = .clear) (hsynced : s.clock.synced = true) (hrecov : s.recov.state ≠ .recovering)
    (hroles : rolesOf s.ring k b.bk s.self ≠ []) :
    (b.mode = .new → actClaim s k b = assessNew s k b) ∧ (b.mode = .extend → actClaim s k b = assessExtend s k b) := by
  constructor <;> intro hmode <;> simp [actClaim, hclear, hsynced, hrecov, hroles, hmode]

/-- The verdict Clear written into a Clear CLAIM leaves the assessed bit alone to change (R61). -/
theorem assessedAs_clear (s : State) (hclear : b.verdict = .clear) :
    assessedAs s b .clear = { b with assessed := stationAdd b.assessed s.self } := by rw [assessedAs, ← hclear]

/-- A New CLAIM that passes the test takes the lowest free place, with a record (R63). -/
theorem assessNew_pass {k : Key} {i : Nat} (hfree : firstFree s.entries = some i) (htest : testNew s (some k) (newCandidate s k b.bk) = .pass) :
    assessNew s k b = (addRecent (setEntry s i (freshEntry k b.bk (rolesOf s.ring k b.bk s.self) .tentative
      (some (after s Config.tentativeMs)) false)) k .new, assessedAs s b .clear) := by
  simp [assessNew, htest, allocate, hfree]

theorem assessNew_fails {k : Key} {r : Reason} {first : Option Nat} (htest : testNew s (some k) (newCandidate s k b.bk) = .fails r first) :
    assessNew s k b = (s, assessedAs s b (.refused r s.self)) := by simp [assessNew, htest]

/-- An Extend CLAIM that passes the test adds the pending part to the committed entry, with a record (R64). -/
theorem assessExtend_pass {k : Key} {i : Nat} {e : Entry} (hfind : findEntry s k = some (i, e)) (hstands : isCommitted e = true)
    (hext : e.ext = none) (htest : testExtend s k (extendCandidate s e b.bk.winEnd) = .pass) :
    assessExtend s k b = (addRecent (setEntry s i { e with
      ext := some { oldEnd := e.bk.winEnd, newEnd := b.bk.winEnd, lifetime := some (after s Config.tentativeMs) } }) k .extend,
      assessedAs s b .clear) := by
  simp [assessExtend, hfind, hstands, hext, htest]

theorem addRecent_setEntry_entries (s : State) (i : Nat) (e : Entry) (k : Key) (mode : Mode) :
    (addRecent (setEntry s i e) k mode).entries = s.entries.set i (some e) := rfl

/-- An entry and a record change the calendar and the claim store alone. -/
theorem addRecent_setEntry_changesOnly (s : State) (i : Nat) (e : Entry) (k : Key) (mode : Mode) :
    changesOnly [.entries, .claims] s (addRecent (setEntry s i e) k mode) :=
  changesOnly_trans (changesOnly_mono (setEntry_changesOnly s i e) (by decide)) (changesOnly_mono (withClaims_changesOnly _ _) (by decide))

end Claim

/-- Settles O39: the claim processor works in the state that has the indication noted, whose calendar, clock and configuration are the
station's own; the test is judged scan by scan. -/
theorem claimAssessed : Obligations.ClaimAssessed := by
  refine ⟨fun s port h b hp hclear hsynced hrecov hroles => ?_, fun s hs => ⟨fun key k bk hbk => testNew_judged hs key _ hbk,
    fun e newEnd he => testExtend_judged hs e.key _ he⟩⟩
  obtain ⟨hnew, hextend⟩ := actClaim_assesses (s := noteFar s port false) (k := { origin := h.origin, seq := h.seq }) (b := b) hclear
    (by simpa using hsynced) (by simpa using hrecov) (by simpa using hroles)
  have hentries := noteFar_entries s port false
  have hcfg := noteFar_cfg s port false
  have hnow := noteFar_nowMs s port false
  have hjudge (key : Key) : testNew (noteFar s port false) (some key) (newCandidate (noteFar s port false) key b.bk)
      = testNew s (some key) (newCandidate s key b.bk) := by
    rw [testNew_of_entries hentries hcfg, newCandidate, self_noteFar, ring_noteFar, newCandidate]
  refine ⟨fun i hmode hfree htest => ?_, fun r first hmode htest => ?_, fun i e hmode hfind hstands hext htest => ?_⟩
  · have hact := (hnew hmode).trans (assessNew_pass (by rwa [hentries]) ((hjudge _).trans htest))
    rw [assessedAs_clear _ hclear, self_noteFar, ring_noteFar] at hact
    obtain ⟨t, hexec, ht, hclaims, hpassed, hqueues, hparts⟩ := claim_passes hp hact (addRecent_setEntry_changesOnly _ _ _ _ _) (by decide)
    refine ⟨t, hexec, ?_, ?_, ?_, ?_, hpassed, hqueues, hparts⟩
    · rw [ht, addRecent_setEntry_entries, hentries, after, hnow]
      rfl
    · rw [findRecent, hclaims, ← findRecent, findRecent_addRecent, after, setEntry_nowMs, hnow]
      rfl
    · rw [hclaims]
      simp [addRecent]
    · rw [hclaims]
      simp [addRecent]
  · have hact := (hnew hmode).trans (assessNew_fails ((hjudge _).trans htest))
    rw [assessedAs, self_noteFar] at hact
    obtain ⟨t, hexec, -, -, hpassed, hqueues, hparts⟩ := claim_passes hp hact (changesOnly_refl [] _) (by decide)
    exact ⟨t, hexec, hpassed, hqueues, hparts⟩
  · have hcand : extendCandidate (noteFar s port false) e b.bk.winEnd = extendCandidate s e b.bk.winEnd := by
      rw [extendCandidate, self_noteFar, extendCandidate]
    have hact := (hextend hmode).trans (assessExtend_pass ((findEntry_of_entries hentries _).trans hfind) hstands hext
      (by rw [hcand, testExtend_of_entries hentries hcfg, htest]))
    rw [assessedAs_clear _ hclear, self_noteFar] at hact
    obtain ⟨t, hexec, ht, -, hpassed, hqueues, hparts⟩ := claim_passes hp hact (addRecent_setEntry_changesOnly _ _ _ _ _) (by decide)
    refine ⟨t, hexec, ?_, hpassed, hqueues, hparts⟩
    rw [ht, addRecent_setEntry_entries, hentries, after, hnow]
    rfl

end Sys2Proof.Machine

namespace Sys2Proof.Machine

/-! ### The parameter bytes of a Book -/

/-- The 16 bytes of a Book's parameters before its drops (Table 11-8). -/
def bookFront (b : Booking) : List Byte :=
  bytes3 b.matchId ++ [classByte b, byteOf b.first, byteOf b.count] ++ bytes4 b.winStart ++ bytes4 b.winEnd
    ++ [byteOf b.input, byteOf b.drops.length]

theorem bookBytes_eq (b : Booking) : bookBytes b = bookFront b ++ (dropBytes 4 b.drops ++ []) := by simp [bookBytes, bookFront]

theorem bookBytes_length (b : Booking) : (bookBytes b).length = 24 := by
  rw [bookBytes_eq, List.length_append, List.append_nil, dropBytes_length]
  rfl

theorem bookBytes_holdsBooking {b : Booking} (hb : b.wf = true) : HoldsBooking (bookBytes b) 0 14 b where
  matchId := rfl
  cls := rfl
  first := rfl
  count := rfl
  winStart := rfl
  winEnd := rfl
  input := rfl
  size := rfl
  drops := by
    simp only [Booking.wf, Bool.and_eq_true, decide_eq_true_eq, List.all_eq_true] at hb
    rw [bookBytes_eq]
    exact dropsAt_dropBytes (bookFront b) [] 4 b.drops hb.1.2 hb.2

/-- A booking that passes R57 has at most four drops. -/
theorem drops_of_bookingOk {n origin : Nat} {b : Booking} (h : bookingOk n origin b = true) : b.drops.length ≤ 4 := by
  simp only [bookingOk, dropsOk, Bool.and_eq_true, decide_eq_true_eq] at h
  obtain ⟨-, ⟨⟨⟨-, hsize⟩, -⟩, -⟩, -⟩ := h
  exact hsize

/-- Settles O14: the parameter bytes hold the booking field by field, and what R57 asks of the fields is asked of the booking. -/
theorem bookParamsRoundTrip : Obligations.BookParamsRoundTrip := by
  intro n origin b hb hok
  have hheld := bookBytes_holdsBooking hb
  obtain ⟨hbooking, hclass⟩ := bookingAt_eq hb hheld
  have hsize : fieldAt (bookBytes b) 15 1 = b.drops.length :=
    hheld.size.trans (numOf_byteOf (Nat.lt_of_le_of_lt (drops_of_bookingOk hok) (by decide)))
  refine ⟨bookBytes_length b, ?_⟩
  rw [Nat.zero_add] at hclass
  rw [bookParams, hclass, classOfCode_classCode]
  simp [hbooking, hok, hsize, drops_of_bookingOk hok]

end Sys2Proof.Machine

namespace Sys2Proof.Machine

/-! ### Messages that join after other work -/

/-- A message that joined the queues of a state has joined those of any state with the same queues and number. -/
theorem joins_of_queues {s u t : State} {d : Dir} {n : Nat} {b : Body} (h : joins u t d n b) (hq : ∀ x, u.queue x = s.queue x) (hc : u.cfg = s.cfg) :
    joins s t d n b := by
  obtain ⟨hown, hother⟩ := h
  have hmsg : newMsg u d n b = newMsg s d n b := by rw [newMsg, self_of_cfg hc, newMsg]
  exact ⟨by rw [hown, hq, hmsg], by rw [hother, hq]⟩

/-- A message that joined before the calendar or another store changed. -/
theorem joins_from_lane {s u t : State} {d : Dir} {n : Nat} {b : Body} (h : joins u t d n b) (hl : u.lane = s.lane) (hc : u.cfg = s.cfg) :
    joins s t d n b := joins_of_queues h (queue_of_lane hl) hc

theorem canJoin_of_lane {s t : State} (h : t.lane = s.lane) (d : Dir) : canJoin t d = canJoin s d := by
  simp only [canJoin, hasPlace, queue_of_lane h, heldFor, h]

theorem canJoin_noteFar (s : State) (port d : Dir) (b : Bool) : canJoin (noteFar s port b) d = canJoin s d := by
  have hheld : heldFor (noteFar s port b) d = heldFor s d := by cases port <;> rfl
  simp only [canJoin, hasPlace, queue_noteFar, hheld]

/-! ### The time that a timer command brings -/

/-- Work that starts when the deadline has come leaves the time there (R24, R29). -/
theorem timed {s t : State} {d : Nat} {ps : List Part} (h : changesOnly ps (reach s d) t) (hn : Part.nowMs ∉ ps) (hc : Part.clock ∉ ps) :
    timeCame s t d ∧ t.clock.markDeadline = s.clock.markDeadline ∧ changesOnly (.nowMs :: .clock :: ps) s t := by
  have hnow := changesOnly_nowMs h hn
  have hclock := changesOnly_clock h hc
  refine ⟨⟨by rw [hnow, reach_nowMs], by rw [hclock, reach_synced], by rw [hclock, reach_seconds], by rw [hclock, reach_ran]⟩,
    by rw [hclock, reach_markDeadline], ?_⟩
  exact changesOnly_trans (changesOnly_mono (reach_changesOnly s d) (by simp)) (changesOnly_mono h (by simp))

@[simp] theorem now_reach (s : State) (d : Nat) : (reach s d).now = s.now := reach_seconds s d
@[simp] theorem self_reach (s : State) (d : Nat) : (reach s d).self = s.self := self_of_cfg (reach_cfg s d)
@[simp] theorem ring_reach (s : State) (d : Nat) : (reach s d).ring = s.ring := by rw [State.ring, reach_cfg, State.ring]
@[simp] theorem now_noteFar (s : State) (port : Dir) (b : Bool) : (noteFar s port b).now = s.now := now_of_clock (noteFar_clock ..)

/-! ### Entries and claim slots -/

/-- The entry that a key finds stands at its index under that key. -/
theorem entry_of_findEntry {s : State} {k : Key} {i : Nat} {e : Entry} (h : findEntry s k = some (i, e)) : s.entry i = some e :=
  (findEntry_spec s k i e h).1

theorem key_of_findEntry {s : State} {k : Key} {i : Nat} {e : Entry} (h : findEntry s k = some (i, e)) : e.key = k := (findEntry_spec s k i e h).2

theorem lookup_of_findEntry {s : State} {k : Key} {i : Nat} {e : Entry} (h : findEntry s k = some (i, e)) : lookup s k = some i := by
  unfold findEntry at h
  split at h
  · rename_i j hj
    cases hs : s.entry j with
    | none => simp [hs] at h
    | some f =>
      simp only [hs, Option.map_some, Option.some.injEq, Prod.mk.injEq] at h
      rw [hj, h.1]
  · cases h

theorem slot_setSlot_same {s : State} {n : Nat} {c : ClaimSlot} (h : s.slot n = some c) (v : Option ClaimSlot) : (setSlot s n v).slot n = v :=
  placeAt_set_same _ _ _ (placeAt_lt _ _ _ h)

theorem slot_setSlot_ne (s : State) {n x : Nat} (h : x ≠ n) (v : Option ClaimSlot) : (setSlot s n v).slot x = s.slot x :=
  placeAt_set_ne _ _ _ _ h.symm

theorem slot_of_claims {s t : State} (h : t.claims = s.claims) (n : Nat) : t.slot n = s.slot n := by simp [State.slot, h]

theorem concludeSlot_claims (s : State) (n : Nat) (c : ClaimSlot) (o : Outcome) : (concludeSlot s n c o).claims = (setSlot s n none).claims :=
  raiseNotice_claims ..

theorem slot_concludeSlot_ne (s : State) {n x : Nat} (h : x ≠ n) (c : ClaimSlot) (o : Outcome) : (concludeSlot s n c o).slot x = s.slot x :=
  (slot_of_claims (concludeSlot_claims s n c o) x).trans (slot_setSlot_ne s h none)

/-- Writing back the entry that stands at an index changes nothing. -/
theorem set_entry_self {s : State} {i : Nat} {e : Entry} (h : s.entry i = some e) : s.entries.set i (some e) = s.entries := by
  refine List.ext_getElem? fun j => ?_
  by_cases hij : i = j
  · subst hij
    have hlt := placeAt_lt _ _ _ h
    have hget : s.entries[i] = some e := by simpa [State.entry, placeAt, hlt] using h
    simp [hlt, hget]
  · rw [List.getElem?_set_ne hij]

end Sys2Proof.Machine

namespace Sys2Proof.Machine

/-! ### A claim that starts -/

/-- A claim starts: its entry is written, its slot filled, its CLAIM queued (R59, R70, R77). -/
def claimStarted (s : State) (i : Nat) (e : Entry) (n : Nat) (c : ClaimSlot) (d : Dir) (seq : Nat) (b : Body) : State :=
  join (setSlot (setEntry s i e) n (some c)) d seq b

section Started
variable (s : State) (i : Nat) (e : Entry) (n : Nat) (c : ClaimSlot) (d : Dir) (seq : Nat) (b : Body)

theorem claimStarted_entries : (claimStarted s i e n c d seq b).entries = s.entries.set i (some e) := join_entries ..
theorem claimStarted_claims : (claimStarted s i e n c d seq b).claims = { s.claims with slots := s.claims.slots.set n (some c) } := join_claims ..
theorem claimStarted_site : (claimStarted s i e n c d seq b).site = s.site := join_site ..
theorem claimStarted_counter : (claimStarted s i e n c d seq b).lane.counter = s.lane.counter := by cases d <;> rfl

theorem claimStarted_notices : (claimStarted s i e n c d seq b).site.notices = s.site.notices := congrArg Site.notices (claimStarted_site ..)

theorem slot_claimStarted {c₀ : ClaimSlot} (h : s.slot n = some c₀) : (claimStarted s i e n c d seq b).slot n = some c := by
  rw [State.slot, claimStarted_claims]
  exact placeAt_set_same _ _ _ (placeAt_lt _ _ _ h)

theorem claimStarted_joins : joins s (claimStarted s i e n c d seq b) d seq b :=
  joins_from_lane (joins_join (setSlot (setEntry s i e) n (some c)) d seq b) rfl rfl

theorem claimStarted_changesOnly : changesOnly [.lane, .entries, .claims] s (claimStarted s i e n c d seq b) :=
  changesOnly_trans (changesOnly_mono (setEntry_changesOnly s i e) (by decide))
    (changesOnly_trans (changesOnly_mono (setSlot_changesOnly _ n _) (by decide)) (changesOnly_mono (join_changesOnly _ d seq b) (by decide)))

end Started

theorem claimBody_new (s : State) (b : Booking) :
    claimBody s .new b = .claim { mode := .new, bk := b, verdict := .clear, assessed := stationBit s.self } := rfl

theorem takeSeq_changesOnly (s : State) : changesOnly [.claims] s (takeSeq s) := withClaims_changesOnly _ _

/-- The Tentative entry of a booking of this station's under the sequence that it takes (R59). -/
def ownTentative (s : State) (b : Booking) : Entry := freshEntry (nextKey s) b (rolesOf s.ring (nextKey s) b s.self) .tentative none false

theorem allocate_takeSeq {s : State} {i : Nat} (b : Booking) (hfree : firstFree s.entries = some i) :
    allocate (takeSeq s) (nextKey s) b .tentative none false = setEntry (takeSeq s) i (ownTentative s b) := by
  rw [allocate, takeSeq_entries, hfree]
  rfl

/-! ### BOOK -/

section Book
variable {s : State} {b : Booking} {n i : Nat}

/-- A booking taken is a claim started under the sequence taken (R59). -/
theorem takeBooking_eq (hfree : firstFree s.entries = some i) :
    takeBooking s n b = claimStarted (takeSeq s) i (ownTentative s b) n (newSlot s .new (nextKey s) (nextKey s) b b.winEnd 1) b.dir
      (nextKey s).seq (claimBody s .new b) := by
  rw [claimStarted, ← allocate_takeSeq b hfree]
  rfl

theorem handleBook_none {params : List Byte} (h : bookParams s.ring s.self params = none) : handleBook params s = turnDown s .badRequest := by
  rw [handleBook, h]

theorem handleBook_some {params : List Byte} (h : bookParams s.ring s.self params = some b) : handleBook params s = handleBooking s b := by
  rw [handleBook, h]

/-- The window test is that of R58. -/
theorem windowOk_iff (now : Nat) (b : Booking) : windowOk now b = true ↔
    now + 10 ≤ b.winStart ∧ b.winStart ≤ now + 1209600 ∧ b.winStart + 60 ≤ b.winEnd ∧ b.winEnd ≤ b.winStart + 28800 := by
  simp only [windowOk, Bool.and_eq_true, decide_eq_true_eq, and_assoc]

theorem handleBooking_unsynced (h : s.clock.synced = false) : handleBooking s b = turnDown s .notSynced := by simp [handleBooking, h]

theorem handleBooking_recovering (hs : s.clock.synced = true) (hr : s.recov.state = .recovering) :
    handleBooking s b = turnDown s .recovering := by simp [handleBooking, hs, hr]

theorem handleBooking_badWindow (hs : s.clock.synced = true) (hr : s.recov.state ≠ .recovering) (hw : windowOk s.now b = false) :
    handleBooking s b = turnDown s (.refused .badWindow) := by simp [handleBooking, hs, hr, hw]

theorem handleBooking_noSlot (hs : s.clock.synced = true) (hr : s.recov.state ≠ .recovering) (hw : windowOk s.now b = true)
    (hslot : firstFree s.claims.slots = none) : handleBooking s b = turnDown s .busy := by simp [handleBooking, hs, hr, hw, hslot]

theorem handleBooking_fails {r : Reason} {first : Option Nat} (hs : s.clock.synced = true) (hr : s.recov.state ≠ .recovering)
    (hw : windowOk s.now b = true) (hslot : firstFree s.claims.slots = some n)
    (htest : testNew s none (newCandidate s (nextKey s) b) = .fails r first) : handleBooking s b = turnDown s (.refused r) := by
  simp [handleBooking, hs, hr, hw, hslot, htest]

theorem handleBooking_noQueue (hs : s.clock.synced = true) (hr : s.recov.state ≠ .recovering) (hw : windowOk s.now b = true)
    (hslot : firstFree s.claims.slots = some n) (htest : testNew s none (newCandidate s (nextKey s) b) = .pass)
    (hjoin : canJoinSite s b.dir = false) : handleBooking s b = turnDown s .busy := by
  simp [handleBooking, hs, hr, hw, hslot, htest, hjoin]

theorem handleBooking_passes (hs : s.clock.synced = true) (hr : s.recov.state ≠ .recovering) (hw : windowOk s.now b = true)
    (hslot : firstFree s.claims.slots = some n) (htest : testNew s none (newCandidate s (nextKey s) b) = .pass)
    (hjoin : canJoinSite s b.dir = true) :
    handleBooking s b = { state := takeBooking s n b, status := .accepted, data := .key (nextKey s) } := by
  simp [handleBooking, hs, hr, hw, hslot, htest, hjoin]

theorem lengthOk_book {params : List Byte} (h : params.length = 24) : lengthOk codeBook params.length = true := by rw [h]; rfl

end Book

/-- Settles O18: the booking that passes is a claim started. -/
theorem bookTakesBooking : Obligations.BookTakesBooking := by
  intro s tag params b n i hready hlen hb hsync hrecov hwin hslot hfree htest hjoin
  have hanswer := (handleBook_some hb).trans (handleBooking_passes hsync hrecov hwin hslot htest hjoin)
  rw [takeBooking_eq hfree] at hanswer
  refine ⟨_, congrArg Host.Outcome.next (siteRequest_answered hready tag (lengthOk_book hlen) hanswer), ?_, ?_, ?_, ?_, ?_, ?_, ?_⟩
  · exact claimStarted_entries ..
  · exact claimStarted_claims ..
  · exact joins_from_lane (claimStarted_joins ..) rfl rfl
  · exact claimStarted_counter ..
  · exact claimStarted_notices ..
  · exact repliesWith_of_site (s := s) tag _ _ _ (claimStarted_site ..)
  · exact changesOnly_trans (changesOnly_mono (takeSeq_changesOnly s) (by decide))
      (changesOnly_trans (changesOnly_mono (claimStarted_changesOnly _ _ _ _ _ _ _ _) (by decide))
        (changesOnly_mono (withSite_changesOnly _ _) (by decide)))

/-- Settles O19, check by check in the order of R57 and R58. -/
theorem bookTurnedDown : Obligations.BookTurnedDown := by
  intro s tag params hready hlen
  have hdown {x : Status} (h : handleBook params s = turnDown s x) :
      exec (.book tag params) s = .next (onlyReply s tag codeBook x .none) :=
    congrArg Host.Outcome.next (siteRequest_turnDown hready tag (lengthOk_book hlen) h)
  refine ⟨fun hb => hdown (handleBook_none hb), fun b hb => ?_⟩
  have hbooking := handleBook_some hb
  refine ⟨fun hs => ?_, fun hs hr => ?_, fun hs hr hw => ?_, fun hs hr hw hslot => ?_, fun n r first hs hr hw hslot htest => ?_,
    fun n hs hr hw hslot htest hjoin => ?_⟩
  · exact hdown (hbooking.trans (handleBooking_unsynced hs))
  · exact hdown (hbooking.trans (handleBooking_recovering hs hr))
  · exact hdown (hbooking.trans (handleBooking_badWindow hs hr (Bool.eq_false_iff.mpr fun h => hw ((windowOk_iff _ _).mp h))))
  · exact hdown (hbooking.trans (handleBooking_noSlot hs hr hw hslot))
  · exact hdown (hbooking.trans (handleBooking_fails hs hr hw hslot htest))
  · exact hdown (hbooking.trans (handleBooking_noQueue hs hr hw hslot htest hjoin))

/-! ### EXTEND -/

section Extend
variable {s : State} {e : Entry} {n i newEnd : Nat}

/-- The committed entry with the extension part that an Extend gives it (R77). -/
def extending (e : Entry) (newEnd : Nat) : Entry := { e with ext := some { oldEnd := e.bk.winEnd, newEnd := newEnd, lifetime := none } }

theorem takeExtension_eq : takeExtension s n i e newEnd
    = claimStarted s i (extending e newEnd) n (newSlot s .extend e.key e.key { e.bk with winEnd := newEnd } e.bk.winEnd 1) e.bk.dir e.key.seq
        (claimBody s .extend { e.bk with winEnd := newEnd }) := rfl

/-- An Extend whose checks all pass is taken (R77). -/
theorem extendEntry_passes (horigin : e.key.origin = s.self) (hstate : isCommitted e = true) (hrecov : s.recov.state ≠ .recovering)
    (hholds : slotHolds s e.key = false) (hmarker : e.marker = none) (hlow : e.bk.winEnd < newEnd) (hhigh : newEnd ≤ e.bk.winStart + 28800)
    (hslot : firstFree s.claims.slots = some n) (htest : testExtend s e.key (extendCandidate s e newEnd) = .pass)
    (hjoin : canJoinSite s e.bk.dir = true) :
    extendEntry s i e newEnd = { state := takeExtension s n i e newEnd, status := .accepted, data := .key e.key } := by
  have hwindow : (decide (newEnd ≤ e.bk.winEnd) || decide (e.bk.winStart + 28800 < newEnd)) = false :=
    Bool.or_eq_false_iff.mpr ⟨decide_eq_false (by omega), decide_eq_false (by omega)⟩
  simp [extendEntry, horigin, hstate, hrecov, hholds, hmarker, hwindow, hslot, htest, hjoin]

end Extend

/-- Settles O21: the extension that passes is a claim started. -/
theorem extendTakesExtension : Obligations.ExtendTakesExtension := by
  intro s tag params i n e hready hlen hfind horigin hstate hrecov hholds hmarker hlow hhigh hslot htest hjoin
  have hanswer : handleExtend params s = { state := takeExtension s n i e (fieldAt params 3 4), status := .accepted, data := .key e.key } := by
    simp only [handleExtend, hfind]
    exact extendEntry_passes horigin ((isCommitted_iff e).mpr hstate) hrecov hholds hmarker hlow hhigh hslot htest hjoin
  have hl : lengthOk codeExtend params.length = true := by rw [hlen]; rfl
  rw [takeExtension_eq] at hanswer
  refine ⟨_, congrArg Host.Outcome.next (siteRequest_answered hready tag hl hanswer), ?_, ?_, ?_, ?_, ?_, ?_⟩
  · exact claimStarted_entries ..
  · exact claimStarted_claims ..
  · exact claimStarted_joins ..
  · exact claimStarted_notices ..
  · exact repliesWith_of_site (s := s) tag _ _ _ (claimStarted_site ..)
  · exact changesOnly_trans (changesOnly_mono (claimStarted_changesOnly _ _ _ _ _ _ _ _) (by decide))
      (changesOnly_mono (withSite_changesOnly _ _) (by decide))

/-! ### RETRY_DEADLINE -/

section Retry
variable {s : State} {n d : Nat} {c : ClaimSlot}

theorem freeSeq_of_entries {s t : State} (he : t.entries = s.entries) (hc : t.cfg = s.cfg) (fuel n : Nat) : freeSeq t fuel n = freeSeq s fuel n := by
  induction fuel generalizing n with
  | zero => rfl
  | succ fuel ih => simp only [freeSeq, lookup_of_entries he, self_of_cfg hc, ih]

/-- The local time has no part in the sequence that is taken next (R54). -/
theorem nextKey_reach (s : State) (d : Nat) : nextKey (reach s d) = nextKey s := by
  rw [nextKey, nextKey, self_reach, takenSeq, takenSeq, freeSeq_of_entries (reach_entries s d) (reach_cfg s d), reach_claims]

theorem testNew_retry (s : State) (d : Nat) (c : ClaimSlot) :
    testNew (reach s d) none (newCandidate (reach s d) (nextKey (reach s d)) c.req) = testNew s none (newCandidate s (nextKey s) c.req) := by
  rw [testNew_of_entries (reach_entries s d) (reach_cfg s d), nextKey_reach, newCandidate, ring_reach, self_reach, newCandidate]

theorem exec_retryDeadline (hslot : s.slot n = some c) (hstate : c.state = .retryWait d) (hmode : c.mode = .new) :
    exec (.retryDeadline n) s = .next (retryNew (reach s d) n c) := by
  simp [exec, execRetryDeadline, hslot, hstate, expireRetry, hmode]

theorem slot_takeSeq (s : State) (n : Nat) : (takeSeq s).slot n = s.slot n := rfl

theorem slot_reach (s : State) (d n : Nat) : (reach s d).slot n = s.slot n := slot_of_claims (reach_claims s d) n

theorem retryNew_late (h : c.req.winStart ≤ s.now) : retryNew s n c = concludeSlot s n c (.refused .badWindow s.self) :=
  if_pos (Nat.lt_succ_of_le h)

theorem retryNew_fails {r : Reason} {first : Option Nat} (hw : s.now < c.req.winStart)
    (htest : testNew s none (newCandidate s (nextKey s) c.req) = .fails r first) : retryNew s n c = concludeSlot s n c (.refused r s.self) := by
  have hlate : ¬ c.req.winStart < s.now + 1 := by omega
  rw [nextKey] at htest
  simp [retryNew, hlate, htest]

/-- A retry whose checks pass is a claim started again under a fresh sequence (R70). -/
theorem retryNew_tries {i : Nat} (hw : s.now < c.req.winStart) (htest : testNew s none (newCandidate s (nextKey s) c.req) = .pass)
    (hfree : firstFree s.entries = some i) (hj : canJoin s c.req.dir = true) :
    retryNew s n c = claimStarted (takeSeq s) i (ownTentative s c.req) n (nextAttempt s c (nextKey s)) c.req.dir (nextKey s).seq
      (claimBody s .new c.req) := by
  have hlate : ¬ c.req.winStart < s.now + 1 := by omega
  rw [nextKey] at htest
  simp only [retryNew, hlate, if_false, htest, hj, if_true]
  rw [claimStarted, ← allocate_takeSeq c.req hfree]
  rfl

/-- A retry that is given up frees its slot with an outcome; the local time has come to the deadline (R70, R72). -/
theorem retry_concluded {o : Outcome} (hp : s.phase = .normal) (hmode : c.mode = .new)
    (hexec : exec (.retryDeadline n) s = .next (concludeSlot (reach s d) n c o)) :
    ∃ t, exec (.retryDeadline n) s = .next t ∧ t.slot n = none
      ∧ noticeAt t (sourceSlot n) = some (.bookingOutcome .new c.firstKey c.key c.attempt o)
      ∧ timeCame s t d ∧ t.clock.markDeadline = s.clock.markDeadline ∧ changesOnly [.nowMs, .clock, .claims, .site] s t := by
  refine ⟨_, hexec, slot_concludeSlot .., ?_, timed (concludeSlot_changesOnly (reach s d) n c o) (by decide) (by decide)⟩
  rw [noticeAt_concludeSlot (by simpa using hp), hmode]

end Retry

/-- Settles O56: the retry that starts again, and the two ways in which it is given up. -/
theorem retryTries : Obligations.RetryTries := by
  intro s n d c hp hslot hstate hmode
  have hexec := exec_retryDeadline hslot hstate hmode
  refine ⟨fun i hw htest hfree hj => ?_, fun hw => ?_, fun r first hw htest => ?_⟩
  · have htried := retryNew_tries (s := reach s d) (n := n) (c := c) (i := i) (by simpa using hw) ((testNew_retry s d c).trans htest)
      (by simpa using hfree) ((canJoin_reach s d _).trans hj)
    have htaken : changesOnly [.lane, .entries, .claims] (reach s d) (retryNew (reach s d) n c) := by
      rw [htried]
      exact changesOnly_trans (changesOnly_mono (takeSeq_changesOnly _) (by decide)) (claimStarted_changesOnly _ _ _ _ _ _ _ _)
    obtain ⟨htime, hmark, hparts⟩ := timed htaken (by decide) (by decide)
    refine ⟨_, hexec, ?_, ?_, ?_, ?_, htime, hmark, hparts⟩
    · rw [htried, claimStarted_entries, takeSeq_entries, reach_entries, ownTentative, nextKey_reach, ring_reach, self_reach]
    · rw [htried, slot_claimStarted (c₀ := c) _ _ _ _ _ _ _ _ ((slot_takeSeq _ n).trans ((slot_reach s d n).trans hslot)), nextAttempt, nextKey_reach,
        after, reach_nowMs]
      rfl
    · rw [htried, claimStarted_claims]
      exact congrArg (fun k : Key => nextSeq k.seq) (nextKey_reach s d)
    · rw [htried, claimBody_new, self_reach, nextKey_reach]
      exact joins_from_lane (claimStarted_joins ..) (reach_lane s d) (reach_cfg s d)
  · exact retry_concluded hp hmode (by rw [hexec, retryNew_late (by simpa using hw), self_reach])
  · exact retry_concluded hp hmode (by rw [hexec, retryNew_fails (by simpa using hw) ((testNew_retry s d c).trans htest), self_reach])

end Sys2Proof.Machine

namespace Sys2Proof.Machine

/-! ### Claim attempts that are given up -/

/-- An attempt of a New claim is given up: its Tentative entry is gone, its ABANDON has joined, and of the claim store only its slot may differ (R69). -/
structure GivenUp (s t : State) (i n : Nat) (c : ClaimSlot) : Prop where
  freed : t.entry i = none
  others : ∀ j, j ≠ i → t.entry j = s.entry j
  joined : joins s t c.req.dir c.key.seq (.abandon .new)
  slots : ∀ x, x ≠ n → t.slot x = s.slot x
  counter : t.claims.seqCounter = s.claims.seqCounter
  recent : t.claims.recent = s.claims.recent

namespace GivenUp
variable {s u t : State} {i n : Nat} {c : ClaimSlot}

/-- An attempt given up in a state with the same calendar, queues and claim store. -/
theorem congr_start (h : GivenUp u t i n c) (he : u.entries = s.entries) (hq : ∀ d, u.queue d = s.queue d) (hclaims : u.claims = s.claims)
    (hcfg : u.cfg = s.cfg) : GivenUp s t i n c where
  freed := h.freed
  others j hj := (h.others j hj).trans (entry_of_entries he j)
  joined := joins_of_queues h.joined hq hcfg
  slots x hx := (h.slots x hx).trans (slot_of_claims hclaims x)
  counter := by rw [h.counter, hclaims]
  recent := by rw [h.recent, hclaims]

/-- Nothing but the slot of the attempt has changed since. -/
theorem congr_end (h : GivenUp s u i n c) (he : t.entries = u.entries) (hq : ∀ d, t.queue d = u.queue d) (hslots : ∀ x, x ≠ n → t.slot x = u.slot x)
    (hcounter : t.claims.seqCounter = u.claims.seqCounter) (hrecent : t.claims.recent = u.claims.recent) : GivenUp s t i n c where
  freed := (entry_of_entries he i).trans h.freed
  others j hj := (entry_of_entries he j).trans (h.others j hj)
  joined := ⟨(hq _).trans h.joined.1, (hq _).trans h.joined.2⟩
  slots x hx := (hslots x hx).trans (h.slots x hx)
  counter := hcounter.trans h.counter
  recent := hrecent.trans h.recent

end GivenUp

/-- The origin's side of an attempt is removed and its ABANDON joins, the slot's outbound state being written on the way (R69, R72). -/
def abandoning (s : State) (i n : Nat) (c : ClaimSlot) (r : ClaimResult) : State :=
  join (setSlot (freeEntry s i) n (some { c with state := .outAbandon r })) c.req.dir c.key.seq (.abandon .new)

section GivingUp
variable {s : State} {n i : Nat} {c : ClaimSlot} {e : Entry} {r : ClaimResult}

theorem abandoning_site (s : State) (i n : Nat) (c : ClaimSlot) (r : ClaimResult) : (abandoning s i n c r).site = s.site := by simp [abandoning]

theorem abandoning_changesOnly (s : State) (i n : Nat) (c : ClaimSlot) (r : ClaimResult) :
    changesOnly [.lane, .entries, .claims, .bridged] s (abandoning s i n c r) :=
  changesOnly_trans (changesOnly_mono (freeEntry_changesOnly s i) (by decide))
    (changesOnly_trans (changesOnly_mono (setSlot_changesOnly _ n _) (by decide)) (changesOnly_mono (join_changesOnly _ _ _ _) (by decide)))

theorem abandoning_givenUp (s : State) (i n : Nat) (c : ClaimSlot) (r : ClaimResult) : GivenUp s (abandoning s i n c r) i n c where
  freed := by rw [abandoning, entry_of_entries (join_entries ..), entry_of_entries (setSlot_entries ..), entry_freeEntry, if_pos rfl]
  others j hj := by rw [abandoning, entry_of_entries (join_entries ..), entry_of_entries (setSlot_entries ..), entry_freeEntry, if_neg hj.symm]
  joined := joins_from_lane (joins_join _ _ _ _) (freeEntry_lane s i) (freeEntry_cfg s i)
  slots x hx := by
    rw [abandoning, slot_of_claims (join_claims ..), slot_setSlot_ne _ hx, slot_of_claims (freeEntry_claims s i)]
  counter := by simp [abandoning, setSlot]
  recent := by simp [abandoning, setSlot]

/-- A result other than Clear of a New claim: its side is removed and the ABANDON joins at once; the slot waits for its retry or is concluded (R69, R72). -/
theorem reachResult_fails (hmode : c.mode = .new) (hfind : findEntry s c.key = some (i, e)) (ht : e.state = .tentative)
    (hj : canJoin s c.req.dir = true) (hr : r ≠ .clear) :
    reachResult s n c r = if isRetried c r then setSlot (abandoning s i n c r) n (some { c with state := .retryWait (after s (retryMs s)) })
      else concludeSlot (abandoning s i n c r) n { c with state := .outAbandon r } (outcomeOf r) := by
  have hremoved : removeOwnSide s c = freeEntry s i := by simp [removeOwnSide, hfind, hmode, ht]
  have hoffer : reachResult s n c r = offerOutbound (freeEntry s i) n { c with state := .outAbandon r } := by
    rw [← hremoved]
    cases r with
    | clear => exact absurd rfl hr
    | refused => rfl
    | unreachable => rfl
  have hroom : canJoin (setSlot (freeEntry s i) n (some { c with state := .outAbandon r })) c.req.dir = true :=
    (canJoin_of_lane (freeEntry_lane s i) _).trans hj
  have htime (v : Option ClaimSlot) : after (setSlot (freeEntry s i) n v) (retryMs (setSlot (freeEntry s i) n v)) = after s (retryMs s) := by
    simp [after, retryMs, State.self]
  have hjoined : join (setSlot (freeEntry s i) n (some { c with state := .outAbandon r })) c.req.dir c.key.seq (.abandon c.mode)
      = abandoning s i n c r := by rw [abandoning, ← hmode]
  rw [hoffer, offerOutbound, if_pos hroom, joinOutbound]
  dsimp only
  rw [hjoined, htime]
  rfl

/-- A failed attempt that no retry follows: the slot is free, and its source tells the outcome (R69, R72). -/
theorem reachResult_concludes (hp : s.phase = .normal) (hmode : c.mode = .new) (hfind : findEntry s c.key = some (i, e)) (ht : e.state = .tentative)
    (hj : canJoin s c.req.dir = true) (hr : r ≠ .clear) (hlast : isRetried c r = false) :
    GivenUp s (reachResult s n c r) i n c ∧ (reachResult s n c r).slot n = none
      ∧ noticeAt (reachResult s n c r) (sourceSlot n) = some (.bookingOutcome .new c.firstKey c.key c.attempt (outcomeOf r))
      ∧ changesOnly [.lane, .entries, .claims, .bridged, .site] s (reachResult s n c r) := by
  rw [reachResult_fails hmode hfind ht hj hr, hlast, if_neg Bool.false_ne_true]
  refine ⟨(abandoning_givenUp s i n c r).congr_end (concludeSlot_entries ..) (queue_of_lane (concludeSlot_lane ..))
    (fun x hx => slot_concludeSlot_ne _ hx _ _) (by rw [concludeSlot_claims]; rfl) (by rw [concludeSlot_claims]; rfl), slot_concludeSlot .., ?_, ?_⟩
  · have hphase : (abandoning s i n c r).phase = .normal := by simpa [abandoning] using hp
    rw [noticeAt_concludeSlot hphase, hmode]
  · exact changesOnly_trans (changesOnly_mono (abandoning_changesOnly s i n c r) (by decide))
      (changesOnly_mono (concludeSlot_changesOnly _ _ _ _) (by decide))

/-- A failed attempt that a retry follows: the slot waits for it, and nothing is told (R69). -/
theorem reachResult_retries (hslot : s.slot n = some c) (hmode : c.mode = .new) (hfind : findEntry s c.key = some (i, e))
    (ht : e.state = .tentative) (hj : canJoin s c.req.dir = true) (hr : r ≠ .clear) (hagain : isRetried c r = true) :
    GivenUp s (reachResult s n c r) i n c
      ∧ (reachResult s n c r).slot n = some { c with state := .retryWait (s.nowMs + (s.self + 1) * 150) }
      ∧ (reachResult s n c r).site = s.site
      ∧ changesOnly [.lane, .entries, .claims, .bridged] s (reachResult s n c r) := by
  rw [reachResult_fails hmode hfind ht hj hr, if_pos hagain]
  refine ⟨(abandoning_givenUp s i n c r).congr_end rfl (fun _ => rfl) (fun x hx => slot_setSlot_ne _ hx _) rfl rfl, ?_, abandoning_site .., ?_⟩
  · have hwritten : (abandoning s i n c r).slot n = some { c with state := .outAbandon r } := by
      rw [abandoning, slot_of_claims (join_claims ..)]
      exact slot_setSlot_same ((slot_of_claims (freeEntry_claims s i) n).trans hslot) _
    exact slot_setSlot_same hwritten _
  · exact changesOnly_trans (abandoning_changesOnly s i n c r) (changesOnly_mono (setSlot_changesOnly _ _ _) (by decide))

/-- A Clear result whose side stands and whose CONFIRM has room: the CONFIRM joins and the entry becomes Held (R68). -/
theorem reachResult_commits (hp : s.phase = .normal) (hmode : c.mode = .new) (hfind : findEntry s c.key = some (i, e)) (ht : e.state = .tentative)
    (hw : s.now < e.bk.winStart) (hj : canJoin s c.req.dir = true) :
    (reachResult s n c .clear).entries = s.entries.set i (some { e with state := .held }) ∧ (reachResult s n c .clear).slot n = none
      ∧ joins s (reachResult s n c .clear) c.req.dir c.key.seq (.confirm .new)
      ∧ noticeAt (reachResult s n c .clear) (sourceSlot n) = some (.bookingOutcome .new c.firstKey c.key c.attempt .committed)
      ∧ changesOnly [.lane, .entries, .claims, .site] s (reachResult s n c .clear) := by
  have hroom : canJoin (setSlot s n (some { c with state := .outConfirm })) c.req.dir = true := hj
  have hcommits := joinOutbound_confirm (s := setSlot s n (some { c with state := .outConfirm })) (n := n)
    (c := { c with state := .outConfirm }) rfl hmode ((findEntry_of_entries rfl c.key).trans hfind) ht hw
  rw [reachResult, offerOutbound, if_pos hroom, hcommits]
  refine ⟨by simp [setEntry], slot_concludeSlot .., ?_, ?_, ?_⟩
  · exact joins_of_lane (joins_from_lane (joins_join (setSlot s n (some { c with state := .outConfirm })) c.req.dir c.key.seq (.confirm .new)) rfl rfl)
      (by simp)
  · rw [noticeAt_concludeSlot (by simpa using hp), hmode]
  · exact changesOnly_trans (changesOnly_mono (setSlot_changesOnly s n _) (by decide))
      (changesOnly_trans (changesOnly_mono (join_changesOnly _ _ _ _) (by decide))
        (changesOnly_trans (changesOnly_mono (setEntry_changesOnly _ _ _) (by decide))
          (changesOnly_mono (concludeSlot_changesOnly _ _ _ _) (by decide))))

end GivingUp

/-! ### The claim controller's timers -/

section Timers
variable {s : State} {n i d : Nat} {e : Entry}

theorem exec_circuitTimeout {c : ClaimSlot} (hslot : s.slot n = some c) (hstate : c.state = .awaiting d) :
    exec (.circuitTimeout n) s = .next (reachResult (reach s d) n c (.unreachable none)) := by
  simp [exec, execCircuitTimeout, hslot, hstate, expireCircuit]

theorem exec_tentativeLapse (he : s.entry i = some e) (ht : e.state = .tentative) (hlife : e.lifetime = some d) :
    exec (.tentativeLifetimeExpiry i) s = .next (lapseTentative (reach s d) i e) := by
  simp [exec, execTentativeLifetimeExpiry, he, ht, hlife]

theorem exec_extensionLapse {x : ExtPart} (he : s.entry i = some e) (hx : e.ext = some x) (hlife : x.lifetime = some d) :
    exec (.extensionLifetimeExpiry i) s = .next (lapseExtension (reach s d) i e) := by
  simp [exec, execExtensionLifetimeExpiry, he, hx, hlife]

theorem exec_recordAges {k : Key} {mode : Mode} {r : Recent} (hr : findRecent s k mode = some r) :
    exec (.ageDeadline k mode) s = .next (discardRecent (reach s r.age) k mode) := by
  simp [exec, execAgeDeadline, hr]

theorem lapseTentative_changesOnly (s : State) (i : Nat) (e : Entry) : changesOnly [.entries, .bridged, .site] s (lapseTentative s i e) :=
  changesOnly_trans (changesOnly_mono (freeEntry_changesOnly s i) (by decide)) (changesOnly_mono (raiseNotice_changesOnly _ _ _) (by decide))

theorem lapseExtension_changesOnly (s : State) (i : Nat) (e : Entry) : changesOnly [.entries, .site] s (lapseExtension s i e) :=
  changesOnly_trans (changesOnly_mono (setEntry_changesOnly s i _) (by decide)) (changesOnly_mono (raiseNotice_changesOnly _ _ _) (by decide))

theorem discardRecent_changesOnly (s : State) (k : Key) (mode : Mode) : changesOnly [.claims] s (discardRecent s k mode) :=
  withClaims_changesOnly _ _

theorem discardRecent_slots (s : State) (k : Key) (mode : Mode) : (discardRecent s k mode).claims.slots = s.claims.slots := rfl

/-- Discarding the record of a key and mode leaves every other record (R55). -/
theorem mem_discardRecent {k : Key} {mode : Mode} {x : Recent} (hx : x ∈ s.claims.recent) (hother : ¬ (x.key = k ∧ x.mode = mode)) :
    x ∈ (discardRecent s k mode).claims.recent :=
  List.mem_filter.mpr ⟨hx, by simpa [imp_iff_not_or] using hother⟩

end Timers

/-- Settles O55, one timer at a time. -/
theorem claimTimers : Obligations.ClaimTimers := by
  refine ⟨fun s n i d c e hp hslot hstate hmode hfind ht hj => ?_, fun s i d e hp he ht hlife => ?_, fun s i d e x hp he hx hlife => ?_,
    fun s k mode r hr => ?_⟩
  · have hfind' := (findEntry_of_entries (reach_entries s d) c.key).trans hfind
    obtain ⟨hgiven, hfree, htold, hparts⟩ := reachResult_concludes (s := reach s d) (n := n) (r := .unreachable none)
      ((reach_phase s d).trans hp) hmode hfind' ht ((canJoin_reach s d _).trans hj) (by simp) rfl
    have hgiven := hgiven.congr_start (reach_entries s d) (queue_of_lane (reach_lane s d)) (reach_claims s d) (reach_cfg s d)
    exact ⟨_, exec_circuitTimeout hslot hstate, hgiven.freed, hgiven.others, hfree, hgiven.joined, htold, timed hparts (by decide) (by decide)⟩
  · refine ⟨_, exec_tentativeLapse he ht hlife, ?_, fun j hj => ?_, ?_, ?_, timed (lapseTentative_changesOnly _ i e) (by decide) (by decide)⟩
    · rw [lapseTentative, entry_of_entries (raiseNotice_entries ..), entry_freeEntry, if_pos rfl]
    · rw [lapseTentative, entry_of_entries (raiseNotice_entries ..), entry_freeEntry, if_neg hj.symm, entry_of_entries (reach_entries s d)]
    · simp [lapseTentative]
    · exact noticeAt_raiseNotice (running_of_normal (by simpa using hp)) _ _
  · refine ⟨_, exec_extensionLapse he hx hlife, ?_, ?_, ?_, timed (lapseExtension_changesOnly _ i e) (by decide) (by decide)⟩
    · simp [lapseExtension, setEntry]
    · simp [lapseExtension]
    · exact noticeAt_raiseNotice (running_of_normal (by simpa using hp)) _ _
  · refine ⟨_, exec_recordAges hr, dropRecent_lacksRecord _ k mode, (discardRecent_slots ..).trans (by rw [reach_claims]), fun x hx hother => ?_,
      timed (discardRecent_changesOnly _ k mode) (by decide) (by decide)⟩
    exact mem_discardRecent (by rwa [reach_claims]) hother

end Sys2Proof.Machine

namespace Sys2Proof.Machine

/-! ### Station sets -/

theorem stationIn_stationBit {x : Nat} (hx : x < 16) (y : Nat) : stationIn (stationBit y) x = decide (y = x) := by
  rw [stationIn, stationBit, BitVec.getLsbD_ofNat, Nat.testBit_two_pow, decide_eq_true hx, Bool.true_and]

theorem stationIn_foldl_stationAdd {x : Nat} (hx : x < 16) (l : List Nat) (acc : StationSet) :
    stationIn (l.foldl stationAdd acc) x = true ↔ stationIn acc x = true ∨ x ∈ l := by
  induction l generalizing acc with
  | nil => simp
  | cons y l ih =>
    have hadded : stationIn (stationAdd acc y) x = (stationIn acc x || decide (y = x)) := by
      rw [← stationIn_stationBit hx, stationAdd, stationIn, BitVec.getLsbD_or, stationIn, stationIn]
    rw [List.foldl_cons, ih, hadded, List.mem_cons, Bool.or_eq_true, decide_eq_true_eq, or_assoc, eq_comm (a := y)]

/-- The set of the stations of a list has the stations of the list (R67). -/
theorem stationIn_stationSetOf {x : Nat} (hx : x < 16) (l : List Nat) : stationIn (stationSetOf l) x = true ↔ x ∈ l := by
  rw [stationSetOf, stationIn_foldl_stationAdd hx]
  simp [stationIn]

theorem stationIn_holders {n x : Nat} (hx : x < 16) (k : Key) (b : Booking) : stationIn (holders n k b) x = true ↔ x < n ∧ rolesOf n k b x ≠ [] := by
  rw [holders, stationIn_stationSetOf hx]
  simp

/-- The stations missing from an assessed set are the holders that it lacks (R67 step 2). -/
theorem missingFrom_eq {s : State} {c : ClaimSlot} {assessed missing : StationSet} (h : ∀ x, x < 16 →
    (stationIn missing x = true ↔ x < s.ring ∧ rolesOf s.ring c.key c.req x ≠ [] ∧ stationIn assessed x = false)) :
    missingFrom s c assessed = missing := by
  refine BitVec.eq_of_getLsbD_eq fun x hx => ?_
  have hheld := stationIn_holders (n := s.ring) hx c.key c.req
  have hmissing := h x hx
  rw [Bool.eq_iff_iff, missingFrom, BitVec.getLsbD_and, BitVec.getLsbD_not, decide_eq_true hx, Bool.true_and, Bool.and_eq_true, Bool.not_eq_true']
  simp only [stationIn] at hheld hmissing
  rw [hheld, hmissing, and_assoc]

/-! ### A CLAIM that comes back -/

section Returned
variable {s : State} {port : Dir} {h : Header} {b : ClaimBody} {n i : Nat} {c : ClaimSlot} {e : Entry} {r : Reason} {station : Nat}

theorem awaitingSlot_spec {k : Key} {mode : Mode} (hw : awaitingSlot s k mode = some n) (hslot : s.slot n = some c) : c.key = k ∧ c.mode = mode := by
  have hfound := List.find?_some hw
  rw [hslot] at hfound
  dsimp only at hfound
  split at hfound
  · simpa using hfound
  · exact absurd hfound Bool.false_ne_true

theorem awaitingSlot_of_claims {s t : State} (h : t.claims = s.claims) (k : Key) (mode : Mode) : awaitingSlot t k mode = awaitingSlot s k mode := by
  simp only [awaitingSlot, slot_of_claims h]

theorem judgeReturn_refused (h : b.verdict = .refused r station) : judgeReturn s c b = .refused r station := by rw [judgeReturn, h]

theorem judgeReturn_missing (hclear : b.verdict = .clear) (hm : missingFrom s c b.assessed ≠ 0) :
    judgeReturn s c b = .unreachable (some (missingFrom s c b.assessed)) := by
  simp only [judgeReturn, hclear, bne_iff_ne.mpr hm, if_true]

theorem judgeReturn_complete (hclear : b.verdict = .clear) (hm : missingFrom s c b.assessed = 0) :
    judgeReturn s c b = if ownSideStands s c then .clear else .refused .badWindow s.self := by simp [judgeReturn, hclear, hm]

/-- The origin's Tentative entry stands until its start has come (R67 step 3). -/
theorem ownSideStands_new (hmode : c.mode = .new) (hfind : findEntry s c.key = some (i, e)) (ht : e.state = .tentative) :
    ownSideStands s c = decide (s.now < e.bk.winStart) := by simp [ownSideStands, hfind, hmode, ht]

/-- A CLAIM back at its awaiting slot is judged there, and its slot of the stream goes on empty (R14, R66). -/
theorem exec_claimReturned (hback : comesBack s port h) (hw : awaitingSlot s { origin := h.origin, seq := h.seq } b.mode = some n)
    (hslot : s.slot n = some c) : exec (.claimReturned port false h b) s
      = .next (emit (reachResult (noteFar s port false) n c (judgeReturn (noteFar s port false) c b)) (opp port) none) := by
  obtain ⟨ho, -⟩ := id hback
  have hjudged : handBack (noteFar s port false) { hdr := h, body := .claim b }
      = reachResult (noteFar s port false) n c (judgeReturn (noteFar s port false) c b) := by
    have hslot' : (noteFar s port false).slot n = some c := (slot_of_claims (noteFar_claims ..) n).trans hslot
    have hw' := (awaitingSlot_of_claims (noteFar_claims s port false) { origin := h.origin, seq := h.seq } b.mode).trans hw
    simp only [handBack, claimBack, headerKey, hw', hslot']
  obtain ⟨hnear, hfar⟩ := open_not_wrapped s port ho
  have hshell := reachResult_shell (noteFar s port false) n c (judgeReturn (noteFar s port false) c b)
  have harrive := arriveFull_comesBack s port { hdr := h, body := .claim b } hback
  rw [hjudged, continueEmpty, wrapped_of_shell hshell, wrapped_of_shell hshell, hnear, hfar] at harrive
  exact congrArg Host.Outcome.next harrive

/-- What leaves on the far side of a state that the slot's arrival and other work have left (R5, R17). -/
theorem slotLeaves_of_shell {u : State} (ho : bothOpen s port) (hu : u.shell = (noteFar s port false).shell) (m : Option Msg) :
    slotLeaves s (emit u (opp port) m) port m := by
  obtain ⟨hfar, hopp, hout, hother, hlast⟩ := slotLeaves_emit ho m
  refine ⟨?_, ?_, ?_, ?_, ?_⟩
  · rw [far_emit, far_of_shell hu, ← far_emit _ (opp port) _ m, hfar]
  · rw [far_emit, far_of_shell hu, ← hopp, far_emit]
  · rw [outOf_emit_same, span_of_station (station_of_shell hu), ← outOf_emit_same, hout]
  · rw [outOf_emit_other, outOf_of_shell hu, ← hother, outOf_emit_other]
  · rw [lastServed_emit, lastServed_of_shell hu, ← hlast, lastServed_emit]

/-- The parts that work between a slot's arrival and its leaving changes, the lane with them. -/
theorem changesOnly_around {u : State} {ps : List Part} (hu : changesOnly ps (noteFar s port false) u) (hlane : Part.lane ∈ ps) (d : Dir)
    (m : Option Msg) : changesOnly ps s (emit u d m) := by
  have hsub : [Part.lane] ⊆ ps := by simpa using hlane
  exact changesOnly_trans (changesOnly_trans (changesOnly_mono (noteFar_changesOnly s port false) hsub) hu)
    (changesOnly_mono (emit_changesOnly u d m) hsub)

/-- What an attempt given up between a slot's arrival and its leaving does to the station. -/
theorem GivenUp.around {u : State} (hu : GivenUp (noteFar s port false) u i n c) (d : Dir) (m : Option Msg) : GivenUp s (emit u d m) i n c :=
  (hu.congr_end (emit_entries ..) (queuesKept_queue (emit_queuesKept u d m)) (fun x _ => slot_of_claims (emit_claims ..) x) (by simp) (by simp)).congr_start
    (noteFar_entries ..) (fun x => queue_noteFar s port x false) (noteFar_claims ..) (noteFar_cfg ..)

/-- A CLAIM that comes back to a Tentative entry's slot with a failing result that no retry follows (R69). -/
theorem claimReturned_concludes {x : ClaimResult} (hback : comesBack s port h)
    (hexec : exec (.claimReturned port false h b) s = .next (emit (reachResult (noteFar s port false) n c x) (opp port) none))
    (hmode : c.mode = .new) (hfind : findEntry s c.key = some (i, e)) (ht : e.state = .tentative) (hj : canJoin s c.req.dir = true)
    (hx : x ≠ .clear) (hlast : isRetried c x = false) :
    ∃ t, exec (.claimReturned port false h b) s = .next t ∧ GivenUp s t i n c ∧ t.slot n = none
      ∧ noticeAt t (sourceSlot n) = some (.bookingOutcome .new c.firstKey c.key c.attempt (outcomeOf x))
      ∧ slotLeaves s t port none ∧ changesOnly [.lane, .entries, .claims, .bridged, .site] s t := by
  obtain ⟨ho, -⟩ := id hback
  obtain ⟨hp, -⟩ := id ho
  obtain ⟨hgiven, hfree, htold, hparts⟩ := reachResult_concludes (s := noteFar s port false) (n := n) (by simpa using hp) hmode
    ((findEntry_of_entries (noteFar_entries ..) _).trans hfind) ht ((canJoin_noteFar ..).trans hj) hx hlast
  exact ⟨_, hexec, hgiven.around _ _, (slot_of_claims (emit_claims ..) n).trans hfree, (noticeAt_of_site (emit_site ..) _).trans htold,
    slotLeaves_of_shell ho (reachResult_shell ..) none, changesOnly_around hparts (by decide) _ _⟩

/-- A CLAIM that comes back Contested from an attempt that is retried (R69). -/
theorem claimReturned_retries {x : ClaimResult} (hback : comesBack s port h)
    (hexec : exec (.claimReturned port false h b) s = .next (emit (reachResult (noteFar s port false) n c x) (opp port) none))
    (hslot : s.slot n = some c) (hmode : c.mode = .new) (hfind : findEntry s c.key = some (i, e)) (ht : e.state = .tentative)
    (hj : canJoin s c.req.dir = true) (hx : x ≠ .clear) (hagain : isRetried c x = true) :
    ∃ t, exec (.claimReturned port false h b) s = .next t ∧ GivenUp s t i n c
      ∧ t.slot n = some { c with state := .retryWait (s.nowMs + (s.self + 1) * 150) } ∧ t.site = s.site
      ∧ slotLeaves s t port none ∧ changesOnly [.lane, .entries, .claims, .bridged, .site] s t := by
  obtain ⟨ho, -⟩ := id hback
  obtain ⟨hgiven, hwait, hsite, hparts⟩ := reachResult_retries (s := noteFar s port false) (n := n)
    ((slot_of_claims (noteFar_claims ..) n).trans hslot) hmode ((findEntry_of_entries (noteFar_entries ..) _).trans hfind) ht
    ((canJoin_noteFar ..).trans hj) hx hagain
  rw [noteFar_nowMs, self_noteFar] at hwait
  exact ⟨_, hexec, hgiven.around _ _, (slot_of_claims (emit_claims ..) n).trans hwait, ((emit_site ..).trans hsite).trans (noteFar_site ..),
    slotLeaves_of_shell ho (reachResult_shell ..) none, changesOnly_around (changesOnly_mono hparts (by decide)) (by decide) _ _⟩

/-- A Clear and complete CLAIM that comes back in time (R68). -/
theorem claimReturned_commits (hback : comesBack s port h)
    (hexec : exec (.claimReturned port false h b) s = .next (emit (reachResult (noteFar s port false) n c .clear) (opp port) none))
    (hmode : c.mode = .new) (hfind : findEntry s c.key = some (i, e)) (ht : e.state = .tentative) (hw : s.now < e.bk.winStart)
    (hj : canJoin s c.req.dir = true) :
    ∃ t, exec (.claimReturned port false h b) s = .next t ∧ t.entries = s.entries.set i (some { e with state := .held }) ∧ t.slot n = none
      ∧ joins s t c.req.dir c.key.seq (.confirm .new)
      ∧ noticeAt t (sourceSlot n) = some (.bookingOutcome .new c.firstKey c.key c.attempt .committed)
      ∧ slotLeaves s t port none ∧ changesOnly [.lane, .entries, .claims, .site] s t := by
  obtain ⟨ho, -⟩ := id hback
  obtain ⟨hp, -⟩ := id ho
  obtain ⟨hheld, hfree, hjoined, htold, hparts⟩ := reachResult_commits (s := noteFar s port false) (n := n) (by simpa using hp) hmode
    ((findEntry_of_entries (noteFar_entries ..) _).trans hfind) ht (by simpa using hw) ((canJoin_noteFar ..).trans hj)
  rw [noteFar_entries] at hheld
  have hkept := queuesKept_queue (emit_queuesKept (reachResult (noteFar s port false) n c .clear) (opp port) none)
  exact ⟨_, hexec, (emit_entries ..).trans hheld, (slot_of_claims (emit_claims ..) n).trans hfree,
    joins_of_queues ⟨(hkept _).trans hjoined.1, (hkept _).trans hjoined.2⟩ (fun x => queue_noteFar s port x false) (noteFar_cfg ..),
    (noticeAt_of_site (emit_site ..) _).trans htold, slotLeaves_of_shell ho (reachResult_shell ..) none, changesOnly_around hparts (by decide) _ _⟩

/-- A refusal other than Contested is final whatever the attempt (R69). -/
theorem isRetried_final (hr : r ≠ .contested) (c : ClaimSlot) (station : Nat) : isRetried c (.refused r station) = false := by
  cases r
  case contested => exact absurd rfl hr
  all_goals rfl

theorem outcomeOf_final (hr : r ≠ .contested) (station : Nat) : outcomeOf (.refused r station) = .refused r station := by
  cases r
  case contested => exact absurd rfl hr
  all_goals rfl

end Returned

/-- Settles O40: the result that the origin judges, clause by clause, and what reaching it does. -/
theorem claimReturned : Obligations.ClaimReturned := by
  intro s port h b n i c e hback hnew hwait hslot hfind ht hj
  obtain ⟨hkey, hmode⟩ := awaitingSlot_spec hwait hslot
  rw [← hkey] at hfind
  have hseq : c.key.seq = h.seq := congrArg Key.seq hkey
  have hjudged := exec_claimReturned (b := b) hback (hnew ▸ hwait) hslot
  have hmissing (a : StationSet) : missingFrom (noteFar s port false) c a = missingFrom s c a := by rw [missingFrom, ring_noteFar, missingFrom]
  have hstands : ownSideStands (noteFar s port false) c = decide (s.now < e.bk.winStart) := by
    rw [ownSideStands_new hmode ((findEntry_of_entries (noteFar_entries ..) _).trans hfind) ht, now_noteFar]
  rw [← hseq]
  refine ⟨fun hclear hw hm => ?_, fun r station hv hr => ?_, fun station hv => ?_, fun missing hclear hne hring hset => ?_,
    fun hclear hm hw => ?_⟩
  · rw [judgeReturn_complete hclear ((hmissing _).trans hm), hstands, decide_eq_true hw] at hjudged
    exact claimReturned_commits hback hjudged hmode hfind ht hw hj
  · rw [judgeReturn_refused hv] at hjudged
    obtain ⟨t, hexec, hgiven, hfree, htold, hrest⟩ := claimReturned_concludes hback hjudged hmode hfind ht hj (by simp) (isRetried_final hr c station)
    rw [outcomeOf_final hr] at htold
    exact ⟨t, hexec, hgiven.freed, hgiven.others, hfree, hgiven.joined, htold, hrest⟩
  · rw [judgeReturn_refused hv] at hjudged
    by_cases hattempt : c.attempt < 3
    · obtain ⟨t, hexec, hgiven, hwaits, hsite, hrest⟩ :=
        claimReturned_retries hback hjudged hslot hmode hfind ht hj (by simp) (decide_eq_true hattempt)
      exact ⟨t, hexec, hgiven.freed, hgiven.others, hgiven.joined, fun _ => ⟨hwaits, hsite⟩, fun hlast => absurd hattempt (by omega), hgiven.slots,
        hgiven.counter, hgiven.recent, hrest⟩
    · obtain ⟨t, hexec, hgiven, hfree, htold, hrest⟩ := claimReturned_concludes hback hjudged hmode hfind ht hj (by simp) (decide_eq_false hattempt)
      exact ⟨t, hexec, hgiven.freed, hgiven.others, hgiven.joined, fun hfirst => absurd hfirst hattempt, fun _ => ⟨hfree, htold⟩, hgiven.slots,
        hgiven.counter, hgiven.recent, hrest⟩
  · have hlacks : missingFrom (noteFar s port false) c b.assessed = missing := (hmissing _).trans (missingFrom_eq hset)
    rw [judgeReturn_missing hclear (hlacks ▸ hne), hlacks] at hjudged
    obtain ⟨t, hexec, hgiven, hfree, htold, hrest⟩ := claimReturned_concludes hback hjudged hmode hfind ht hj (by simp) rfl
    exact ⟨t, hexec, hgiven.freed, hgiven.others, hfree, hgiven.joined, htold, hrest⟩
  · rw [judgeReturn_complete hclear ((hmissing _).trans hm), hstands, decide_eq_false (by omega), self_noteFar] at hjudged
    obtain ⟨t, hexec, hgiven, hfree, htold, hrest⟩ := claimReturned_concludes hback hjudged hmode hfind ht hj (by simp) rfl
    exact ⟨t, hexec, hgiven.freed, hgiven.others, hfree, hgiven.joined, htold, hrest⟩

end Sys2Proof.Machine

namespace Sys2Proof.Machine

/-! ### Messages that pass and are acted on -/

section Passing
variable {s u : State} {port : Dir} {h : Header} {b : Body} {c : Instr}

/-- A message that passes and is not written to leaves with its hop count raised, in the state that its block leaves (R15 to R17). -/
theorem exec_acted (hp : passes s port h) (hc : slotOf c = some (port, { farDown := false, msg := some { hdr := h, body := b } }))
    (hact : act (noteFar s port false) port (hopped { hdr := h, body := b }) = (u, hopped { hdr := h, body := b })) :
    exec c s = .next (emit u (opp port) (some (hopped { hdr := h, body := b }))) := by
  obtain ⟨ho, hstamp, horigin, hhops, hwraps⟩ := hp
  obtain ⟨hphase, hup, -⟩ := id ho
  have hcirc : ¬ circled s port h := fun ⟨hturned, _⟩ => by omega
  have hfirst : firstSight s h = true := by simp [firstSight, hwraps]
  rw [exec_acts hc ho ⟨hphase, hup, hstamp⟩ (.inl horigin) hhops hcirc hfirst, hact]

/-- What leaves of it on the far side (R15, R17). -/
theorem passedOn_acted (hp : passes s port h)
    (hact : act (noteFar s port false) port (hopped { hdr := h, body := b }) = (u, hopped { hdr := h, body := b })) :
    passedOn s (emit u (opp port) (some (hopped { hdr := h, body := b }))) port h b := by
  obtain ⟨ho, -⟩ := hp
  have hshell := act_shell (noteFar s port false) port (hopped { hdr := h, body := b })
  rw [hact] at hshell
  exact slotLeaves_of_shell ho hshell _

/-- Work that leaves the lane alone between a slot's arrival and its leaving keeps the queues. -/
theorem queuesKept_around (hu : u.lane = (noteFar s port false).lane) (d : Dir) (m : Option Msg) : queuesKept s (emit u d m) := by
  have hkept : queuesKept (noteFar s port false) u := by
    unfold queuesKept
    rw [hu]
    exact ⟨rfl, rfl, rfl, rfl⟩
  exact queuesKept_trans (noteFar_queuesKept s port false) (queuesKept_trans hkept (emit_queuesKept ..))

/-- A message that has joined between a slot's arrival and its leaving. -/
theorem joins_around {d : Dir} {n : Nat} {x : Body} (hu : joins (noteFar s port false) u d n x) (p : Dir) (m : Option Msg) :
    joins s (emit u p m) d n x := by
  have hkept := queuesKept_queue (emit_queuesKept u p m)
  obtain ⟨hown, hother⟩ := hu
  exact joins_of_queues ⟨(hkept _).trans hown, (hkept _).trans hother⟩ (fun d => queue_noteFar s port d false) (noteFar_cfg ..)

end Passing

/-! ### Notices that tell of an entry -/

section Notices
variable {s : State} {i : Nat} {e : Entry}

theorem noticeCommitted_changesOnly (s : State) (i : Nat) (e : Entry) (mode : Mode) : changesOnly [.site] s (noticeCommitted s i e mode) := by
  unfold noticeCommitted
  split
  · exact raiseNotice_changesOnly _ _ _
  · exact changesOnly_refl _ s

theorem noticeCommitted_drop (h : isDropEntry e = true) (mode : Mode) :
    noticeCommitted s i e mode = raiseNotice s (sourceEntry i) (.entryCommitted e.key mode e.bk.winStart e.bk.winEnd) := if_pos h

theorem noticeCommitted_silent (h : isDropEntry e = false) (mode : Mode) : noticeCommitted s i e mode = s := if_neg (Bool.eq_false_iff.mp h)

end Notices

/-! ### CONFIRM -/

section Confirm
variable {s : State} {k : Key} {mode : Mode} {i : Nat} {e : Entry} {r : Recent}

theorem findRecent_of_claims {s t : State} (h : t.claims = s.claims) (k : Key) (mode : Mode) : findRecent t k mode = findRecent s k mode := by
  rw [findRecent, h, findRecent]

/-- A marked record is found with its mark (R73, R74). -/
theorem findRecent_markRecent (hr : findRecent s k mode = some r) (mark : RecentMark) :
    findRecent (markRecent s k mode mark) k mode = some { r with mark := mark } := by
  have hnamed : r.key = k ∧ r.mode = mode := by simpa using List.find?_some hr
  have hkeeps : ((fun r : Recent => r.key == k && r.mode == mode) ∘ fun r => if r.key = k && r.mode = mode then { r with mark := mark } else r)
      = fun r => r.key == k && r.mode == mode := by
    funext x
    simp only [Function.comp_apply]
    split <;> rfl
  rw [findRecent, markRecent, State.withClaims_claims, List.find?_map, hkeeps]
  rw [findRecent] at hr
  simp [hr, hnamed]

theorem markRecent_changesOnly (s : State) (k : Key) (mode : Mode) (mark : RecentMark) : changesOnly [.claims] s (markRecent s k mode mark) :=
  withClaims_changesOnly _ _

/-- A Tentative entry committed by its CONFIRM (R73). -/
def heldEntry (e : Entry) : Entry := { e with state := .held, lifetime := none }

/-- What a CONFIRM in time does: the entry is Held, the record marked, a drop tells of it (R73). -/
def confirming (s : State) (k : Key) (i : Nat) (e : Entry) : State :=
  noticeCommitted (markRecent (setEntry s i (heldEntry e)) k .new .confirmed) i (heldEntry e) .new

theorem confirming_entries (s : State) (k : Key) (i : Nat) (e : Entry) :
    (confirming s k i e).entries = s.entries.set i (some { e with state := .held, lifetime := none }) :=
  changesOnly_entries (noticeCommitted_changesOnly _ i _ _) (by decide)

theorem confirming_findRecent (i : Nat) (e : Entry) (hr : findRecent s k .new = some r) :
    findRecent (confirming s k i e) k .new = some { r with mark := .confirmed } := by
  rw [confirming, findRecent_of_claims (changesOnly_claims (noticeCommitted_changesOnly _ i _ _) (by decide))]
  exact findRecent_markRecent (s := setEntry s i (heldEntry e)) hr _

theorem confirming_tells (i : Nat) (hp : s.phase = .normal) (hdrop : isDropEntry e = true) :
    noticeAt (confirming s k i e) (sourceEntry i) = some (.entryCommitted e.key .new e.bk.winStart e.bk.winEnd) := by
  rw [confirming, noticeCommitted_drop (e := heldEntry e) hdrop]
  exact noticeAt_raiseNotice (s := markRecent (setEntry s i (heldEntry e)) k .new .confirmed) (running_of_normal hp) _ _

theorem confirming_silent (k : Key) (i : Nat) (hdrop : isDropEntry e = false) : (confirming s k i e).site = s.site := by
  rw [confirming, noticeCommitted_silent (e := heldEntry e) hdrop]
  rfl

theorem confirming_changesOnly (s : State) (k : Key) (i : Nat) (e : Entry) : changesOnly [.entries, .claims, .site] s (confirming s k i e) :=
  changesOnly_trans (changesOnly_mono (setEntry_changesOnly _ i _) (by decide)) (changesOnly_trans
    (changesOnly_mono (markRecent_changesOnly _ _ _ _) (by decide)) (changesOnly_mono (noticeCommitted_changesOnly _ _ _ _) (by decide)))

/-- A CONFIRM in time commits the Tentative entry that it names (R73). -/
theorem actConfirm_commits (hfind : findEntry s k = some (i, e)) (ht : e.state = .tentative) (hw : s.now < e.bk.winStart) :
    actConfirm s k .new = confirming s k i e := by
  simp [actConfirm, hfind, ht, hw, confirming, heldEntry]

/-- What a late CONFIRM with an Open record does: a HOLDLOST joins the east queue, the record is marked Lost (R74). -/
def losing (s : State) (k : Key) (mode : Mode) : State := markRecent (join s .east k.seq (.holdlost k mode s.self)) k mode .lost

theorem losing_joins (s : State) (k : Key) (mode : Mode) : joins s (losing s k mode) .east k.seq (.holdlost k mode s.self) :=
  joins_of_lane (joins_join ..) (markRecent_lane ..)

theorem losing_findRecent (hr : findRecent s k mode = some r) : findRecent (losing s k mode) k mode = some { r with mark := .lost } :=
  findRecent_markRecent ((findRecent_of_claims (join_claims ..) _ _).trans hr) _

theorem losing_changesOnly (s : State) (k : Key) (mode : Mode) : changesOnly [.lane, .claims] s (losing s k mode) :=
  changesOnly_trans (changesOnly_mono (join_changesOnly _ _ _ _) (by decide)) (changesOnly_mono (markRecent_changesOnly _ _ _ _) (by decide))

/-- A CONFIRM whose entry is gone is late (R74). -/
theorem actConfirm_late (hfind : findEntry s k = none) (hr : findRecent s k mode = some r) (hopen : r.mark = .opened)
    (hj : canJoinProt s .east = true) : actConfirm s k mode = losing s k mode := by
  simp [actConfirm, hfind, lateConfirm, hr, hopen, joinHoldlost, hj, losing]

theorem canJoinProt_of_room {d : Dir} (hroom : (s.queue d).length < 16) (hheld : s.lane.heldOver = []) : canJoinProt s d = true := by
  have hnone : heldFor s d = false := by cases d <;> simp [heldFor, hheld]
  simp [canJoinProt, hasPlace, hnone, Config.queuePlaces, hroom]

end Confirm

theorem act_confirm (u : State) (port : Dir) (h : Header) (mode : Mode) : act u port (hopped { hdr := h, body := .confirm mode })
    = (actConfirm u { origin := h.origin, seq := h.seq } mode, hopped { hdr := h, body := .confirm mode }) := rfl

/-- Settles O41: the CONFIRM in time and the late one. -/
theorem confirmTaken : Obligations.ConfirmTaken := by
  intro s port h hp
  obtain ⟨⟨hphase, -⟩, -⟩ := id hp
  refine ⟨fun i e hfind ht hw => ?_, fun r mode hfind hr hopen hroom hheld => ?_⟩
  · have hact := (act_confirm (noteFar s port false) port h .new).trans (congrArg (·, _)
      (actConfirm_commits ((findEntry_of_entries (noteFar_entries ..) _).trans hfind) ht (by rwa [now_noteFar])))
    have hparts := confirming_changesOnly (noteFar s port false) { origin := h.origin, seq := h.seq } i e
    refine ⟨_, exec_acted hp rfl hact, ?_, fun r hr => ?_, fun hdrop => ?_, fun hdrop => ?_, passedOn_acted hp hact,
      queuesKept_around (changesOnly_lane hparts (by decide)) _ _, changesOnly_around (changesOnly_mono hparts (by decide)) (by decide) _ _⟩
    · rw [emit_entries, confirming_entries, noteFar_entries]
    · rw [findRecent_of_claims (emit_claims ..)]
      exact confirming_findRecent i e ((findRecent_of_claims (noteFar_claims ..) _ _).trans hr)
    · rw [noticeAt_of_site (emit_site ..), confirming_tells i (by rwa [noteFar_phase]) hdrop]
    · rw [emit_site, confirming_silent _ i hdrop, noteFar_site]
  · have hroom' : canJoinProt (noteFar s port false) .east = true := by
      refine canJoinProt_of_room ?_ (by rw [queuesKept_held (noteFar_queuesKept ..), hheld])
      rw [queue_noteFar]
      exact hroom
    have hact := (act_confirm (noteFar s port false) port h mode).trans (congrArg (·, _)
      (actConfirm_late ((findEntry_of_entries (noteFar_entries ..) _).trans hfind) ((findRecent_of_claims (noteFar_claims ..) _ _).trans hr) hopen hroom'))
    have hjoined := losing_joins (noteFar s port false) { origin := h.origin, seq := h.seq } mode
    rw [self_noteFar] at hjoined
    refine ⟨_, exec_acted hp rfl hact, joins_around hjoined _ _, ?_, passedOn_acted hp hact,
      changesOnly_around (losing_changesOnly _ _ _) (by decide) _ _⟩
    rw [findRecent_of_claims (emit_claims ..)]
    exact losing_findRecent ((findRecent_of_claims (noteFar_claims ..) _ _).trans hr)

/-! ### ABANDON -/

section Abandon
variable {s : State} {k : Key} {mode : Mode} {i : Nat} {e : Entry}

theorem actAbandon_absent (hfind : findEntry s k = none) : actAbandon s k mode = discardRecent s k mode := by rw [actAbandon, hfind]

theorem actAbandon_tentative (hfind : findEntry s k = some (i, e)) (ht : e.state = .tentative) :
    actAbandon s k .new = discardRecent (freeEntry s i) k .new := by simp [actAbandon, hfind, ht]

theorem actAbandon_committed (hfind : findEntry s k = some (i, e)) (ht : e.state ≠ .tentative) :
    actAbandon s k .new = discardRecent s k .new := by simp [actAbandon, hfind, ht]

theorem actAbandon_extension (hfind : findEntry s k = some (i, e)) :
    actAbandon s k .extend = discardRecent (setEntry s i { e with ext := none }) k .extend := by rw [actAbandon, hfind]

/-- An ABANDON discards the record of its key and mode after what it does to the calendar (R75). -/
theorem actAbandon_discards (s : State) (k : Key) (mode : Mode) :
    ∃ u, actAbandon s k mode = discardRecent u k mode ∧ changesOnly [.entries, .bridged] s u := by
  cases hfind : findEntry s k with
  | none => exact ⟨s, actAbandon_absent hfind, changesOnly_refl _ s⟩
  | some p =>
    obtain ⟨i, e⟩ := p
    cases mode with
    | new =>
      by_cases ht : e.state = .tentative
      · exact ⟨_, actAbandon_tentative hfind ht, freeEntry_changesOnly s i⟩
      · exact ⟨s, actAbandon_committed hfind ht, changesOnly_refl _ s⟩
    | extend => exact ⟨_, actAbandon_extension hfind, changesOnly_mono (setEntry_changesOnly s i _) (by decide)⟩

theorem actAbandon_changesOnly (s : State) (k : Key) (mode : Mode) : changesOnly [.entries, .claims, .bridged] s (actAbandon s k mode) := by
  obtain ⟨u, hu, hparts⟩ := actAbandon_discards s k mode
  rw [hu]
  exact changesOnly_trans (changesOnly_mono hparts (by decide)) (changesOnly_mono (discardRecent_changesOnly _ _ _) (by decide))

theorem actAbandon_claims (s : State) (k : Key) (mode : Mode) :
    (actAbandon s k mode).claims = { s.claims with recent := dropRecent s.claims.recent k mode } := by
  obtain ⟨u, hu, hparts⟩ := actAbandon_discards s k mode
  rw [hu, discardRecent, State.withClaims_claims, changesOnly_claims hparts (by decide)]

/-- An ABANDON that names no tentative leaves the calendar and the bridged-key set as they were (R75). -/
theorem actAbandon_keepsCalendar (h : findEntry s k = none ∨ ∃ i e, findEntry s k = some (i, e)
      ∧ ((mode = .new ∧ e.state ≠ .tentative) ∨ (mode = .extend ∧ e.ext = none))) :
    (actAbandon s k mode).entries = s.entries ∧ (actAbandon s k mode).bridged = s.bridged := by
  obtain hfind | ⟨i, e, hfind, ⟨rfl, ht⟩ | ⟨rfl, hext⟩⟩ := h
  · rw [actAbandon_absent hfind]
    exact ⟨rfl, rfl⟩
  · rw [actAbandon_committed hfind ht]
    exact ⟨rfl, rfl⟩
  · have hsame : ({ e with ext := none } : Entry) = e := by rw [← hext]
    rw [actAbandon_extension hfind, hsame]
    exact ⟨set_entry_self (entry_of_findEntry hfind), rfl⟩

end Abandon

theorem act_abandon (u : State) (port : Dir) (h : Header) (mode : Mode) : act u port (hopped { hdr := h, body := .abandon mode })
    = (actAbandon u { origin := h.origin, seq := h.seq } mode, hopped { hdr := h, body := .abandon mode }) := rfl

/-- Settles O42: the case of each entry that the key may find. -/
theorem abandonTaken : Obligations.AbandonTaken := by
  intro s port h mode hp
  have hfound (k : Key) : findEntry (noteFar s port false) k = findEntry s k := findEntry_of_entries (noteFar_entries ..) k
  have hact := act_abandon (noteFar s port false) port h mode
  have hparts := actAbandon_changesOnly (noteFar s port false) { origin := h.origin, seq := h.seq } mode
  have hclaims := actAbandon_claims (noteFar s port false) { origin := h.origin, seq := h.seq } mode
  rw [noteFar_claims] at hclaims
  refine ⟨_, exec_acted hp rfl hact, (emit_claims ..).trans hclaims, fun i e hfind hmode ht => ?_, fun i e hfind hmode => ?_, fun hnone => ?_,
    passedOn_acted hp hact, queuesKept_around (changesOnly_lane hparts (by decide)) _ _,
    changesOnly_around (changesOnly_mono hparts (by decide)) (by decide) _ _⟩
  · subst hmode
    have hfreed (j : Nat) : (emit (actAbandon (noteFar s port false) { origin := h.origin, seq := h.seq } .new) (opp port)
        (some (hopped { hdr := h, body := .abandon .new }))).entry j = if i = j then none else s.entry j := by
      rw [entry_of_entries (emit_entries ..), actAbandon_tentative ((hfound _).trans hfind) ht, entry_of_entries (discardRecent_entries ..),
        entry_freeEntry, entry_of_entries (noteFar_entries ..)]
    exact ⟨(hfreed i).trans (if_pos rfl), fun j hj => (hfreed j).trans (if_neg hj.symm)⟩
  · subst hmode
    rw [emit_entries, actAbandon_extension ((hfound _).trans hfind), discardRecent_entries, setEntry, State.withEntries_entries, noteFar_entries]
  · rw [← hfound] at hnone
    obtain ⟨hentries, hbridged⟩ := actAbandon_keepsCalendar hnone
    exact ⟨((emit_entries ..).trans hentries).trans (noteFar_entries ..), ((emit_bridged ..).trans hbridged).trans (noteFar_bridged ..)⟩

end Sys2Proof.Machine

namespace Sys2Proof.Machine

/-! ### What a withdrawal tells -/

section Told
variable {s : State} {i v : Nat} {e : Entry} {x : WithdrawEffect}

theorem noticeWithdrawn_told (h : reportsWithdraw e = true) :
    noticeWithdrawn s i e v x = raiseNotice s (sourceEntry i) (.entryWithdrawn e.key v x) := if_pos h

theorem noticeWithdrawn_silent (h : reportsWithdraw e = false) : noticeWithdrawn s i e v x = s := if_neg (Bool.eq_false_iff.mp h)

theorem noticeWithdrawn_changesOnly (s : State) (i : Nat) (e : Entry) (v : Nat) (x : WithdrawEffect) :
    changesOnly [.site] s (noticeWithdrawn s i e v x) := by
  unfold noticeWithdrawn
  split
  · exact raiseNotice_changesOnly _ _ _
  · exact changesOnly_refl _ s

/-- A drop and the origin report the withdrawal (R80). -/
theorem noticeAt_noticeWithdrawn (hp : s.phase = .normal) (h : reportsWithdraw e = true) :
    noticeAt (noticeWithdrawn s i e v x) (sourceEntry i) = some (.entryWithdrawn e.key v x) := by
  rw [noticeWithdrawn_told h]
  exact noticeAt_raiseNotice (running_of_normal hp) _ _

end Told

/-! ### An entry whose end is lowered before it ends -/

section Lowered
variable {s : State} {i v : Nat} {e : Entry}

/-- The entry is trimmed to an end, and its notice raised (R80). -/
def trimming (s : State) (i : Nat) (e : Entry) (v : Nat) : State := noticeWithdrawn (setEntry s i (e.withEnd v)) i e v .trimmed

theorem trimming_entries (s : State) (i : Nat) (e : Entry) (v : Nat) :
    (trimming s i e v).entries = s.entries.set i (some { e with bk := { e.bk with winEnd := v } }) :=
  changesOnly_entries (noticeWithdrawn_changesOnly _ _ _ _ _) (by decide)

theorem trimming_changesOnly (s : State) (i : Nat) (e : Entry) (v : Nat) : changesOnly [.entries, .site] s (trimming s i e v) :=
  changesOnly_trans (changesOnly_mono (setEntry_changesOnly _ i _) (by decide)) (changesOnly_mono (noticeWithdrawn_changesOnly _ _ _ _ _) (by decide))

/-- The entry is freed, and its notice raised (R80). -/
def freeing (s : State) (i : Nat) (e : Entry) (v : Nat) : State := noticeWithdrawn (freeEntry s i) i e v .freed

theorem entry_freeing (s : State) (i : Nat) (e : Entry) (v j : Nat) : (freeing s i e v).entry j = if i = j then none else s.entry j := by
  rw [freeing, entry_of_entries (changesOnly_entries (noticeWithdrawn_changesOnly _ _ _ _ _) (by decide)), entry_freeEntry]

theorem freeing_changesOnly (s : State) (i : Nat) (e : Entry) (v : Nat) : changesOnly [.entries, .bridged, .site] s (freeing s i e v) :=
  changesOnly_trans (changesOnly_mono (freeEntry_changesOnly _ i) (by decide)) (changesOnly_mono (noticeWithdrawn_changesOnly _ _ _ _ _) (by decide))

theorem noticeAt_trimming (hp : s.phase = .normal) (h : reportsWithdraw e = true) :
    noticeAt (trimming s i e v) (sourceEntry i) = some (.entryWithdrawn e.key v .trimmed) :=
  noticeAt_noticeWithdrawn (s := setEntry s i (e.withEnd v)) hp h

theorem noticeAt_freeing (hp : s.phase = .normal) (h : reportsWithdraw e = true) :
    noticeAt (freeing s i e v) (sourceEntry i) = some (.entryWithdrawn e.key v .freed) :=
  noticeAt_noticeWithdrawn ((freeEntry_phase s i).trans hp) h

theorem trimming_site (h : reportsWithdraw e = false) : (trimming s i e v).site = s.site := by
  rw [trimming, noticeWithdrawn_silent h]
  rfl

theorem freeing_site (h : reportsWithdraw e = false) : (freeing s i e v).site = s.site := by
  rw [freeing, noticeWithdrawn_silent h, freeEntry_site]

/-- An end above the start of a Held entry and above the moment of an Active one trims it (R80, R113). -/
theorem applyWithdraw_trims (he : s.entry i = some e) (hext : e.ext = none)
    (hlive : e.state = .held ∧ e.bk.winStart < v ∨ e.state = .active ∧ s.now < v) (hlow : v < e.bk.winEnd) :
    applyWithdraw s i v = trimming s i e v := by
  have hmin : min e.bk.winEnd v = v := by omega
  have hchanged : (v != e.bk.winEnd) = true := bne_iff_ne.mpr (by omega)
  obtain ⟨hstate, hstart⟩ | ⟨hstate, hnow⟩ := hlive
  · have hkept : decide (v ≤ e.bk.winStart) = false := decide_eq_false (by omega)
    simp [applyWithdraw, he, hext, hstate, lowerBeforeStart, hmin, hkept, hchanged, trimming]
  · simp [applyWithdraw, he, hext, hstate, hnow, hmin, hchanged, trimming]

/-- An end at or before the start of a Held entry frees it; where its end was no higher, nothing is told (R80). -/
theorem applyWithdraw_held (he : s.entry i = some e) (hext : e.ext = none) (hstate : e.state = .held) (hstart : min e.bk.winEnd v ≤ e.bk.winStart) :
    applyWithdraw s i v = if min e.bk.winEnd v != e.bk.winEnd then freeing s i e (min e.bk.winEnd v) else freeEntry s i := by
  simp [applyWithdraw, he, hext, hstate, lowerBeforeStart, hstart, freeing]

theorem applyWithdraw_frees (he : s.entry i = some e) (hext : e.ext = none) (hstate : e.state = .held) (hstart : v ≤ e.bk.winStart)
    (hlow : v < e.bk.winEnd) : applyWithdraw s i v = freeing s i e v := by
  have hmin : min e.bk.winEnd v = v := by omega
  have hchanged : (v != e.bk.winEnd) = true := bne_iff_ne.mpr (by omega)
  rw [applyWithdraw_held he hext hstate (by omega), hmin, if_pos hchanged]

/-- A Held entry that a withdrawal frees is gone, told of or not, and every other entry stands. -/
theorem applyWithdraw_gone (he : s.entry i = some e) (hext : e.ext = none) (hstate : e.state = .held) (hstart : v ≤ e.bk.winStart) :
    (∀ j, (applyWithdraw s i v).entry j = if i = j then none else s.entry j) ∧ changesOnly [.entries, .bridged, .site] s (applyWithdraw s i v) := by
  rw [applyWithdraw_held he hext hstate (by omega)]
  split
  · exact ⟨entry_freeing s i e _, freeing_changesOnly s i e _⟩
  · exact ⟨entry_freeEntry s i, changesOnly_mono (freeEntry_changesOnly s i) (by decide)⟩

end Lowered

/-! ### An Active entry that ends now -/

section Ended
variable {s : State} {i v : Nat} {e : Entry} {m : Meter}

/-- The switch and the monitors cleared of an entry (R112). -/
def cleared (s : State) (e : Entry) : State := clearPlaces (releaseOutput (clearProtCells (clearWorkCells s e) e) e) e.key

/-- A release up to the entry's own closing: cells, output and monitor places cleared, protection over (R112). -/
def ending (s : State) (i : Nat) (e : Entry) : State := endProtection (cleared s e) i e

theorem release_eq (he : s.entry i = some e) : release s i = closeOrFree (ending s i e) i := by
  rw [release, he]
  rfl

theorem releaseOutput_changesOnly (s : State) (e : Entry) : changesOnly [.switch] s (releaseOutput s e) := by
  unfold releaseOutput
  split
  · exact changesOnly_refl _ s
  · exact withSwitch_changesOnly _ _

theorem bridgeOffAtEnd_changesOnly (s : State) (e : Entry) : changesOnly [.lane] s (bridgeOffAtEnd s e) := by
  unfold bridgeOffAtEnd
  split
  · split
    · exact join_changesOnly _ _ _ _
    · exact changesOnly_refl _ s
  · exact changesOnly_refl _ s

theorem endProtection_changesOnly (s : State) (i : Nat) (e : Entry) : changesOnly [.lane, .entries, .bridged, .site] s (endProtection s i e) :=
  changesOnly_trans (changesOnly_mono (updEntry_changesOnly s i _) (by decide)) (changesOnly_trans
    (changesOnly_mono (judgeAllPreempted_changesOnly _ e.key) (by decide)) (changesOnly_trans
      (changesOnly_mono (bridgeOffAtEnd_changesOnly _ e) (by decide)) (changesOnly_mono (dropBridged_changesOnly _ _) (by decide))))

theorem cleared_changesOnly (s : State) (e : Entry) : changesOnly [.switch, .mons, .site] s (cleared s e) :=
  changesOnly_trans (clearWorkCells_changesOnly s e) (changesOnly_trans (clearProtCells_changesOnly _ e) (changesOnly_trans
    (changesOnly_mono (releaseOutput_changesOnly _ e) (by decide)) (changesOnly_mono (withMons_changesOnly _ _) (by decide))))

theorem ending_changesOnly (s : State) (i : Nat) (e : Entry) : changesOnly [.lane, .entries, .switch, .mons, .bridged, .site] s (ending s i e) :=
  changesOnly_trans (changesOnly_mono (cleared_changesOnly s e) (by decide)) (changesOnly_mono (endProtection_changesOnly _ i e) (by decide))

/-- Until its own closing the entry keeps its key, its booking and its counts (R112). -/
theorem ending_entry (he : s.entry i = some e) (hstate : e.state = .active) :
    ∃ f, (ending s i e).entry i = some f ∧ f.key = e.key ∧ f.bk = e.bk ∧ f.meter.map Meter.counts = e.meter.map Meter.counts := by
  have hcleared : (cleared s e).entry i = some e := (entry_of_entries (changesOnly_entries (cleared_changesOnly s e) (by decide)) i).trans he
  have hupdated := entry_updEntry (cleared s e) i i
    (fun e => { e with prot := none, request := none, bridgeFlag := none, bridge := none, preempted := e.preempted.map (fun _ => false) })
  rw [if_pos rfl, hcleared, Option.map_some] at hupdated
  have hjudged := (judgeAllPreempted_tends (J := fun _ => False) (K := fun _ => True) _ e.key).works.others i _ id hupdated (by simp [hstate])
  obtain ⟨f, hf, hout⟩ := exists_of_outline hjudged
  have hkey := congrArg Entry.key hout
  have hmeter := congrArg Entry.meter hout
  have hbk := bk_of_outline hout
  refine ⟨f, ?_, hkey, hbk, hmeter⟩
  rw [← hf]
  exact entry_of_entries (changesOnly_entries (changesOnly_trans (changesOnly_mono (bridgeOffAtEnd_changesOnly _ e) (by decide))
    (changesOnly_mono (dropBridged_changesOnly _ e.key) (by decide)) : changesOnly [.lane, .bridged] _ _) (by decide)) i

/-- A metered entry that is released is Closing with its booking and its counts, and waits in the close queue (R112, R165). -/
theorem release_metered (he : s.entry i = some e) (hstate : e.state = .active) (hm : e.meter = some m) :
    (∃ f, (release s i).entry i = some f ∧ f.key = e.key ∧ f.state = .closing ∧ f.bk = e.bk ∧ f.meter.map Meter.a = some m.a)
      ∧ (release s i).bill = { s.bill with closeQueue := s.bill.closeQueue ++ [i] }
      ∧ changesOnly [.lane, .entries, .switch, .mons, .bridged, .bill, .site] s (release s i) := by
  obtain ⟨f, hf, hkey, hbk, hcounts⟩ := ending_entry he hstate
  obtain ⟨n, hn, hnm⟩ : ∃ n, f.meter = some n ∧ n.counts = m.counts := by simpa [hm] using hcounts
  have hclose : closeOrFree (ending s i e) i = (setEntry (ending s i e) i { f with state := .closing, ext := none, marker := none }).withBill
      { (ending s i e).bill with closeQueue := (ending s i e).bill.closeQueue ++ [i] } := by simp [closeOrFree, hf, hn]
  have hparts := ending_changesOnly s i e
  rw [release_eq he, hclose]
  refine ⟨⟨_, entry_setEntry_same _ i _ (placeAt_lt _ _ _ hf), hkey, rfl, hbk, ?_⟩, ?_, ?_⟩
  · have ha := congrArg Meter.a hnm
    exact (congrArg (Option.map Meter.a) hn).trans (congrArg some ha)
  · rw [State.withBill_bill, changesOnly_bill hparts (by decide)]
  · exact changesOnly_trans (changesOnly_mono hparts (by decide)) (changesOnly_trans (changesOnly_mono (setEntry_changesOnly _ i _) (by decide))
      (changesOnly_mono (withBill_changesOnly _ _) (by decide)))

/-- An entry without a meter is freed by its release (R112). -/
theorem release_unmetered (he : s.entry i = some e) (hstate : e.state = .active) (hm : e.meter = none) :
    (release s i).entry i = none ∧ changesOnly [.lane, .entries, .switch, .mons, .bridged, .site] s (release s i) := by
  obtain ⟨f, hf, -, -, hcounts⟩ := ending_entry he hstate
  have hfm : f.meter = none := by simpa [hm] using hcounts
  have hclose : closeOrFree (ending s i e) i = freeEntry (ending s i e) i := by simp [closeOrFree, hf, hfm]
  rw [release_eq he, hclose]
  exact ⟨(entry_freeEntry _ i i).trans (if_pos rfl),
    changesOnly_trans (ending_changesOnly s i e) (changesOnly_mono (freeEntry_changesOnly _ i) (by decide))⟩

/-- An Active entry whose end is not above the moment is released with the moment as its end (R80, R113). -/
theorem applyWithdraw_ends (he : s.entry i = some e) (hext : e.ext = none) (hstate : e.state = .active) (hnow : v ≤ s.now) :
    applyWithdraw s i v = if s.now != e.bk.winEnd then noticeWithdrawn (release (setEntry s i (e.withEnd s.now)) i) i e s.now .ended
      else release (setEntry s i (e.withEnd s.now)) i := by
  have hnot : ¬ s.now < v := by omega
  simp [applyWithdraw, he, hext, hstate, hnot]

/-- Told of or not, it changes the site's notices alone after the release. -/
theorem applyWithdraw_ends_changesOnly (he : s.entry i = some e) (hext : e.ext = none) (hstate : e.state = .active) (hnow : v ≤ s.now) :
    changesOnly [.site] (release (setEntry s i (e.withEnd s.now)) i) (applyWithdraw s i v) := by
  rw [applyWithdraw_ends he hext hstate hnow]
  split
  · exact noticeWithdrawn_changesOnly _ _ _ _ _
  · exact changesOnly_refl _ _

end Ended

end Sys2Proof.Machine

namespace Sys2Proof.Machine

/-! ### WITHDRAW at a holder -/

theorem act_withdraw (u : State) (port : Dir) (h : Header) (v : Nat) : act u port (hopped { hdr := h, body := .withdraw v })
    = (actWithdraw u { origin := h.origin, seq := h.seq } v, hopped { hdr := h, body := .withdraw v }) := rfl

theorem actWithdraw_found {s : State} {k : Key} {i v : Nat} {e : Entry} (hfind : findEntry s k = some (i, e)) :
    actWithdraw s k v = applyWithdraw s i v := by rw [actWithdraw, lookup_of_findEntry hfind]

/-- Settles O43: the entry that is trimmed, the one that is freed, the one that ends now. -/
theorem withdrawTaken : Obligations.WithdrawTaken := by
  intro s port h v i e hp hfind hext
  obtain ⟨⟨hphase, -⟩, -⟩ := id hp
  have hphase' : (noteFar s port false).phase = .normal := by rwa [noteFar_phase]
  have hfind' := (findEntry_of_entries (noteFar_entries s port false) _).trans hfind
  have he := entry_of_findEntry hfind'
  have hact {u : State} (hu : applyWithdraw (noteFar s port false) i v = u) : act (noteFar s port false) port (hopped { hdr := h, body := .withdraw v })
      = (u, hopped { hdr := h, body := .withdraw v }) := (act_withdraw ..).trans (congrArg (·, _) ((actWithdraw_found hfind').trans hu))
  refine ⟨fun hlive hlow => ?_, fun hheld hstart hlow => ?_, fun m hactive hnow hm => ?_⟩
  · have htrims := hact (applyWithdraw_trims he hext (by rwa [now_noteFar]) hlow)
    have hparts := trimming_changesOnly (noteFar s port false) i e v
    refine ⟨_, exec_acted hp rfl htrims, ?_, fun htold => ?_, fun hsilent => ?_, passedOn_acted hp htrims,
      queuesKept_around (changesOnly_lane hparts (by decide)) _ _, changesOnly_around (changesOnly_mono hparts (by decide)) (by decide) _ _⟩
    · rw [emit_entries, trimming_entries, noteFar_entries]
    · rw [noticeAt_of_site (emit_site ..), noticeAt_trimming hphase' htold]
    · rw [emit_site, trimming_site hsilent, noteFar_site]
  · have hfrees := hact (applyWithdraw_frees he hext hheld hstart hlow)
    have hparts := freeing_changesOnly (noteFar s port false) i e v
    have hentry (j : Nat) : (emit (freeing (noteFar s port false) i e v) (opp port) (some (hopped { hdr := h, body := .withdraw v }))).entry j
        = if i = j then none else s.entry j := by
      rw [entry_of_entries (emit_entries ..), entry_freeing, entry_of_entries (noteFar_entries ..)]
    refine ⟨_, exec_acted hp rfl hfrees, (hentry i).trans (if_pos rfl), fun j hj => (hentry j).trans (if_neg hj.symm), fun htold => ?_,
      fun hsilent => ?_, passedOn_acted hp hfrees, queuesKept_around (changesOnly_lane hparts (by decide)) _ _,
      changesOnly_around (changesOnly_mono hparts (by decide)) (by decide) _ _⟩
    · rw [noticeAt_of_site (emit_site ..), noticeAt_freeing hphase' htold]
    · rw [emit_site, freeing_site hsilent, noteFar_site]
  · have hends := hact rfl
    have hnow' : v ≤ (noteFar s port false).now := by rwa [now_noteFar]
    have hset := entry_setEntry_same (noteFar s port false) i (e.withEnd s.now) (placeAt_lt _ _ _ he)
    obtain ⟨⟨f, hf, hkey, hclosing, hbk, ha⟩, hbill, hreleased⟩ := release_metered hset hactive hm
    have htold := applyWithdraw_ends_changesOnly he hext hactive hnow'
    rw [now_noteFar] at htold
    have hparts : changesOnly [.lane, .entries, .switch, .mons, .bridged, .bill, .site] (noteFar s port false)
        (applyWithdraw (noteFar s port false) i v) :=
      changesOnly_trans (changesOnly_mono (setEntry_changesOnly _ i _) (by decide)) (changesOnly_trans hreleased (changesOnly_mono htold (by decide)))
    refine ⟨_, f, exec_acted hp rfl hends, ?_, hkey, hclosing, congrArg Booking.winEnd hbk, ha, ?_, passedOn_acted hp hends,
      changesOnly_around hparts (by decide) _ _⟩
    · rw [entry_of_entries (emit_entries ..), entry_of_entries (changesOnly_entries htold (by decide)), hf]
    · rw [emit_bill, changesOnly_bill htold (by decide), hbill, setEntry_bill, noteFar_bill]

/-! ### HOLDLOST at the origin -/

theorem act_holdlost (u : State) (port : Dir) (h : Header) (k : Key) (mode : Mode) (station : Nat) :
    act u port (hopped { hdr := h, body := .holdlost k mode station })
      = (actHoldlost u k mode station, hopped { hdr := h, body := .holdlost k mode station }) := rfl

section Holdlost
variable {s : State} {k : Key} {i station : Nat} {e : Entry}

/-- The committed entry with the marker that a HOLDLOST of a New claim sets (R76). -/
def markedEntry (e : Entry) : Entry := { e with marker := some .nowAtJoining }

/-- The marker is set, and HoldLost raised (R76). -/
def marking (s : State) (k : Key) (i station : Nat) (e : Entry) : State :=
  raiseNotice (setEntry s i (markedEntry e)) (sourceEntry i) (.holdLost k .new station .nowAtJoining)

theorem marking_changesOnly (s : State) (k : Key) (i station : Nat) (e : Entry) : changesOnly [.entries, .site] s (marking s k i station e) :=
  changesOnly_trans (changesOnly_mono (setEntry_changesOnly _ i _) (by decide)) (changesOnly_mono (raiseNotice_changesOnly _ _ _) (by decide))

theorem marking_entries (s : State) (k : Key) (i station : Nat) (e : Entry) :
    (marking s k i station e).entries = s.entries.set i (some { e with marker := some .nowAtJoining }) := raiseNotice_entries ..

theorem entry_marking (h : s.entry i = some e) : (marking s k i station e).entry i = some (markedEntry e) :=
  (entry_of_entries (raiseNotice_entries ..) i).trans (entry_setEntry_same s i _ (placeAt_lt _ _ _ h))

theorem entry_marking_ne {j : Nat} (h : i ≠ j) : (marking s k i station e).entry j = s.entry j :=
  (entry_of_entries (raiseNotice_entries ..) j).trans (entry_setEntry_ne s i j _ h)

theorem actHoldlost_marks (horigin : k.origin = s.self) (hfind : findEntry s k = some (i, e)) (hc : isCommitted e = true) (hm : e.marker = none) :
    actHoldlost s k .new station = attemptMarker (marking s k i station e) i := by
  simp [actHoldlost, horigin, hfind, holdlostMarker, hc, hm, marking, markedEntry]

theorem slotHolds_of_claims {s t : State} (h : t.claims = s.claims) (k : Key) : slotHolds t k = slotHolds s k := by simp only [slotHolds, h]

/-- While a claim slot holds the key nothing is tried (R81). -/
theorem attemptMarker_waits (he : s.entry i = some e) (hholds : slotHolds s e.key = true) : attemptMarker s i = s := by
  cases hm : e.marker with
  | none => exact attemptMarker_none he hm
  | some m => simp [attemptMarker, he, hm, hholds]

/-- The WITHDRAW of a marker without a fixed end joins, and the origin applies the moment as the end (R80, R81). -/
theorem attemptMarker_joins (he : s.entry i = some e) (hm : e.marker = some .nowAtJoining) (hc : isCommitted e = true)
    (hholds : slotHolds s e.key = false) (hj : canJoin s e.bk.dir = true) :
    attemptMarker s i = applyWithdraw (setEntry (join s e.bk.dir e.key.seq (.withdraw s.now)) i { e with marker := none }) i s.now := by
  simp [attemptMarker, he, hm, hc, hholds, hj]

/-- For a Held entry whose start has not passed that frees it (R80). -/
theorem attemptMarker_frees (he : s.entry i = some e) (hm : e.marker = some .nowAtJoining) (hheld : e.state = .held) (hext : e.ext = none)
    (hstart : s.now ≤ e.bk.winStart) (hholds : slotHolds s e.key = false) (hj : canJoin s e.bk.dir = true) :
    (∀ j, (attemptMarker s i).entry j = if i = j then none else s.entry j)
      ∧ joins s (attemptMarker s i) e.bk.dir e.key.seq (.withdraw s.now)
      ∧ changesOnly [.lane, .entries, .bridged, .site] s (attemptMarker s i) := by
  have hc : isCommitted e = true := (isCommitted_iff e).mpr (.inl hheld)
  rw [attemptMarker_joins he hm hc hholds hj]
  have hlen : i < (join s e.bk.dir e.key.seq (.withdraw s.now)).entries.length := by
    rw [join_entries]
    exact placeAt_lt _ _ _ he
  obtain ⟨hentry, hgone⟩ := applyWithdraw_gone (entry_setEntry_same _ i { e with marker := none } hlen) hext hheld hstart
  have hlane := changesOnly_lane hgone (by decide)
  refine ⟨fun j => (hentry j).trans ?_, joins_of_lane (joins_join ..) hlane, ?_⟩
  · by_cases hij : i = j
    · rw [if_pos hij, if_pos hij]
    · rw [if_neg hij, if_neg hij, entry_setEntry_ne _ i j _ hij, entry_of_entries (join_entries ..)]
  · exact changesOnly_trans (changesOnly_mono (join_changesOnly _ _ _ _) (by decide))
      (changesOnly_trans (changesOnly_mono (setEntry_changesOnly _ i _) (by decide)) (changesOnly_mono hgone (by decide)))

end Holdlost

/-- Settles O44: the marker alone, and the WITHDRAW at once. -/
theorem holdlostTaken : Obligations.HoldlostTaken := by
  intro s port h k station i e hp horigin hfind hc hm
  obtain ⟨⟨hphase, -⟩, -⟩ := id hp
  have hfind' := (findEntry_of_entries (noteFar_entries s port false) _).trans hfind
  have he := entry_of_findEntry hfind'
  have hkey := key_of_findEntry hfind
  have hmarks := actHoldlost_marks (station := station) (horigin.trans (self_noteFar s port false).symm) hfind' hc hm
  have hmarked := entry_marking (k := k) (station := station) he
  have hparts := marking_changesOnly (noteFar s port false) k i station e
  have hholds : slotHolds (marking (noteFar s port false) k i station e) (markedEntry e).key = slotHolds s k := by
    rw [slotHolds_of_claims (changesOnly_claims hparts (by decide)), slotHolds_of_claims (noteFar_claims ..), ← hkey]
    rfl
  have hact {u : State} (hu : attemptMarker (marking (noteFar s port false) k i station e) i = u) :
      act (noteFar s port false) port (hopped { hdr := h, body := .holdlost k .new station }) = (u, hopped { hdr := h, body := .holdlost k .new station }) :=
    (act_holdlost ..).trans (congrArg (·, _) (hmarks.trans hu))
  refine ⟨fun hslot => ?_, fun hslot hheld hstart hext hj => ?_⟩
  · have hwaits := hact (attemptMarker_waits hmarked (hholds.trans hslot))
    refine ⟨_, exec_acted hp rfl hwaits, ?_, ?_, passedOn_acted hp hwaits, queuesKept_around (changesOnly_lane hparts (by decide)) _ _,
      changesOnly_around (changesOnly_mono hparts (by decide)) (by decide) _ _⟩
    · rw [emit_entries, marking_entries, noteFar_entries]
    · rw [noticeAt_of_site (emit_site ..)]
      exact noticeAt_raiseNotice (s := setEntry (noteFar s port false) i (markedEntry e)) (running_of_normal ((noteFar_phase ..).trans hphase)) _ _
  · have hroom : canJoin (marking (noteFar s port false) k i station e) (markedEntry e).bk.dir = true :=
      (canJoin_of_lane (changesOnly_lane hparts (by decide)) _).trans ((canJoin_noteFar ..).trans hj)
    have hnow : (marking (noteFar s port false) k i station e).now = s.now :=
      (now_of_clock (changesOnly_clock hparts (by decide))).trans (now_noteFar ..)
    obtain ⟨hentry, hjoined, hgone⟩ := attemptMarker_frees hmarked rfl hheld hext (by rwa [hnow]) (hholds.trans hslot) hroom
    have hjoined' := joins_from_lane hjoined (changesOnly_lane hparts (by decide)) (changesOnly_cfg hparts (by decide))
    rw [hnow, show (markedEntry e).key = k from hkey] at hjoined'
    have htried := hact rfl
    refine ⟨_, exec_acted hp rfl htried, ?_, fun j hij => ?_, joins_around hjoined' _ _, passedOn_acted hp htried,
      changesOnly_around (changesOnly_trans (changesOnly_mono hparts (by decide)) hgone) (by decide) _ _⟩
    · rw [entry_of_entries (emit_entries ..), hentry, if_pos rfl]
    · rw [entry_of_entries (emit_entries ..), hentry, if_neg hij.symm, entry_marking_ne hij.symm, entry_of_entries (noteFar_entries ..)]

end Sys2Proof.Machine

namespace Sys2Proof.Machine

/-! ### The site port but for its notices -/

/-- The site port but for its notices: what work that tells the host leaves of it. -/
def Site.untold (x : Site) : Site := { x with notices := [] }

section Untold
variable {s t : State} {i : Nat} {e : Entry}

theorem raiseNotice_untold (s : State) (src : Nat) (c : NoticeBody) : (raiseNotice s src c).site.untold = s.site.untold := by
  rw [raiseNotice_site]
  split <;> rfl

theorem noticeWithdrawn_untold (s : State) (i : Nat) (e : Entry) (v : Nat) (x : WithdrawEffect) :
    (noticeWithdrawn s i e v x).site.untold = s.site.untold := by
  unfold noticeWithdrawn
  split
  · exact raiseNotice_untold ..
  · rfl

theorem judgePreempted_untold (k : Key) (s : State) (i : Nat) : (judgePreempted k s i).site.untold = s.site.untold := by
  have hjudged (b : Bool) (c : NoticeBody) : (raiseNotice (writePreempted s i b) (sourceEntry i) c).site.untold = s.site.untold := by
    rw [raiseNotice_untold, writePreempted_site]
  unfold judgePreempted
  split
  · rfl
  · split
    · split <;> split
      · rfl
      · exact hjudged _ _
      · exact hjudged _ _
      · rfl
    · rfl

theorem judgeAllPreempted_untold (s : State) (k : Key) : (judgeAllPreempted s k).site.untold = s.site.untold :=
  forEach_field (fun t => t.site.untold) _ (judgePreempted_untold k) _ s

theorem clearWorkCells_site (s : State) (e : Entry) : (clearWorkCells s e).site = s.site := by
  unfold clearWorkCells
  split
  · exact forEach_field State.site _ (fun t j => updCell_site t _ _ _) _ s
  · rfl

theorem clearProtCells_site (s : State) (e : Entry) : (clearProtCells s e).site = s.site := by
  unfold clearProtCells
  split
  · exact forEach_field State.site _ (fun t j => updCell_site t _ _ _) _ s
  · rfl

theorem cleared_site (s : State) (e : Entry) : (cleared s e).site = s.site := by
  rw [cleared, clearPlaces_site, releaseOutput_site, clearProtCells_site, clearWorkCells_site]

theorem ending_untold (s : State) (i : Nat) (e : Entry) : (ending s i e).site.untold = s.site.untold := by
  rw [ending, endProtection, dropBridged_site, changesOnly_site (bridgeOffAtEnd_changesOnly _ e) (by decide), judgeAllPreempted_untold, updEntry_site,
    cleared_site]

theorem closeOrFree_site (s : State) (i : Nat) : (closeOrFree s i).site = s.site := by
  unfold closeOrFree
  split
  · rfl
  · split
    · rfl
    · exact freeEntry_site s i

theorem release_untold (he : s.entry i = some e) : (release s i).site.untold = s.site.untold := by
  rw [release_eq he, closeOrFree_site, ending_untold]

theorem trimming_untold (s : State) (i : Nat) (e : Entry) (v : Nat) : (trimming s i e v).site.untold = s.site.untold :=
  noticeWithdrawn_untold (setEntry s i (e.withEnd v)) i e v .trimmed

theorem freeing_untold (s : State) (i : Nat) (e : Entry) (v : Nat) : (freeing s i e v).site.untold = s.site.untold := by
  rw [freeing, noticeWithdrawn_untold, freeEntry_site]

/-- A request that only tells the host leaves its reply and its notices (R203). -/
theorem repliesWith_of_untold (tag code : Byte) (x : Status) (data : ReplyData) (h : t.site.untold = s.site.untold) :
    repliesWith s (t.withSite { t.site with reply := some { tag := tag, code := code, status := x, data := data } }) tag code x data := by
  simp only [Site.untold, Site.mk.injEq] at h
  obtain ⟨hrx, -, hshorts, hdiscards, hrestart, -, hframe⟩ := h
  simp [repliesWith, hrx, hshorts, hdiscards, hrestart, hframe]

end Untold

/-! ### WITHDRAW at the origin -/

section Withdraw
variable {s : State} {tag : Byte} {params : List Byte} {i v : Nat} {e : Entry} {given : Option Nat}

theorem lengthOk_withdraw (h : params.length = 3 ∨ params.length = 7) : lengthOk codeWithdraw params.length = true := by
  obtain h | h := h <;> rw [h] <;> rfl

/-- A Withdraw that passes its checks: the WITHDRAW joins, and its end is applied here at once (R79). -/
theorem withdrawEntry_passes (horigin : e.key.origin = s.self) (hc : isCommitted e = true) (hholds : slotHolds s e.key = false) (hm : e.marker = none)
    (hgiven : ∀ v, given = some v → v < e.bk.winEnd) (hj : canJoinSite s e.bk.dir = true) :
    withdrawEntry s i e given = answer (applyWithdraw (join s e.bk.dir e.key.seq (.withdraw (given.getD s.now))) i (given.getD s.now)) .done := by
  cases given with
  | none => simp [withdrawEntry, horigin, hc, hholds, hm, hj]
  | some v => simp [withdrawEntry, horigin, hc, hholds, hm, hj, hgiven v rfl]

/-- What a Withdraw that passes its checks leaves: the end applied, and the answer Done (R79). -/
theorem exec_withdraw_passes (hready : portReady s) (hfind : findEntry s (keyAt params 0) = some (i, e)) (hl : params.length = 3 ∨ params.length = 7)
    (horigin : e.key.origin = s.self) (hc : isCommitted e = true) (hholds : slotHolds s e.key = false) (hm : e.marker = none)
    (hgiven : ∀ v, withdrawEnd params = some v → v < e.bk.winEnd) (hj : canJoinSite s e.bk.dir = true) {v : Nat}
    (hv : (withdrawEnd params).getD s.now = v) {t : State} (ht : applyWithdraw (join s e.bk.dir e.key.seq (.withdraw v)) i v = t) :
    exec (.withdraw tag params) s
      = .next (t.withSite { t.site with reply := some { tag := tag, code := codeWithdraw, status := .done, data := .none } }) := by
  have hanswer : handleWithdraw params s = { state := t, status := .done, data := .none } := by
    rw [handleWithdraw, hfind]
    dsimp only
    rw [withdrawEntry_passes horigin hc hholds hm hgiven hj, hv, ht]
    rfl
  exact congrArg Host.Outcome.next (siteRequest_answered hready tag (lengthOk_withdraw hl) hanswer)

end Withdraw

section Origin
variable {s : State} {i : Nat} {e : Entry}

/-- The state of an entry's place and its notices when a withdrawal has joined from this station and lowered the end of a Held entry to v (R79, R80). -/
structure LoweredTo (s t : State) (i : Nat) (e : Entry) (v : Nat) : Prop where
  joined  : joins s t e.bk.dir e.key.seq (.withdraw v)
  untold  : t.site.untold = s.site.untold
  trimmed : e.bk.winStart < v → t.entry i = some { e with bk := { e.bk with winEnd := v } }
    ∧ (reportsWithdraw e = true → noticeAt t (sourceEntry i) = some (.entryWithdrawn e.key v .trimmed))
  freed   : v ≤ e.bk.winStart → t.entry i = none ∧ (reportsWithdraw e = true → noticeAt t (sourceEntry i) = some (.entryWithdrawn e.key v .freed))
  silent  : reportsWithdraw e = false → t.site.notices = s.site.notices
  others  : ∀ j, j ≠ i → t.entry j = s.entry j
  changes : changesOnly [.lane, .entries, .bridged, .site] s t

theorem trimming_lowers (hp : s.phase = .normal) (he : s.entry i = some e) {v : Nat} (hstart : e.bk.winStart < v) :
    LoweredTo s (trimming (join s e.bk.dir e.key.seq (.withdraw v)) i e v) i e v where
  joined := joins_of_lane (joins_join ..) (changesOnly_lane (trimming_changesOnly _ i e v) (by decide))
  untold := by rw [trimming_untold, join_site]
  trimmed _ := by
    refine ⟨?_, noticeAt_trimming ((join_phase ..).trans hp)⟩
    rw [State.entry, trimming_entries, join_entries]
    exact placeAt_set_same _ i _ (placeAt_lt _ _ _ he)
  freed h := absurd hstart (by omega)
  silent h := by rw [trimming_site h, join_site]
  others j hj := by
    rw [State.entry, trimming_entries, join_entries]
    exact placeAt_set_ne _ i j _ hj.symm
  changes := changesOnly_trans (changesOnly_mono (join_changesOnly _ _ _ _) (by decide)) (changesOnly_mono (trimming_changesOnly _ i e v) (by decide))

theorem freeing_lowers (hp : s.phase = .normal) {v : Nat} (hstart : v ≤ e.bk.winStart) :
    LoweredTo s (freeing (join s e.bk.dir e.key.seq (.withdraw v)) i e v) i e v where
  joined := joins_of_lane (joins_join ..) (changesOnly_lane (freeing_changesOnly _ i e v) (by decide))
  untold := by rw [freeing_untold, join_site]
  trimmed h := absurd hstart (by omega)
  freed _ := ⟨(entry_freeing _ i e v i).trans (if_pos rfl), noticeAt_freeing ((join_phase ..).trans hp)⟩
  silent h := by rw [freeing_site h, join_site]
  others j hj := by rw [entry_freeing, if_neg hj.symm, entry_of_entries (join_entries ..)]
  changes := changesOnly_trans (changesOnly_mono (join_changesOnly _ _ _ _) (by decide)) (changesOnly_mono (freeing_changesOnly _ i e v) (by decide))

/-- The end of a Held entry is lowered to one below it (R80). -/
theorem applyWithdraw_lowers (hp : s.phase = .normal) (he : s.entry i = some e) (hext : e.ext = none) (hheld : e.state = .held) {v : Nat}
    (hlow : v < e.bk.winEnd) : LoweredTo s (applyWithdraw (join s e.bk.dir e.key.seq (.withdraw v)) i v) i e v := by
  have he' : (join s e.bk.dir e.key.seq (.withdraw v)).entry i = some e := (entry_of_entries (join_entries ..) i).trans he
  by_cases hstart : v ≤ e.bk.winStart
  · rw [applyWithdraw_frees he' hext hheld hstart hlow]
    exact freeing_lowers hp hstart
  · rw [applyWithdraw_trims he' hext (.inl ⟨hheld, by omega⟩) hlow]
    exact trimming_lowers hp he (by omega)

/-- An Active entry without a meter that ends now is freed; whatever joins in its release joins behind the WITHDRAW (R80, R113). -/
theorem applyWithdraw_endsUnmetered (he : s.entry i = some e) (hext : e.ext = none) (hactive : e.state = .active) (hm : e.meter = none) :
    (applyWithdraw (join s e.bk.dir e.key.seq (.withdraw s.now)) i s.now).entry i = none
      ∧ (∃ rest, (applyWithdraw (join s e.bk.dir e.key.seq (.withdraw s.now)) i s.now).queue e.bk.dir
          = s.queue e.bk.dir ++ newMsg s e.bk.dir e.key.seq (.withdraw s.now) :: rest)
      ∧ (applyWithdraw (join s e.bk.dir e.key.seq (.withdraw s.now)) i s.now).site.untold = s.site.untold
      ∧ changesOnly [.lane, .entries, .switch, .mons, .bridged, .site] s (applyWithdraw (join s e.bk.dir e.key.seq (.withdraw s.now)) i s.now) := by
  have hjoin := join_changesOnly s e.bk.dir e.key.seq (.withdraw s.now)
  have hqueue := queue_join s e.bk.dir e.key.seq (.withdraw s.now)
  have hsite := join_site s e.bk.dir e.key.seq (.withdraw s.now)
  have he' : (join s e.bk.dir e.key.seq (.withdraw s.now)).entry i = some e := (entry_of_entries (join_entries ..) i).trans he
  have hnow : (join s e.bk.dir e.key.seq (.withdraw s.now)).now = s.now := now_of_clock (join_clock ..)
  generalize join s e.bk.dir e.key.seq (.withdraw s.now) = u at hjoin hqueue hsite he' hnow ⊢
  have hset := entry_setEntry_same u i (e.withEnd u.now) (placeAt_lt _ _ _ he')
  obtain ⟨hfreed, hreleased⟩ := release_unmetered hset hactive hm
  have htold := applyWithdraw_ends_changesOnly he' hext hactive hnow.ge
  refine ⟨?_, ?_, ?_, ?_⟩
  · rw [entry_of_entries (changesOnly_entries htold (by decide)), hfreed]
  · have htends : Tends (fun _ => True) (fun _ => True) u (applyWithdraw u i s.now) := applyWithdraw_tends trivial (keysIn_true u) s.now
    obtain ⟨rest, hrest⟩ := htends.works.queue e.bk.dir
    exact ⟨rest, by rw [← hrest, hqueue, List.append_assoc, List.singleton_append]⟩
  · rw [applyWithdraw_ends he' hext hactive hnow.ge, ← hsite, ← setEntry_site u i (e.withEnd u.now), ← release_untold hset]
    split
    · exact noticeWithdrawn_untold ..
    · rfl
  · exact changesOnly_trans (changesOnly_mono hjoin (by decide)) (changesOnly_trans (changesOnly_mono (setEntry_changesOnly _ i _) (by decide))
      (changesOnly_trans hreleased (changesOnly_mono htold (by decide))))

end Origin

/-- Settles O20: the end of a Held booking lowered, and an Active one ended now. -/
theorem withdrawLowersEnd : Obligations.WithdrawLowersEnd := by
  intro s tag params i e hready hfind horigin hholds hm hext hj
  obtain ⟨-, hp⟩ := id hready
  have he := entry_of_findEntry hfind
  refine ⟨fun hlen hheld hlow => ?_, fun hlen hactive hmeter => ?_⟩
  · have hend : withdrawEnd params = some (fieldAt params 3 4) := if_pos hlen
    have hlowered := applyWithdraw_lowers hp he hext hheld hlow
    have hexec := exec_withdraw_passes (tag := tag) hready hfind (.inr hlen) horigin ((isCommitted_iff e).mpr (.inl hheld)) hholds hm
      (fun v hv => Option.some.inj (hend.symm.trans hv) ▸ hlow) hj (v := fieldAt params 3 4) (by rw [hend, Option.getD_some]) rfl
    exact ⟨_, hexec, hlowered.joined, repliesWith_of_untold tag _ _ _ hlowered.untold, hlowered.trimmed, hlowered.freed, hlowered.silent,
      hlowered.others, changesOnly_trans hlowered.changes (changesOnly_mono (withSite_changesOnly _ _) (by decide))⟩
  · have hend : withdrawEnd params = none := if_neg (by omega)
    have hexec := exec_withdraw_passes (tag := tag) hready hfind (.inl hlen) horigin ((isCommitted_iff e).mpr (.inr hactive)) hholds hm
      (fun v hv => absurd (hend.symm.trans hv) (by simp)) hj (v := s.now) (by rw [hend, Option.getD_none]) rfl
    obtain ⟨hfreed, hqueue, huntold, hparts⟩ := applyWithdraw_endsUnmetered he hext hactive hmeter
    exact ⟨_, hexec, hqueue, repliesWith_of_untold tag _ _ _ huntold, hfreed,
      changesOnly_trans hparts (changesOnly_mono (withSite_changesOnly _ _) (by decide))⟩

end Sys2Proof.Machine

namespace Sys2Proof.Machine

/-! ### Walks, and what they leave of the recall controller -/

/-- The recall controller's record but for its pending-recall set and its cursor. -/
def Recall.offWalk (r : Recall) : Recall := { r with pendingSet := 0, walk := none }

section Walk
variable {s t : State}

/-- A walk changes the pending-recall set and the cursor alone of the record (R92). -/
theorem walkFrom_offWalk (n : Nat) (s : State) (i : Nat) : (walkFrom n s i).recov.offWalk = s.recov.offWalk := by
  induction n generalizing s i with
  | zero => rfl
  | succ n ih =>
    unfold walkFrom
    split
    · exact ih ..
    · split
      · split
        · exact (ih ..).trans (congrArg Recall.offWalk (join_recov ..))
        · rfl
      · exact ih ..

/-- A walk of a station that answers for nothing runs to its end at once (R92). -/
theorem walkFrom_silent (h : ∀ i e, s.entry i = some e → isResponder s e = false) (n i : Nat) :
    walkFrom n s i = s.withRecov { s.recov with walk := none, pendingSet := 0 } := by
  induction n generalizing i with
  | zero => rfl
  | succ n ih =>
    unfold walkFrom
    split
    · exact ih ..
    · rename_i e he
      rw [h i e he, if_neg Bool.false_ne_true]
      exact ih ..

/-- Who answers for an entry goes by the recall controller and the configuration (R91). -/
theorem isResponder_of_recov (hr : t.recov = s.recov) (hc : t.cfg = s.cfg) (e : Entry) : isResponder t e = isResponder s e := by
  simp only [isResponder, targetSet, hr, self_of_cfg hc, State.ring, hc]

end Walk

/-! ### RECALL -/

section Recall
variable {s : State} {port : Dir} {h : Header}

/-- The recall controller's record with one station more in its pending-recall set (R90). -/
def Recall.awaitedBy (r : Recall) (sender : Nat) : Recall := { r with pendingSet := stationAdd r.pendingSet sender }

theorem act_recall (u : State) (port : Dir) (h : Header) : act u port (hopped { hdr := h, body := .recallReq })
    = (actRecall u h.origin, hopped { hdr := h, body := .recallReq }) := rfl

theorem actRecall_waits (hs : s.recov.state ≠ .normal) (sender : Nat) : actRecall s sender = s.withRecov (s.recov.awaitedBy sender) := if_neg hs

theorem actRecall_walks (hs : s.recov.state = .normal) (sender : Nat) :
    actRecall s sender = walkAt (s.withRecov (s.recov.awaitedBy sender)) 0 := if_pos hs

theorem recallBack_matches (hs : s.recov.state = .recovering) (hseq : s.recov.lastSeq = some h.seq) : recallBack s h.seq
    = s.withRecov { s.recov with returned := true, resend := none, quiet := some (s.nowMs + 1000) } := by
  simp [recallBack, hs, hseq, after, Config.quietMs]

/-- A message of this station's that comes back is handed to its block, and its slot goes on empty (R14). -/
theorem exec_handedBack {c : Instr} {b : Body} (hc : slotOf c = some (port, { farDown := false, msg := some { hdr := h, body := b } }))
    (hback : comesBack s port h) : exec c s = .next (emit (handBack (noteFar s port false) { hdr := h, body := b }) (opp port) none) := by
  obtain ⟨ho, -⟩ := id hback
  obtain ⟨hnear, hfar⟩ := open_not_wrapped s port ho
  have hshell := handBack_shell (noteFar s port false) { hdr := h, body := b }
  rw [exec_of_slotOf hc]
  refine congrArg Host.Outcome.next ((arriveFull_comesBack s port { hdr := h, body := b } hback).trans ?_)
  rw [continueEmpty, wrapped_of_shell hshell, wrapped_of_shell hshell, hnear, hfar]
  rfl

/-- A RECALL that passes and whose taking changes the recall controller alone. -/
theorem recall_passes {r : Recall} (hp : passes s port h) (hact : actRecall (noteFar s port false) h.origin = (noteFar s port false).withRecov r) :
    ∃ t, exec (.recallReceived port false h) s = .next t ∧ t.recov = r ∧ passedOn s t port h .recallReq ∧ queuesKept s t
      ∧ changesOnly [.lane, .recov] s t := by
  have hacts := (act_recall (noteFar s port false) port h).trans (congrArg (·, _) hact)
  exact ⟨_, exec_acted hp rfl hacts, emit_recov .., passedOn_acted hp hacts, queuesKept_around (State.withRecov_lane ..) _ _,
    changesOnly_around (changesOnly_mono (withRecov_changesOnly _ _) (by decide)) (by decide) _ _⟩

end Recall

/-- Settles O49: the station that only notes the sender, the one whose walk finds nothing to announce, and the RECALL that comes back. -/
theorem recallTaken : Obligations.RecallTaken := by
  refine ⟨fun s port h hp => ⟨fun hs => ?_, fun hs hsilent => ?_⟩, fun s port h hback hs hseq => ?_⟩
  · have hrecov := noteFar_recov s port false
    have hact := actRecall_waits (s := noteFar s port false) (by rwa [hrecov]) h.origin
    rw [hrecov] at hact
    exact recall_passes hp hact
  · have hrecov := noteFar_recov s port false
    have hact := actRecall_walks (s := noteFar s port false) (by rwa [hrecov]) h.origin
    rw [hrecov, walkAt, walkFrom_silent] at hact
    · exact recall_passes hp hact
    · intro i e he
      have hsame := isResponder_of_recov (s := s.withRecov (s.recov.awaitedBy h.origin))
        (t := (noteFar s port false).withRecov (s.recov.awaitedBy h.origin)) rfl (noteFar_cfg ..) e
      exact hsame.trans (hsilent i e ((entry_of_entries (noteFar_entries s port false) i).symm.trans he))
  · obtain ⟨ho, -⟩ := id hback
    have hrecov := noteFar_recov s port false
    have hmatch := recallBack_matches (s := noteFar s port false) (h := h) (by rwa [hrecov]) (by rwa [hrecov])
    rw [hrecov, noteFar_nowMs] at hmatch
    have hexec := exec_handedBack (c := .recallReturned port false h) rfl hback
    rw [show handBack (noteFar s port false) { hdr := h, body := .recallReq } = _ from hmatch] at hexec
    exact ⟨_, hexec, emit_recov .., slotLeaves_of_shell ho (withRecov_shell ..) none, queuesKept_around (State.withRecov_lane ..) _ _,
      changesOnly_around (changesOnly_mono (withRecov_changesOnly _ _) (by decide)) (by decide) _ _⟩

end Sys2Proof.Machine

namespace Sys2Proof.Machine

/-! ### Leaving recovery -/

section Leaving
variable {s : State} {cause : EndCause} {d : Nat}

/-- The recall controller's record once recovery is left: Normal, without a deadline (R97). -/
def Recall.left (r : Recall) : Recall := { r with state := .normal, resend := none, quiet := none, limit := none }

/-- The state once the deadlines have gone and, after a cold restart, the cells without a layer stand Idle (R97 step 1, R116). -/
def cellsLeft (s : State) : State := if s.recov.kind = .cold then idleUnownedCells (s.withRecov s.recov.left) else s.withRecov s.recov.left

/-- The state with the sequence counter put behind the highest own sequence installed, where there is one (R97 step 2). -/
def counterLeft (s : State) : State :=
  match s.recov.highestOwn with
  | some n => (cellsLeft s).withClaims { (cellsLeft s).claims with seqCounter := nextSeq n }
  | none => cellsLeft s

/-- The state that the first three steps of R97 leave, the end of recovery told. -/
def recoveryTold (s : State) (cause : EndCause) : State :=
  raiseNotice (counterLeft s) sourceRecall (.recoveryEnded cause s.recov.kind s.recov.installed s.recov.duplicates s.recov.conflicts)

theorem cellsLeft_changesOnly (s : State) : changesOnly [.recov, .switch] s (cellsLeft s) := by
  have hrecov := withRecov_changesOnly s s.recov.left
  unfold cellsLeft
  split
  · exact changesOnly_trans (changesOnly_mono hrecov (by decide)) (changesOnly_mono (withSwitch_changesOnly _ _) (by decide))
  · exact changesOnly_mono hrecov (by decide)

theorem cellsLeft_recov (s : State) : (cellsLeft s).recov = s.recov.left := by
  unfold cellsLeft
  split <;> rfl

theorem cellsLeft_warm (h : s.recov.kind = .warm) : (cellsLeft s).switch = s.switch := by simp [cellsLeft, h]

/-- After a cold restart every cell without a layer stands Idle (R116). -/
theorem cellsLeft_cold (h : s.recov.kind = .cold) {x : Cell} (hx : x ∈ (cellsLeft s).switch.cells) (hw : x.working = none)
    (hp : x.protection = none) : x.standing = .idle := by
  rw [cellsLeft, if_pos h] at hx
  obtain ⟨c, -, rfl⟩ := List.mem_map.1 hx
  by_cases hfree : c.working = none ∧ c.protection = none
  · simp [hfree]
  · simp only [Bool.and_eq_true, Option.isNone_iff_eq_none, hfree, if_false] at hw hp
    exact absurd ⟨hw, hp⟩ hfree

theorem counterLeft_changesOnly (s : State) : changesOnly [.claims] (cellsLeft s) (counterLeft s) := by
  unfold counterLeft
  split
  · exact withClaims_changesOnly _ _
  · exact changesOnly_refl _ _

theorem counterLeft_some {n : Nat} (h : s.recov.highestOwn = some n) : (counterLeft s).claims.seqCounter = (n + 1) % 65536 := by
  simp [counterLeft, h, nextSeq]

theorem counterLeft_none (h : s.recov.highestOwn = none) : (counterLeft s).claims = s.claims := by
  rw [counterLeft, h]
  exact changesOnly_claims (cellsLeft_changesOnly s) (by decide)

theorem recoveryTold_changesOnly (s : State) (cause : EndCause) : changesOnly [.claims, .recov, .switch, .site] s (recoveryTold s cause) :=
  changesOnly_trans (changesOnly_mono (cellsLeft_changesOnly s) (by decide)) (changesOnly_trans
    (changesOnly_mono (counterLeft_changesOnly s) (by decide)) (changesOnly_mono (raiseNotice_changesOnly _ _ _) (by decide)))

theorem recoveryTold_recov (s : State) (cause : EndCause) : (recoveryTold s cause).recov = s.recov.left := by
  rw [recoveryTold, raiseNotice_recov, changesOnly_recov (counterLeft_changesOnly s) (by decide), cellsLeft_recov]

/-- The fourth step of R97: the walk, where stations have asked meanwhile (R90). -/
theorem leaveRecovery_eq (s : State) (cause : EndCause) : leaveRecovery s cause
    = if s.recov.pendingSet != 0 then walkAt (recoveryTold s cause) 0 else recoveryTold s cause := by
  have hpending : (recoveryTold s cause).recov.pendingSet = s.recov.pendingSet := by
    rw [recoveryTold_recov]
    rfl
  rw [← hpending]
  rfl

/-- What leaving recovery does: the three steps of R97, then no more than a walk. -/
theorem leaveRecovery_walks (s : State) (cause : EndCause) : changesOnly [.lane, .recov] (recoveryTold s cause) (leaveRecovery s cause)
    ∧ (leaveRecovery s cause).recov.offWalk = s.recov.left.offWalk := by
  rw [leaveRecovery_eq, ← recoveryTold_recov s cause]
  split
  · exact ⟨(walkFrom_walksOn ..).changes, walkFrom_offWalk ..⟩
  · exact ⟨changesOnly_refl _ _, rfl⟩

/-- What stands once recovery has been left (R89, R97, R116). -/
structure RecoveryLeft (s t : State) (cause : EndCause) : Prop where
  recov   : t.recov.offWalk = s.recov.left.offWalk
  told    : noticeAt t sourceRecall = some (.recoveryEnded cause s.recov.kind s.recov.installed s.recov.duplicates s.recov.conflicts)
  cold    : s.recov.kind = .cold → ∀ x ∈ t.switch.cells, x.working = none → x.protection = none → x.standing = .idle
  warm    : s.recov.kind = .warm → t.switch = s.switch
  counter : ∀ n, s.recov.highestOwn = some n → t.claims.seqCounter = (n + 1) % 65536
  claims  : s.recov.highestOwn = none → t.claims = s.claims
  changes : changesOnly [.lane, .claims, .recov, .switch, .site] s t

theorem leaveRecovery_left (hp : s.phase = .normal) (cause : EndCause) : RecoveryLeft s (leaveRecovery s cause) cause := by
  obtain ⟨hwalk, hrecov⟩ := leaveRecovery_walks s cause
  have hswitch : (leaveRecovery s cause).switch = (cellsLeft s).switch :=
    ((hwalk .switch (by decide)).trans (raiseNotice_switch ..)).trans (counterLeft_changesOnly s .switch (by decide))
  have hclaims : (leaveRecovery s cause).claims = (counterLeft s).claims := (changesOnly_claims hwalk (by decide)).trans (raiseNotice_claims ..)
  have hphase : (counterLeft s).phase = .normal :=
    ((counterLeft_changesOnly s .phase (by decide)).trans (cellsLeft_changesOnly s .phase (by decide))).trans hp
  refine ⟨hrecov, ?_, fun hcold x hx => cellsLeft_cold hcold (hswitch ▸ hx), fun hwarm => hswitch.trans (cellsLeft_warm hwarm), fun n hn => ?_,
    fun hn => hclaims.trans (counterLeft_none hn), ?_⟩
  · rw [noticeAt_of_site (changesOnly_site hwalk (by decide))]
    exact noticeAt_raiseNotice (running_of_normal hphase) _ _
  · rw [hclaims, counterLeft_some hn]
  · exact changesOnly_trans (changesOnly_mono (recoveryTold_changesOnly s cause) (by decide)) (changesOnly_mono hwalk (by decide))

end Leaving

/-! ### The recall controller's timers and the query's -/

section Timers
variable {s : State} {d : Nat}

/-- A further RECALL joins the east queue, is counted and timed (R87). -/
theorem sendRecall_sends (hj : canJoin s .east = true) (hsends : s.recov.sends < 3) : joins s (sendRecall s) .east s.lane.counter .recallReq
    ∧ (sendRecall s).lane.counter = (s.lane.counter + 1) % 65536
    ∧ (sendRecall s).recov
      = { s.recov with sends := s.recov.sends + 1, lastSeq := some s.lane.counter, resend := some (s.nowMs + 500) } := by
  have hcount : min 3 (s.recov.sends + 1) = s.recov.sends + 1 := by omega
  have hsent : sendRecall s = joinCounted (s.withRecov { s.recov with
      sends := s.recov.sends + 1, lastSeq := some s.lane.counter, resend := some (s.nowMs + 500) }) .recallReq := by
    simp [sendRecall, hj, hcount, after, Config.circuitMs]
  rw [hsent]
  exact ⟨joins_from_lane (joins_joinCounted ..) rfl rfl, rfl, rfl⟩

theorem exec_resendDeadline (hs : s.recov.state = .recovering) (hd : s.recov.resend = some d) :
    exec .resendDeadline s = .next (if s.recov.sends < 3 then sendRecall (reach s d) else leaveRecovery (reach s d) .incomplete) := by
  simp [exec, execResendDeadline, hs, hd, expireResend]

/-- The deadline that ends recovery with a cause, and its command (R87, R89). -/
theorem exec_endsRecovery {c : Instr} {cause : EndCause} (hs : s.recov.state = .recovering)
    (hends : (c = .resendDeadline ∧ cause = .incomplete ∧ s.recov.resend = some d ∧ 3 ≤ s.recov.sends)
      ∨ (c = .quietDeadline ∧ cause = .quiet ∧ s.recov.quiet = some d)
      ∨ (c = .recoveryLimit ∧ cause = .timeLimit ∧ s.recov.limit = some d)) : exec c s = .next (leaveRecovery (reach s d) cause) := by
  obtain ⟨rfl, rfl, hd, hsends⟩ | ⟨rfl, rfl, hd⟩ | ⟨rfl, rfl, hd⟩ := hends
  · rw [exec_resendDeadline hs hd, if_neg (by omega)]
  · simp [exec, execQuietDeadline, hs, hd]
  · simp [exec, execRecoveryLimit, hs, hd]

theorem exec_queryDeadline {q : Query} (hq : s.bill.query = some q) : exec .queryDeadline s = .next (lapseQuery (reach s q.deadline) q) := by
  simp [exec, execQueryDeadline, hq]

theorem lapseQuery_changesOnly (s : State) (q : Query) : changesOnly [.bill, .site] s (lapseQuery s q) :=
  changesOnly_trans (changesOnly_mono (withBill_changesOnly s _) (by decide)) (changesOnly_mono (raiseNotice_changesOnly _ _ _) (by decide))

end Timers

/-- Settles O58: the RECALL sent again, the three ends of recovery as one, the query that lapses. -/
theorem recoveryAndQueryTimers : Obligations.RecoveryAndQueryTimers := by
  refine ⟨fun s d hs hd hsends hj => ?_, fun s c cause d hp hs hends => ?_, fun s q hp hq => ?_⟩
  · have hexec := exec_resendDeadline hs hd
    have hsent := sendRecall_sends (s := reach s d) ((canJoin_reach s d _).trans hj) (by rwa [reach_recov])
    rw [reach_lane, reach_recov, reach_nowMs] at hsent
    obtain ⟨hjoins, hcounter, hrecov⟩ := hsent
    rw [if_pos hsends] at hexec
    exact ⟨_, hexec, joins_from_lane hjoins (reach_lane s d) (reach_cfg s d), hcounter, hrecov,
      timed (sendRecall_changesOnly _) (by decide) (by decide)⟩
  · obtain ⟨hrecov, htold, hcold, hwarm, hcounter, hclaims, hchanges⟩ := leaveRecovery_left (s := reach s d) ((reach_phase s d).trans hp) cause
    rw [reach_recov] at hrecov htold hcold hwarm hcounter hclaims
    rw [reach_switch] at hwarm
    rw [reach_claims] at hclaims
    refine ⟨_, exec_endsRecovery hs hends, ?_, ?_, ?_, ?_, htold, hcold, hwarm, hcounter, hclaims, timed hchanges (by decide) (by decide)⟩
    · exact congrArg Recall.state hrecov
    · exact congrArg Recall.resend hrecov
    · exact congrArg Recall.quiet hrecov
    · exact congrArg Recall.limit hrecov
  · refine ⟨_, exec_queryDeadline hq, ?_, ?_, timed (lapseQuery_changesOnly _ q) (by decide) (by decide)⟩
    · rw [lapseQuery, raiseNotice_bill, State.withBill_bill, reach_bill]
    · have hrun : ((reach s q.deadline).withBill { (reach s q.deadline).bill with query := none }).running = true :=
        running_of_normal ((reach_phase s q.deadline).trans hp)
      exact noticeAt_raiseNotice hrun _ _

end Sys2Proof.Machine

namespace Sys2Proof.Machine

/-! ### What an activation writes of the switch and the monitors -/

section Writes
variable {s t : State} {i v : Nat} {e : Entry}

theorem writeWorkCells_switchOnly (s : State) (i : Nat) (e : Entry) : changesOnly [.switch] s (writeWorkCells s i e) := by
  unfold writeWorkCells
  split
  · exact forEach_changesOnly (fun u _ => withSwitch_changesOnly u _) _ s
  · exact changesOnly_refl _ s

theorem writeProtCells_switchOnly (s : State) (i : Nat) (e : Entry) : changesOnly [.switch] s (writeProtCells s i e) := by
  unfold writeProtCells
  split
  · exact forEach_changesOnly (fun u _ => withSwitch_changesOnly u _) _ s
  · exact changesOnly_refl _ s

theorem writeOutput_switchOnly (s : State) (i : Nat) (e : Entry) : changesOnly [.switch] s (writeOutput s i e) := by
  unfold writeOutput
  split
  · exact changesOnly_refl _ s
  · exact withSwitch_changesOnly s _

theorem handToProtection_changesOnly (s : State) (i v : Nat) : changesOnly [.entries, .switch, .mons, .site] s (handToProtection s i v) := by
  unfold handToProtection
  split
  · exact changesOnly_refl _ s
  · rename_i e _
    split
    · exact changesOnly_trans (changesOnly_mono (writeProtCells_switchOnly s i e) (by decide)) (changesOnly_trans
        (changesOnly_mono (judgeAllPreempted_changesOnly _ e.key) (by decide)) (changesOnly_mono (watchProtection_changesOnly _ i e v) (by decide)))
    · exact changesOnly_refl _ s

/-- An activation leaves the queues, the claim store and the recall controller alone (R109 to R111). -/
theorem activate_changesOnly (s : State) (i v : Nat) : changesOnly [.entries, .switch, .mons, .bridged, .bill, .site] s (activate s i v) := by
  cases he : s.entry i with
  | none => simpa [activate, he] using changesOnly_refl _ s
  | some e =>
    rw [activate_eq he]
    exact changesOnly_trans (changesOnly_mono (setEntry_changesOnly s i (startEntry v e)) (by decide))
      (changesOnly_trans (changesOnly_mono (writeWorkCells_switchOnly _ i e) (by decide))
        (changesOnly_trans (changesOnly_mono (writeOutput_switchOnly _ i e) (by decide))
          (changesOnly_trans (changesOnly_mono (writeWorkPlaces_changesOnly _ i e v) (by decide))
            (changesOnly_trans (changesOnly_mono (judgePreempted_changesOnly e.key _ i) (by decide))
              (changesOnly_trans (changesOnly_mono (handToProtection_changesOnly _ i v) (by decide))
                (changesOnly_mono (bindEntry_changesOnly _ i) (by decide)))))))

/-- A drop's activation leaves the selector of its output at Working (R105, R109). -/
theorem activate_selects (he : s.entry i = some e) (houtputs : s.switch.outputs.length = 8) (hd : isDropEntry e = true) {p : Nat}
    (hp : outPort e.bk s.self = some p) (hlt : p < 8) (v : Nat) : ((activate s i v).output p).selector = .working := by
  have hcfg : (writeWorkCells (setEntry s i (startEntry v e)) i e).cfg = s.cfg := writeWorkCells_switchOnly _ i e .cfg (by decide)
  have hout : entryOut (writeWorkCells (setEntry s i (startEntry v e)) i e) e = some p := by rw [entryOut_drop hd, self_of_cfg hcfg, hp]
  rw [(activate_feeds he v).output, writeOutput, hout]
  dsimp only
  rw [output_updOutput, if_pos ⟨rfl, by rw [output_writeWorkCells, setEntry_switch, houtputs]; exact hlt⟩]

/-! ### The working places of a booking that starts -/

/-- The working places are as they were. -/
def watchKept (s t : State) : Prop := ∀ p x, (t.mon p x).working = (s.mon p x).working

theorem watchKept_refl (s : State) : watchKept s s := fun _ _ => rfl

theorem watchKept_trans {u : State} (h : watchKept s t) (k : watchKept t u) : watchKept s u := fun p x => (k p x).trans (h p x)

theorem watchKept_of_mons (h : t.mons = s.mons) : watchKept s t := fun p x => by rw [mon_of_lanes (congrArg Monitors.lanes h)]

theorem watchProtection_watchKept (s : State) (i : Nat) (e : Entry) (v : Nat) : watchKept s (watchProtection s i e v) := by
  refine forEach_relates watchKept_refl (fun _ _ _ => watchKept_trans) (fun u lane _ p x => ?_) s
  rw [mon_updMon]
  split <;> rfl

theorem handToProtection_watchKept (s : State) (i v : Nat) : watchKept s (handToProtection s i v) := by
  unfold handToProtection
  split
  · exact watchKept_refl s
  · rename_i e _
    split
    · exact watchKept_trans (watchKept_of_mons (writeProtCells_switchOnly s i e .mons (by decide))) (watchKept_trans
        (watchKept_of_mons (judgeAllPreempted_changesOnly _ e.key .mons (by decide))) (watchProtection_watchKept _ i e v))
    · exact watchKept_refl s

/-- Once an activation has written its working places they stand. -/
theorem activate_watchKept (he : s.entry i = some e) (v : Nat) :
    watchKept (writeWorkPlaces (writeOutput (writeWorkCells (setEntry s i (startEntry v e)) i e) i e) i e v) (activate s i v) := by
  rw [activate_eq he]
  exact watchKept_trans (watchKept_of_mons (judgePreempted_changesOnly e.key _ i .mons (by decide))) (watchKept_trans
    (handToProtection_watchKept _ i v) (watchKept_of_mons (bindEntry_changesOnly _ i .mons (by decide))))

theorem writeWorkPlace_length (s : State) (port : Dir) (lane : Nat) (k : Key) (i v : Nat) :
    (writeWorkPlace s port lane k i v).mons.lanes.length = s.mons.lanes.length := by
  unfold writeWorkPlace
  dsimp only
  split
  · exact modifyAt_length ..
  · rw [raiseNotice_mons]
    exact modifyAt_length ..

/-- The working place of a lane is written, whether or not another entry's is displaced; that of any other lane stays (R120). -/
theorem working_writeWorkPlace (s : State) (port p : Dir) (lane x : Nat) (k : Key) (i v : Nat) :
    ((writeWorkPlace s port lane k i v).mon p x).working
      = if monAt port lane = monAt p x ∧ monAt p x < s.mons.lanes.length then some (Place.fresh k i (v + 5)) else (s.mon p x).working := by
  have hwritten {f : LaneMon → LaneMon} (hf : ∀ m, (f m).working = some (Place.fresh k i (v + 5))) : ((updMon s port lane f).mon p x).working
      = if monAt port lane = monAt p x ∧ monAt p x < s.mons.lanes.length then some (Place.fresh k i (v + 5)) else (s.mon p x).working := by
    rw [mon_updMon]
    split
    · exact hf _
    · rfl
  unfold writeWorkPlace
  dsimp only
  split
  · exact hwritten fun _ => rfl
  · rw [mon_of_lanes (congrArg Monitors.lanes (raiseNotice_mons ..))]
    exact hwritten fun _ => rfl

/-- Writing a booking's working places puts one on each of its lanes (R120). -/
theorem writeWorkPlaces_writes (hlen : s.mons.lanes.length = 48) (hl : e.bk.first + e.bk.count ≤ 24) (i v : Nat) (hw : hasWorkWatch e.roles = true)
    {j : Nat} (hj : j < e.bk.count) :
    ((writeWorkPlaces s i e v).mon (inPort e.bk.dir) (e.bk.first + j)).working = some (Place.fresh e.key i (v + 5)) := by
  rw [writeWorkPlaces, if_pos hw]
  refine forEach_establishes (Q := fun u => u.mons.lanes.length = 48)
    (P := fun x u => x < 24 → (u.mon (inPort e.bk.dir) x).working = some (Place.fresh e.key i (v + 5)))
    (fun u n hu => (writeWorkPlace_length ..).trans hu) (fun u n x hx hlt => ?_) (fun u x hu hlt => ?_)
    (List.mem_map.2 ⟨j, List.mem_range.2 hj, rfl⟩) hlen (by omega)
  · rw [working_writeWorkPlace]
    split
    · rfl
    · exact hx hlt
  · rw [working_writeWorkPlace, if_pos ⟨rfl, by rw [hu]; exact monAt_lt hlt⟩]

/-- An activation begins to watch the booking's working lanes (R109, R120). -/
theorem activate_watches (he : s.entry i = some e) (hlen : s.mons.lanes.length = 48) (hl : e.bk.first + e.bk.count ≤ 24) (v : Nat)
    (hw : hasWorkWatch e.roles = true) {j : Nat} (hj : j < e.bk.count) :
    ((activate s i v).mon (inPort e.bk.dir) (e.bk.first + j)).working = some (Place.fresh e.key i (v + 5)) := by
  have hmons : (writeOutput (writeWorkCells (setEntry s i (startEntry v e)) i e) i e).mons = s.mons :=
    (writeOutput_switchOnly _ i e .mons (by decide)).trans (writeWorkCells_switchOnly _ i e .mons (by decide))
  rw [activate_watchKept he v]
  exact writeWorkPlaces_writes (by rw [hmons, hlen]) hl i v hw hj

end Writes

/-! ### The binding of an entry that starts by itself -/

section Starting
variable {s t : State} {i v : Nat} {e f : Entry} {m : Meter}

/-- What entries of one outline have in common. -/
theorem parts_of_outline (h : f.outline = e.outline) : f.key = e.key ∧ f.bk = e.bk ∧ f.roles = e.roles ∧ f.state = e.state
    ∧ f.installed = e.installed ∧ f.meter.map Meter.counts = e.meter.map Meter.counts := by
  simp only [Entry.outline, Entry.mk.injEq] at h
  obtain ⟨hkey, hbk, hroles, hstate, -, hinstalled, hmeter, -⟩ := h
  exact ⟨hkey, hbk, hroles, hstate, hinstalled, hmeter⟩

/-- A drop whose activation starts its meter is bound by the table of R179: s is a state with the same records, f what is left of the entry. -/
theorem activate_places (he : t.entry i = some e) (hm : e.meter = some m) (hunbound : m.binding = .none) (hrun : t.phase = .normal)
    (hbill : t.bill = s.bill) (hothers : onlyWaiting t i e.bk.matchId) (hf : f.outline = (startEntry v e).outline) :
    placedByTable s (activate t i v) i f { m with firstActive := some v } := by
  have hrejudged := activated_rejudged t i e v
  have hplacing := hrejudged.placing i
  rw [entry_setEntry_same t i _ (placeAt_lt _ _ _ he), Option.map_some] at hplacing
  obtain ⟨g, hg, hge⟩ := Option.map_eq_some_iff.1 hplacing
  obtain ⟨n, hn, hnm⟩ : ∃ n, g.meter = some n ∧ n.unlatched = ({ m with firstActive := some v } : Meter).unlatched := by
    have hmeter := congrArg Entry.meter hge
    refine Option.map_eq_some_iff.1 (hmeter.trans ?_)
    simp [Entry.placing, startEntry, hm, Meter.unlatched]
  have hbare : ({ g with preempted := none, meter := none } : Entry) = { f with preempted := none, meter := none } :=
    (congrArg (fun x : Entry => { x with meter := none }) hge).trans
      (congrArg (fun x : Entry => { x with preempted := none, meter := none }) hf).symm
  have hstate : g.state = .active := by
    have h := congrArg Entry.state hge
    exact h
  have hbk : g.bk = e.bk := by
    have h := congrArg Entry.bk hge
    exact h
  have hbinding : n.binding = .none := by
    have h := congrArg Meter.binding hnm
    exact h.trans hunbound
  have hphase : (activated t i e v).phase = .normal := by
    have hworks : Works (fun _ => True) (fun _ => True) t (activated t i e v) := activated_works trivial (keysIn_true t) he v
    exact (hworks.changes .phase (by decide)).trans hrun
  have hwaiting : onlyWaiting (activated t i e v) i g.bk.matchId := by
    rw [hbk]
    refine hrejudged.onlyWaiting fun j x hj hx => ?_
    rw [entry_setEntry_ne _ _ _ _ (Ne.symm hj)] at hx
    exact hothers j x hj hx
  rw [activate_eq he]
  exact placedByTable_of_placing hbare hnm (bindEntry_places (hrejudged.bill.trans hbill) hphase hg hn hstate hbinding hwaiting)

end Starting

end Sys2Proof.Machine

namespace Sys2Proof.Machine

/-! ### REANNOUNCE -/

section Announced
variable {s t : State} {r : Reannounce} {i : Nat} {port : Dir} {h : Header}

theorem newCandidate_of_cfg (hc : t.cfg = s.cfg) (k : Key) (b : Booking) : newCandidate t k b = newCandidate s k b := by
  simp only [newCandidate, State.ring, self_of_cfg hc, hc]

/-- The key of an entry put in a free place of a calendar that lacks it is found there (R48). -/
theorem lookup_setEntry_new {e : Entry} (hnone : lookup s e.key = none) (hi : i < 64) (hlt : i < s.entries.length) :
    lookup (setEntry s i e) e.key = some i := by
  cases hfound : lookup (setEntry s i e) e.key with
  | none => simpa using firstEntry_none hfound i e hi (entry_setEntry_same s i e hlt)
  | some j =>
    obtain ⟨⟨hj, f, hf, hkey⟩, -⟩ := firstEntry_some hfound
    by_cases hij : i = j
    · rw [hij]
    · rw [entry_setEntry_ne s i j e hij] at hf
      rw [firstEntry_none hnone j f hj hf] at hkey
      exact absurd hkey Bool.false_ne_true

/-- The state once a REANNOUNCE for this station has started the quiet deadline again (R89). -/
def heard (s : State) : State := if s.recov.returned then s.withRecov { s.recov with quiet := some (after s Config.quietMs) } else s

theorem heard_changesOnly (s : State) : changesOnly [.recov] s (heard s) := by
  unfold heard
  split
  · exact withRecov_changesOnly _ _
  · exact changesOnly_refl _ s

/-- The quiet deadline aside the recall controller's record is as it was (R89). -/
theorem heard_recov (s : State) : (heard s).recov.duplicates = s.recov.duplicates ∧ (heard s).recov.conflicts = s.recov.conflicts
    ∧ (heard s).recov.installed = s.recov.installed ∧ (s.recov.returned = true → (heard s).recov.quiet = some (s.nowMs + 1000)) := by
  unfold heard
  split
  · exact ⟨rfl, rfl, rfl, fun _ => rfl⟩
  · rename_i hback
    exact ⟨rfl, rfl, rfl, fun h => absurd h hback⟩

theorem actReannounce_judges (hs : s.recov.state = .recovering) (htarget : stationIn r.targets s.self = true) :
    actReannounce s r = judgeReannounce (heard s) r := by
  simp [actReannounce, hs, htarget, heard]

theorem judgeReannounce_duplicate (hheld : (lookup s r.key).isSome = true) :
    judgeReannounce s r = s.withRecov { s.recov with duplicates := min 255 (s.recov.duplicates + 1) } := if_pos hheld

section Tested
variable (hnone : lookup s r.key = none) (hend : s.now < r.bk.winEnd) (hroles : rolesOf s.ring r.key r.bk s.self ≠ [])
include hnone hend hroles

/-- An unknown key whose window has not ended, with a role here, fails the occupancy test (R94, R96). -/
theorem judgeReannounce_fails {reason : Reason} {first : Option Nat}
    (htest : testNew s (some r.key) (newCandidate s r.key r.bk) = .fails reason first) : judgeReannounce s r = recallConflict s r.key reason first := by
  have hopen : ¬ r.bk.winEnd ≤ s.now := by omega
  simp [judgeReannounce, hnone, hopen, hroles, htest]

/-- Such a key passes the test and is installed (R94, R95). -/
theorem judgeReannounce_installs (htest : testNew s (some r.key) (newCandidate s r.key r.bk) = .pass) : judgeReannounce s r = install s r := by
  have hopen : ¬ r.bk.winEnd ≤ s.now := by omega
  simp [judgeReannounce, hnone, hopen, hroles, htest]

end Tested

theorem recallConflict_changesOnly (s : State) (k : Key) (reason : Reason) (first : Option Nat) :
    changesOnly [.recov, .site] s (recallConflict s k reason first) :=
  changesOnly_trans (changesOnly_mono (withRecov_changesOnly s _) (by decide)) (changesOnly_mono (raiseNotice_changesOnly _ _ _) (by decide))

theorem recallConflict_conflicts (s : State) (k : Key) (reason : Reason) (first : Option Nat) :
    (recallConflict s k reason first).recov.conflicts = min 255 (s.recov.conflicts + 1) := by
  rw [recallConflict, raiseNotice_recov]
  rfl

theorem recallConflict_tells (hp : s.phase = .normal) (k : Key) (reason : Reason) (first : Option Nat) :
    noticeAt (recallConflict s k reason first) sourceRecall = some (.recallConflict k reason first) :=
  noticeAt_raiseNotice (s := s.withRecov { s.recov with conflicts := raiseSat 255 s.recov.conflicts }) (running_of_normal hp) _ _

/-! ### The installation of an announced booking -/

/-- The entry that an announced booking is installed as, in a state (R94, R95). -/
def announcedEntry (s : State) (r : Reannounce) (st : EntryState) : Entry :=
  freshEntry r.key r.bk (rolesOf s.ring r.key r.bk s.self) st none true

/-- The state with the installation counted and its entry in the calendar (R94, R95). -/
def entered (s : State) (r : Reannounce) (i : Nat) (st : EntryState) : State :=
  setEntry (s.withRecov { s.recov with installed := min 255 (s.recov.installed + 1), highestOwn := highestWith s r.key }) i (announcedEntry s r st)

theorem entered_changesOnly (s : State) (r : Reannounce) (i : Nat) (st : EntryState) : changesOnly [.entries, .recov] s (entered s r i st) :=
  changesOnly_trans (changesOnly_mono (withRecov_changesOnly s _) (by decide)) (changesOnly_mono (setEntry_changesOnly _ i _) (by decide))

theorem announcedEntry_of_cfg (hc : t.cfg = s.cfg) (r : Reannounce) (st : EntryState) : announcedEntry t r st = announcedEntry s r st := by
  simp only [announcedEntry, State.ring, self_of_cfg hc, hc]

/-- A booking whose start has not come is installed Held, whatever its sender says (R94). -/
theorem install_held (hfree : firstFree s.entries = some i) (hstart : s.now < r.bk.winStart) : install s r = entered s r i .held := by
  have hstate : installState s r = .held := by
    have hnot : ¬ r.bk.winStart ≤ s.now := by omega
    simp [installState, hstart, hnot]
  simp [install, hstate, allocate, hfree, entered, announcedEntry, raiseSat, State.ring, State.self]

/-- A booking whose start has come is installed Active and activated at once (R94, R111). -/
theorem install_active (hnone : lookup s r.key = none) (hfree : firstFree s.entries = some i) (hi : i < 64) (hstart : r.bk.winStart ≤ s.now) :
    install s r = activate (entered s r i .active) i s.now := by
  have hstate : installState s r = .active := by
    have hnot : ¬ s.now < r.bk.winStart := by omega
    simp [installState, hstart, hnot]
  obtain ⟨hlt, -⟩ := firstFree_spec _ _ hfree
  have hfound : lookup (entered s r i .active) r.key = some i := lookup_setEntry_new (e := announcedEntry s r .active)
    (s := s.withRecov { s.recov with installed := min 255 (s.recov.installed + 1), highestOwn := highestWith s r.key }) hnone hi hlt
  have hentered : allocate (s.withRecov { s.recov with installed := raiseSat 255 s.recov.installed, highestOwn := highestWith s r.key })
      r.key r.bk .active none true = entered s r i .active := by
    rw [allocate, State.withRecov_entries, hfree]
    rfl
  rw [install, hstate]
  dsimp only
  rw [hentered, if_pos rfl, hfound]

/-- The meter of a booking installed Active is a fresh one, Partial, and counts from the installation (R95, R111). -/
theorem meter_of_announced {f : Entry} {m : Meter} {v : Nat} (hf : f.outline = (startEntry v (announcedEntry s r .active)).outline)
    (hm : f.meter = some m) : m.isPartial = true ∧ m.firstActive = some v ∧ m.a = 0 ∧ m.tally = [0, 0, 0, 0, 0, 0] := by
  obtain ⟨-, -, -, -, -, hmeter⟩ := parts_of_outline hf
  rw [hm, Option.map_some, startEntry, Option.map_map] at hmeter
  obtain ⟨n, hn, hnm⟩ := Option.map_eq_some_iff.1 hmeter.symm
  have hfresh : n = Meter.fresh (r.bk.cls == .extra) true := by
    simp only [announcedEntry, freshEntry] at hn
    split at hn
    · simpa using hn.symm
    · exact absurd hn.symm (Option.some_ne_none n)
  subst hfresh
  have hpartial := congrArg Meter.isPartial hnm
  have hfirst := congrArg Meter.firstActive hnm
  have ha := congrArg Meter.a hnm
  have htally := congrArg Meter.tally hnm
  exact ⟨hpartial.symm, hfirst.symm, ha.symm, htally.symm⟩

/-! ### The booking installed Active -/

/-- What stands of a booking of index i that an announcement has installed Active in s, f being its entry (R94, R95, R109, R111, R120, R179). -/
structure StandsActive (s t : State) (r : Reannounce) (i : Nat) (f : Entry) : Prop where
  entry     : t.entry i = some f
  outline   : f.outline = (startEntry s.now (announcedEntry s r .active)).outline
  installed : Installed f i (outPort r.bk s.self) t
  selector  : isDropEntry f = true → ∀ p, outPort r.bk s.self = some p → p < 8 → (t.output p).selector = .working
  watched   : hasWorkWatch f.roles = true → ∀ j, j < r.bk.count →
    (t.mon (inPort r.bk.dir) (r.bk.first + j)).working = some (Place.fresh r.key i (s.now + 5))
  placed    : isDropEntry f = true → onlyWaiting s i r.bk.matchId →
    placedByTable s t i f { Meter.fresh (r.bk.cls == .extra) true with firstActive := some s.now }

/-- The activation that ends an installation, in a state u that has the calendar, the configuration, the time and the tables of s. -/
theorem activate_standsActive {u : State} (hu : changesOnly [.lane, .recov] s u) (hp : s.phase = .normal) (hfree : firstFree s.entries = some i)
    (hcells : s.switch.cells.length = 48) (houtputs : s.switch.outputs.length = 8) (hlanes : s.mons.lanes.length = 48)
    (hl : r.bk.first + r.bk.count ≤ 24) : ∃ f, StandsActive s (activate (entered u r i .active) i u.now) r i f := by
  have hparts : changesOnly [.lane, .entries, .recov] s (entered u r i .active) :=
    changesOnly_trans (changesOnly_mono hu (by decide)) (changesOnly_mono (entered_changesOnly u r i .active) (by decide))
  have hentries : u.entries = s.entries := changesOnly_entries hu (by decide)
  have hself : (entered u r i .active).self = s.self := self_of_cfg (changesOnly_cfg hparts (by decide))
  have hswitch : (entered u r i .active).switch = s.switch := hparts .switch (by decide)
  have hmons : (entered u r i .active).mons = s.mons := hparts .mons (by decide)
  obtain ⟨hlt, -⟩ := firstFree_spec _ _ hfree
  have he : (entered u r i .active).entry i = some (announcedEntry s r .active) := by
    rw [← announcedEntry_of_cfg (changesOnly_cfg hu (by decide))]
    exact entry_setEntry_same _ i _ (by rw [State.withRecov_entries, hentries]; exact hlt)
  rw [now_of_clock (changesOnly_clock hu (by decide))]
  obtain ⟨f, hf, houtline⟩ := activate_outline he s.now
  obtain ⟨-, -, hroles, -⟩ := parts_of_outline houtline
  have hdrop : isDropEntry f = isDropEntry (announcedEntry s r .active) := congrArg hasDropRole hroles
  refine ⟨f, hf, houtline, ?_, fun hd p hout hp8 => ?_, fun hw j hj => ?_, fun hd hothers => ?_⟩
  · have hinstalled := activate_installs he (by rwa [hswitch]) (by rwa [hswitch]) hl s.now
    rw [hself] at hinstalled
    exact installed_of_outline (f := startEntry s.now (announcedEntry s r .active)) houtline.symm ⟨hinstalled.working, hinstalled.output⟩
  · exact activate_selects he (by rwa [hswitch]) (hdrop.symm.trans hd) (by rwa [hself]) hp8 s.now
  · exact activate_watches he (by rwa [hmons]) hl s.now (hroles ▸ hw) hj
  · have hmeter : (announcedEntry s r .active).meter = some (Meter.fresh (r.bk.cls == .extra) true) := if_pos (hdrop.symm.trans hd)
    refine activate_places he hmeter rfl ((hparts .phase (by decide)).trans hp) (changesOnly_bill hparts (by decide)) ?_ houtline
    intro j g hj hg
    have hgs : s.entry j = some g := by
      rw [entered, entry_setEntry_ne _ _ _ _ (Ne.symm hj)] at hg
      exact (entry_of_entries hentries j).symm.trans hg
    exact hothers j g hj hgs

/-- It stands so when the slot has left. -/
theorem StandsActive.after_emit {f : Entry} (hf : StandsActive s t r i f) (d : Dir) (m : Option Msg) : StandsActive s (emit t d m) r i f := by
  have hswitch := emit_switch t d m
  have hentry (j : Nat) := entry_of_entries (emit_entries t d m) j
  obtain ⟨-, -, -, hstate, -⟩ := parts_of_outline hf.outline
  refine ⟨(hentry i).trans hf.entry, hf.outline, ⟨fun hw j hj => ?_, fun hd p hp hlt => ?_⟩, fun hd p hp hlt => ?_, fun hw j hj => ?_,
    fun hd hothers => placedByTable_kept ?_ (emit_bill ..) (noticeAt_of_site (emit_site ..) _) hstate (hf.placed hd hothers)⟩
  · rw [cell_of_cells (congrArg Switch.cells hswitch)]
    exact hf.installed.working hw j hj
  · rw [output_of_switch hswitch]
    exact hf.installed.output hd p hp hlt
  · rw [output_of_switch hswitch]
    exact hf.selector hd p hp hlt
  · rw [mon_of_lanes (congrArg Monitors.lanes (emit_mons ..))]
    exact hf.watched hw j hj
  · rw [bindingAt, hentry, bindingAt]

/-! ### A REANNOUNCE that passes -/

theorem act_reannounce (u : State) (port : Dir) (h : Header) (r : Reannounce) : act u port (hopped { hdr := h, body := .reannounce r })
    = (actReannounce u r, hopped { hdr := h, body := .reannounce r }) := rfl

/-- The state in which a REANNOUNCE that passes is judged. -/
def judgedIn (s : State) (port : Dir) : State := heard (noteFar s port false)

theorem judgedIn_changesOnly (s : State) (port : Dir) : changesOnly [.lane, .recov] s (judgedIn s port) :=
  changesOnly_trans (changesOnly_mono (noteFar_changesOnly s port false) (by decide)) (changesOnly_mono (heard_changesOnly _) (by decide))

theorem judgedIn_recov (s : State) (port : Dir) : (judgedIn s port).recov.duplicates = s.recov.duplicates
    ∧ (judgedIn s port).recov.conflicts = s.recov.conflicts ∧ (judgedIn s port).recov.installed = s.recov.installed
    ∧ (s.recov.returned = true → (judgedIn s port).recov.quiet = some (s.nowMs + 1000)) := by
  have hrecov := heard_recov (noteFar s port false)
  rwa [noteFar_recov, noteFar_nowMs] at hrecov

/-- What a REANNOUNCE that passes does at a Recovering station of its target set, from what its judgement does. -/
theorem reannounce_passes {u : State} {ps : List Part} (hp : passes s port h) (hs : s.recov.state = .recovering)
    (htarget : stationIn r.targets s.self = true) (hjudge : judgeReannounce (judgedIn s port) r = u) (hu : changesOnly ps (judgedIn s port) u)
    (hlane : Part.lane ∉ ps) (hrecov : Part.recov ∈ ps) :
    exec (.reannounceReceived port false h r) s = .next (emit u (opp port) (some (hopped { hdr := h, body := .reannounce r })))
      ∧ passedOn s (emit u (opp port) (some (hopped { hdr := h, body := .reannounce r }))) port h (.reannounce r)
      ∧ queuesKept s (emit u (opp port) (some (hopped { hdr := h, body := .reannounce r })))
      ∧ changesOnly (.lane :: ps) s (emit u (opp port) (some (hopped { hdr := h, body := .reannounce r }))) := by
  have hacts : act (noteFar s port false) port (hopped { hdr := h, body := .reannounce r }) = (u, hopped { hdr := h, body := .reannounce r }) := by
    rw [act_reannounce, actReannounce_judges (by rwa [noteFar_recov]) (by rwa [self_noteFar]), ← hjudge, judgedIn]
  have hwork : changesOnly ps (noteFar s port false) u :=
    changesOnly_trans (changesOnly_mono (heard_changesOnly _) (by simpa using hrecov)) hu
  exact ⟨exec_acted hp rfl hacts, passedOn_acted hp hacts, queuesKept_around (changesOnly_lane hwork hlane) _ _,
    changesOnly_around (changesOnly_mono hwork (List.subset_cons_self ..)) (List.mem_cons_self ..) _ _⟩

end Announced

/-- Settles O50: the announcement is judged in the order of R94, and one that installs an Active booking ends in an activation. -/
theorem reannounceTaken : Obligations.ReannounceTaken := by
  intro s port h r hp hs htarget
  obtain ⟨⟨hphase, -⟩, -⟩ := id hp
  have hparts := judgedIn_changesOnly s port
  have hentries : (judgedIn s port).entries = s.entries := changesOnly_entries hparts (by decide)
  have hcfg : (judgedIn s port).cfg = s.cfg := changesOnly_cfg hparts (by decide)
  have hnow : (judgedIn s port).now = s.now := now_of_clock (changesOnly_clock hparts (by decide))
  have hlookup : lookup (judgedIn s port) r.key = lookup s r.key := lookup_of_entries hentries r.key
  obtain ⟨hduplicates, hconflicts, hinstalled, hquiet⟩ := judgedIn_recov s port
  have hroles' (h : rolesOf s.ring r.key r.bk s.self ≠ []) : rolesOf (judgedIn s port).ring r.key r.bk (judgedIn s port).self ≠ [] := by
    rwa [State.ring, self_of_cfg hcfg, hcfg]
  have htest' : testNew (judgedIn s port) (some r.key) (newCandidate (judgedIn s port) r.key r.bk)
      = testNew s (some r.key) (newCandidate s r.key r.bk) := by rw [testNew_of_entries hentries hcfg, newCandidate_of_cfg hcfg]
  refine ⟨fun hheld => ?_, fun reason first hnone hend hroles htest => ?_, fun i hnone hend hstart hroles htest hfree => ?_,
    fun i hnone hend hstart hroles htest hfree hi hcells houtputs hlanes hl => ?_⟩
  · obtain ⟨hexec, hpassed, hqueues, hchanges⟩ := reannounce_passes hp hs htarget (judgeReannounce_duplicate (by rwa [hlookup]))
      (withRecov_changesOnly _ _) (by decide) (by decide)
    refine ⟨_, hexec, ?_, fun hback => ?_, hpassed, hqueues, hchanges⟩
    · rw [emit_recov, ← hduplicates]
      rfl
    · rw [emit_recov, ← hquiet hback]
      rfl
  · have hjudge := judgeReannounce_fails (hlookup.trans hnone) (by rwa [hnow]) (hroles' hroles) (htest'.trans htest)
    obtain ⟨hexec, hpassed, hqueues, hchanges⟩ := reannounce_passes hp hs htarget hjudge
      (recallConflict_changesOnly _ _ _ _) (by decide) (by decide)
    refine ⟨_, hexec, ?_, ?_, hpassed, hqueues, hchanges⟩
    · rw [emit_recov, recallConflict_conflicts, hconflicts]
    · rw [noticeAt_of_site (emit_site ..)]
      exact recallConflict_tells ((hparts .phase (by decide)).trans hphase) ..
  · have hjudge := judgeReannounce_installs (hlookup.trans hnone) (by rwa [hnow]) (hroles' hroles) (htest'.trans htest)
    obtain ⟨hexec, hpassed, hqueues, hchanges⟩ := reannounce_passes hp hs htarget
      (hjudge.trans (install_held (by rwa [hentries]) (by rwa [hnow]))) (entered_changesOnly _ _ _ _) (by decide) (by decide)
    refine ⟨_, hexec, ?_, ?_, hpassed, hqueues, hchanges⟩
    · rw [emit_entries, entered, announcedEntry_of_cfg hcfg, ← hentries]
      rfl
    · rw [emit_recov, ← hinstalled]
      rfl
  · have hjudge := judgeReannounce_installs (hlookup.trans hnone) (by rwa [hnow]) (hroles' hroles) (htest'.trans htest)
    have hactivates := activate_changesOnly (entered (judgedIn s port) r i .active) i (judgedIn s port).now
    obtain ⟨hexec, hpassed, hqueues, hchanges⟩ := reannounce_passes hp hs htarget
      (hjudge.trans (install_active (hlookup.trans hnone) (by rwa [hentries]) hi (by rwa [hnow])))
      (ps := [.entries, .recov, .switch, .mons, .bridged, .bill, .site])
      (changesOnly_trans (changesOnly_mono (entered_changesOnly _ _ _ _) (by decide)) (changesOnly_mono hactivates (by decide))) (by decide) (by decide)
    obtain ⟨f, hstands⟩ := activate_standsActive hparts hphase hfree hcells houtputs hlanes hl
    have hleft := hstands.after_emit (opp port) (some (hopped { hdr := h, body := .reannounce r }))
    obtain ⟨hkey, hbk, hfroles, hstate, hmarked, -⟩ := parts_of_outline hstands.outline
    refine ⟨_, f, hexec, hleft.entry, hkey, hbk, hfroles, hstate, hmarked, fun m hm => meter_of_announced hstands.outline hm, fun hw j hj => ?_,
      fun p hd hout hlt => ?_, hleft.watched, hleft.placed, ?_, hpassed, hqueues, hchanges⟩
    · have hlayer := hleft.installed.working hw j (by rw [hbk]; exact hj)
      rw [workLayerOf, hkey, hbk] at hlayer
      exact hlayer
    · obtain ⟨hworking, hprotection⟩ := hleft.installed.output hd p hout hlt
      rw [hbk] at hworking hprotection
      exact ⟨hworking, hprotection, hleft.selector hd p hout hlt⟩
    · rw [emit_recov, changesOnly_recov hactivates (by decide), ← hinstalled]
      rfl

end Sys2Proof.Machine

namespace Sys2Proof.Machine

/-! ### A write of a drop's selector -/

/-- A drop with its meter's protection latch set (R160). -/
def Entry.protLatched (e : Entry) : Entry := { e with meter := e.meter.map (fun m => { m with protLatch := true }) }

/-- The selector of entry e's output brought to v, by a write where it differs (R137). -/
def turnSelector (s : State) (i : Nat) (e : Entry) (v : Selector) : State := if selectorOf s e = v then s else writeSelector s i v

section Selector
variable {s : State} {i x : Nat} {e : Entry}

theorem selectorWritable_own (h : outputOwner (s.output x) = some e.key) : selectorWritable s e x = true := by simp [selectorWritable, h]

theorem selectorWritable_ownerless (h : outputOwner (s.output x) = none) : selectorWritable s e x = true := by simp [selectorWritable, h]

theorem selectorWritable_foreign {k : Key} (h : outputOwner (s.output x) = some k) (hk : k ≠ e.key) : selectorWritable s e x = false := by
  simp [selectorWritable, h, hk]

theorem writeSelector_refused (he : s.entry i = some e) (h : ∀ x, entryOut s e = some x → selectorWritable s e x = false) (v : Selector) :
    writeSelector s i v = s := by
  cases hx : entryOut s e with
  | none => simp only [writeSelector, he, hx]
  | some x => simp only [writeSelector, he, hx, h x hx, Bool.false_eq_true, if_false]

theorem writeSelector_protects (he : s.entry i = some e) (hx : entryOut s e = some x) (hw : selectorWritable s e x = true) :
    writeSelector s i .protection = updEntry (updOutput s x (fun o => { o with selector := .protection })) i Entry.protLatched := by
  simp only [writeSelector, he, hx, hw, if_true, beq_self_eq_true]
  rfl

theorem writeSelector_works (he : s.entry i = some e) (hx : entryOut s e = some x) (hw : selectorWritable s e x = true) :
    writeSelector s i .working = updOutput s x (fun o => { o with selector := .working }) := by
  simp only [writeSelector, he, hx, hw, if_true]
  rfl

theorem writeSelector_output (he : s.entry i = some e) (hx : entryOut s e = some x) (hw : selectorWritable s e x = true) (v : Selector) (y : Nat) :
    (writeSelector s i v).output y = (updOutput s x (fun o => { o with selector := v })).output y := by
  cases v with
  | working => rw [writeSelector_works he hx hw]
  | protection => rw [writeSelector_protects he hx hw, output_of_switch (updEntry_switch ..)]

/-- A selector write reaches an output by its owner (R108). -/
theorem writeSelector_written (he : s.entry i = some e) (v : Selector) : selectorWritten s (writeSelector s i v) e v := by
  intro x hx
  refine ⟨writeSelector_selector he hx, fun ho hlt => ?_, fun k ho hk => ?_⟩
  · rw [writeSelector_output he hx (selectorWritable_ownerless ho), output_updOutput, if_pos ⟨rfl, hlt⟩]
  · refine congrArg (State.output · x) (writeSelector_refused he (fun y hy => ?_) v)
    obtain rfl := Option.some.inj (hx.symm.trans hy)
    exact selectorWritable_foreign ho hk

/-- A selector write leaves the entry its key's but for the latch, which a write of Protection that is made sets (R160). -/
theorem writeSelector_entry (he : s.entry i = some e) (v : Selector) :
    ((writeSelector s i v).entry i = some e ∨ (writeSelector s i v).entry i = some e.protLatched)
      ∧ (v = .protection → ∀ x, entryOut s e = some x → selectorWritable s e x = true → (writeSelector s i v).entry i = some e.protLatched) := by
  have hprotects {x : Nat} (hx : entryOut s e = some x) (hw : selectorWritable s e x = true) :
      (writeSelector s i .protection).entry i = some e.protLatched := by
    rw [writeSelector_protects he hx hw, entry_updEntry, if_pos rfl, entry_of_entries (updOutput_entries ..), he, Option.map_some]
  refine ⟨?_, fun hv x hx hw => hv ▸ hprotects hx hw⟩
  by_cases hout : ∃ x, entryOut s e = some x ∧ selectorWritable s e x = true
  · obtain ⟨x, hx, hw⟩ := hout
    cases v with
    | working => exact .inl (by rw [writeSelector_works he hx hw, entry_of_entries (updOutput_entries ..), he])
    | protection => exact .inr (hprotects hx hw)
  · have hrefused (x : Nat) (hx : entryOut s e = some x) : selectorWritable s e x = false := by simpa using fun hw => hout ⟨x, hx, hw⟩
    exact .inl (by rw [writeSelector_refused he hrefused, he])

theorem writeSelector_changesOnly (s : State) (i : Nat) (v : Selector) : changesOnly [.entries, .switch] s (writeSelector s i v) := by
  unfold writeSelector
  split
  · exact changesOnly_refl _ s
  · split
    · exact changesOnly_refl _ s
    · split
      · have hout {x : Nat} {f : Output → Output} : changesOnly [.entries, .switch] s (updOutput s x f) :=
          changesOnly_mono (withSwitch_changesOnly s _) (by decide)
        dsimp only
        split
        · exact changesOnly_trans hout (changesOnly_mono (updEntry_changesOnly _ _ _) (by decide))
        · exact hout
      · exact changesOnly_refl _ s

theorem turnSelector_written (he : s.entry i = some e) (v : Selector) : selectorWritten s (turnSelector s i e v) e v := by
  unfold turnSelector
  split
  · rename_i hsame
    intro x hx
    have hsel : (s.output x).selector = v := by rw [← selectorOf_some hx, hsame]
    exact ⟨fun _ => hsel, fun _ _ => hsel, fun _ _ _ => rfl⟩
  · exact writeSelector_written he v

theorem turnSelector_entry (he : s.entry i = some e) (v : Selector) :
    (turnSelector s i e v).entry i = some e ∨ (turnSelector s i e v).entry i = some e.protLatched := by
  unfold turnSelector
  split
  · exact .inl he
  · exact (writeSelector_entry he v).1

/-- A drop's own selector that moves to Protection sets the latch (R160). -/
theorem turnSelector_latches (he : s.entry i = some e) (hx : entryOut s e = some x) (ho : outputOwner (s.output x) = some e.key)
    (hsel : (s.output x).selector = .working) : (turnSelector s i e .protection).entry i = some e.protLatched := by
  rw [turnSelector, selectorOf_some hx, hsel, if_neg (by decide)]
  exact (writeSelector_entry he _).2 rfl x hx (selectorWritable_own ho)

theorem turnSelector_changesOnly (s : State) (i : Nat) (e : Entry) (v : Selector) : changesOnly [.entries, .switch] s (turnSelector s i e v) := by
  unfold turnSelector
  split
  · exact changesOnly_refl _ s
  · exact writeSelector_changesOnly s i v

end Selector

/-! ### A protection state that changes -/

/-- The drop in a new protection part, its request record following (R143). -/
def Entry.enters (e : Entry) (p q : ProtPart) : Entry :=
  { e with prot := some q, request := e.request.map (Request.follow p.state.wants q.state.wants) }

section Changed
variable {s : State} {i : Nat} {e : Entry} {p : ProtPart}

theorem changeState_eq (he : s.entry i = some e) (hp : e.prot = some p) (q : ProtPart) (c : ProtCause) : changeState s i q c
    = raiseNotice (turnSelector (setEntry s i (e.enters p q)) i (e.enters p q) q.state.selector) (sourceEntry i)
        (.protectionState e.key p.state q.state c q.state.selector s.now) := by
  simp only [changeState, he, hp]
  rfl

theorem entry_enters (he : s.entry i = some e) (q : ProtPart) : (setEntry s i (e.enters p q)).entry i = some (e.enters p q) :=
  entry_setEntry_same s i _ (placeAt_lt _ _ _ he)

theorem changeState_written (he : s.entry i = some e) (hp : e.prot = some p) (q : ProtPart) (c : ProtCause) :
    selectorWritten s (changeState s i q c) e q.state.selector := by
  rw [changeState_eq he hp]
  intro x hx
  rw [output_of_switch (raiseNotice_switch ..)]
  exact turnSelector_written (entry_enters (p := p) he q) q.state.selector x hx

theorem changeState_entry (he : s.entry i = some e) (hp : e.prot = some p) (q : ProtPart) (c : ProtCause) :
    (changeState s i q c).entry i = some (e.enters p q) ∨ (changeState s i q c).entry i = some (e.enters p q).protLatched := by
  rw [changeState_eq he hp, entry_of_entries (raiseNotice_entries ..)]
  exact turnSelector_entry (entry_enters he q) q.state.selector

theorem changeState_latches (he : s.entry i = some e) (hp : e.prot = some p) {q : ProtPart} (hq : q.state.selector = .protection) {x : Nat}
    (hx : entryOut s e = some x) (ho : outputOwner (s.output x) = some e.key) (hsel : (s.output x).selector = .working) (c : ProtCause) :
    (changeState s i q c).entry i = some (e.enters p q).protLatched := by
  rw [changeState_eq he hp, entry_of_entries (raiseNotice_entries ..), hq]
  exact turnSelector_latches (entry_enters he q) hx ho hsel

theorem changeState_changesOnly (s : State) (i : Nat) (q : ProtPart) (c : ProtCause) :
    changesOnly [.entries, .switch, .site] s (changeState s i q c) := by
  cases he : s.entry i with
  | none =>
    simp only [changeState, he]
    exact changesOnly_refl _ s
  | some e =>
    cases hp : e.prot with
    | none =>
      simp only [changeState, he, hp]
      exact changesOnly_refl _ s
    | some p =>
      rw [changeState_eq he hp]
      exact changesOnly_trans (changesOnly_mono (setEntry_changesOnly _ _ _) (by decide))
        (changesOnly_trans (changesOnly_mono (turnSelector_changesOnly _ _ _ _) (by decide)) (changesOnly_mono (raiseNotice_changesOnly _ _ _) (by decide)))

theorem changeState_untold (he : s.entry i = some e) (hp : e.prot = some p) (q : ProtPart) (c : ProtCause) :
    (changeState s i q c).site.untold = s.site.untold := by
  rw [changeState_eq he hp, raiseNotice_untold, changesOnly_site (turnSelector_changesOnly _ i _ _) (by decide), setEntry_site]

theorem changeState_tells (hrun : s.phase = .normal) (he : s.entry i = some e) (hp : e.prot = some p) (q : ProtPart) (c : ProtCause) :
    noticeAt (changeState s i q c) (sourceEntry i) = some (.protectionState e.key p.state q.state c q.state.selector s.now) := by
  rw [changeState_eq he hp]
  exact noticeAt_raiseNotice (running_of_normal ((turnSelector_changesOnly (setEntry s i (e.enters p q)) i _ _ .phase (by decide)).trans hrun)) _ _

end Changed

/-! ### The attempt at the moment of marking -/

/-- The drop f of index i has sent its wanted value on (R143). -/
def requestSent (t : State) (i : Nat) (f : Entry) : State :=
  setEntry (join t f.bk.dir f.key.seq (.switchreq f.key t.self (wantedOf f))) i { f with request := some { announced := wantedOf f, toSend := false } }

section Attempt
variable {s t : State} {i : Nat} {e f : Entry} {r : Request}

theorem requestDiffers_eq (he : s.entry i = some e) (hr : e.request = some r) : requestDiffers s i = (wantedOf e != r.announced) := by
  simp only [requestDiffers, he, hr]

theorem attemptMarked_agreed (h : requestDiffers t i = false ∨ requestDiffers s i = true) : attemptMarked s t i = t := by
  obtain h | h := h <;> simp [attemptMarked, h]

theorem attemptMarked_differs (hs : requestDiffers s i = false) (ht : requestDiffers t i = true) : attemptMarked s t i = attemptSwitchreq t i := by
  simp [attemptMarked, hs, ht]

theorem attemptMarked_sends (hs : requestDiffers s i = false) (ht : requestDiffers t i = true) (hf : t.entry i = some f) (hr : f.request = some r)
    (hactive : f.state = .active) (hmarked : r.toSend = true) (hroom : canJoinProt t f.bk.dir = true) :
    attemptMarked s t i = requestSent t i f := by
  rw [attemptMarked_differs hs ht]
  exact attemptSwitchreq_sends hf hr (by simp [hactive, hmarked, hroom])

theorem attemptMarked_cases (hf : t.entry i = some f) : attemptMarked s t i = t ∨ attemptMarked s t i = requestSent t i f := by
  unfold attemptMarked
  split
  · cases hr : f.request with
    | none => exact .inl (attemptSwitchreq_unasked hf hr)
    | some r =>
      cases hsends : f.state == .active && r.toSend && canJoinProt t f.bk.dir with
      | false => exact .inl (attemptSwitchreq_idle hf hr hsends)
      | true => exact .inr (attemptSwitchreq_sends hf hr hsends)
  · exact .inl rfl

theorem entry_requestSent (hf : t.entry i = some f) :
    (requestSent t i f).entry i = some { f with request := some { announced := wantedOf f, toSend := false } } := entry_setEntry_join hf ..

theorem requestSent_changesOnly (t : State) (i : Nat) (f : Entry) : changesOnly [.lane, .entries] t (requestSent t i f) :=
  changesOnly_trans (changesOnly_mono (join_changesOnly _ _ _ _) (by decide)) (changesOnly_mono (setEntry_changesOnly _ _ _) (by decide))

theorem attemptMarked_changesOnly (hf : t.entry i = some f) : changesOnly [.lane, .entries] t (attemptMarked s t i) := by
  obtain h | h := attemptMarked_cases (s := s) hf <;> rw [h]
  · exact changesOnly_refl _ t
  · exact requestSent_changesOnly t i f

theorem attemptMarked_quiet {J : Nat → Prop} {K : Key → Prop} (hi : J i) : Quiet J K t (attemptMarked s t i) := by
  unfold attemptMarked
  split
  · exact attemptSwitchreq_quiet hi
  · exact .refl t

/-- The attempt leaves the entry its request apart. -/
theorem attemptMarked_entry (hf : t.entry i = some f) : ∃ o, (attemptMarked s t i).entry i = some { f with request := o } := by
  obtain h | h := attemptMarked_cases (s := s) hf <;> rw [h]
  · exact ⟨f.request, hf⟩
  · exact ⟨_, entry_requestSent hf⟩

end Attempt

/-! ### A drop that a request moves -/

/-- From s to t a site request has moved the drop e of index i from the protection part p to q: the part, the selector by its owner (R108), the latch
of its own selector moved to Protection (R160), the SWITCHREQ where its wanted value comes to differ from the announced one (R143), and the notice (R157). -/
structure Commanded (s t : State) (i : Nat) (e : Entry) (p q : ProtPart) (c : ProtCause) : Prop where
  part     : (t.entry i).bind Entry.prot = some q
  selector : selectorWritten s t e q.state.selector
  latched  : q.state.selector = .protection → ∀ x m, entryOut s e = some x → outputOwner (s.output x) = some e.key → (s.output x).selector = .working →
    e.meter = some m → ((t.entry i).bind Entry.meter).map Meter.protLatch = some true
  asked    : ∀ r, e.request = some r → r.announced = p.state.wants → p.state.wants ≠ q.state.wants → canJoinProt s e.bk.dir = true →
    joins s t e.bk.dir e.key.seq (.switchreq e.key s.self q.state.wants)
      ∧ (t.entry i).bind Entry.request = some { announced := q.state.wants, toSend := false }
  silent   : ∀ r, e.request = some r → (r.announced = q.state.wants ∨ p.state.wants = q.state.wants) → queuesKept s t
  said     : noticeAt t (sourceEntry i) = some (.protectionState e.key p.state q.state c q.state.selector s.now)
  untold   : t.site.untold = s.site.untold
  others   : ∀ j, j ≠ i → t.entry j = s.entry j
  changes  : changesOnly [.lane, .entries, .switch, .site] s t

section Command
variable {s t : State} {i : Nat} {e f : Entry} {p q : ProtPart} {c : ProtCause} {r : Request}

theorem canJoinProt_of_lane (h : t.lane = s.lane) (d : Dir) : canJoinProt t d = canJoinProt s d := by
  simp only [canJoinProt, hasPlace, queue_of_lane h, heldFor, h]

theorem wantedOf_prot (h : e.prot = some p) : wantedOf e = p.state.wants := by rw [wantedOf, h]

theorem follow_differs {before wanted : Bool} (h : wanted ≠ r.announced) : r.follow before wanted = { r with toSend := true } := by
  simp [Request.follow, h]

theorem follow_announced (before wanted : Bool) (r : Request) : (r.follow before wanted).announced = r.announced := by
  unfold Request.follow
  split
  · rfl
  · split <;> rfl

/-- A drop's entry after its state has changed, whatever became of the latch. -/
theorem changeState_parts (he : s.entry i = some e) (hp : e.prot = some p) (q : ProtPart) (c : ProtCause) :
    ∃ f, (changeState s i q c).entry i = some f ∧ f.key = e.key ∧ f.bk = e.bk ∧ f.state = e.state ∧ f.prot = some q
      ∧ f.request = e.request.map (Request.follow p.state.wants q.state.wants) := by
  obtain h | h := changeState_entry he hp q c
  · exact ⟨_, h, rfl, rfl, rfl, rfl, rfl⟩
  · exact ⟨_, h, rfl, rfl, rfl, rfl, rfl⟩

theorem command_asks (he : s.entry i = some e) (hactive : e.state = .active) (hp : e.prot = some p) (hr : e.request = some r)
    (hagreed : r.announced = p.state.wants) (hdiffers : p.state.wants ≠ q.state.wants) (hroom : canJoinProt s e.bk.dir = true) :
    joins s (attemptMarked s (changeState s i q c) i) e.bk.dir e.key.seq (.switchreq e.key s.self q.state.wants)
      ∧ ((attemptMarked s (changeState s i q c) i).entry i).bind Entry.request = some { announced := q.state.wants, toSend := false } := by
  have hchanges := changeState_changesOnly s i q c
  obtain ⟨f, hf, hkey, hbk, hstate, hprot, hrequest⟩ := changeState_parts he hp q c
  have hwanted : wantedOf f = q.state.wants := wantedOf_prot hprot
  have hnew : q.state.wants ≠ r.announced := by rw [hagreed]; exact hdiffers.symm
  rw [hr, Option.map_some, follow_differs hnew] at hrequest
  have hbefore : requestDiffers s i = false := by rw [requestDiffers_eq he hr, wantedOf_prot hp, hagreed, bne_self_eq_false]
  have hafter : requestDiffers (changeState s i q c) i = true := by rw [requestDiffers_eq hf hrequest, hwanted]; simpa using hnew
  have hlane : (changeState s i q c).lane = s.lane := changesOnly_lane hchanges (by decide)
  have hself : (changeState s i q c).self = s.self := self_of_cfg (changesOnly_cfg hchanges (by decide))
  rw [attemptMarked_sends hbefore hafter hf hrequest (hstate.trans hactive) rfl (by rw [canJoinProt_of_lane hlane, hbk]; exact hroom)]
  refine ⟨?_, by rw [entry_requestSent hf, hwanted]; rfl⟩
  have hjoins : joins (changeState s i q c) (requestSent (changeState s i q c) i f) _ _ _ := joins_of_lane (joins_join ..) (setEntry_lane ..)
  rw [hkey, hbk, hwanted, hself] at hjoins
  exact joins_from_lane hjoins hlane (changesOnly_cfg hchanges (by decide))

theorem command_silent (he : s.entry i = some e) (hp : e.prot = some p) (hr : e.request = some r)
    (h : r.announced = q.state.wants ∨ p.state.wants = q.state.wants) : queuesKept s (attemptMarked s (changeState s i q c) i) := by
  have hlane : (changeState s i q c).lane = s.lane := changesOnly_lane (changeState_changesOnly s i q c) (by decide)
  obtain ⟨f, hf, -, -, -, hprot, hrequest⟩ := changeState_parts he hp q c
  rw [hr, Option.map_some] at hrequest
  rw [attemptMarked_agreed, queuesKept, hlane]
  · exact ⟨rfl, rfl, rfl, rfl⟩
  · rw [requestDiffers_eq hf hrequest, wantedOf_prot hprot, follow_announced, requestDiffers_eq he hr, wantedOf_prot hp]
    obtain h | h := h
    · exact .inl (by rw [h, bne_self_eq_false])
    · rw [h]
      cases q.state.wants != r.announced <;> simp

theorem command_latches (he : s.entry i = some e) (hp : e.prot = some p) (hq : q.state.selector = .protection) {x : Nat} {m : Meter}
    (hx : entryOut s e = some x) (ho : outputOwner (s.output x) = some e.key) (hsel : (s.output x).selector = .working) (hm : e.meter = some m) :
    (((attemptMarked s (changeState s i q c) i).entry i).bind Entry.meter).map Meter.protLatch = some true := by
  obtain ⟨o, ho⟩ := attemptMarked_entry (s := s) (changeState_latches he hp hq hx ho hsel c)
  rw [ho]
  simp [Entry.protLatched, Entry.enters, hm]

/-- The change and the attempt of a manual request (R146 to R148). -/
theorem changeState_commands (hrun : s.phase = .normal) (he : s.entry i = some e) (hactive : e.state = .active) (hp : e.prot = some p) (q : ProtPart)
    (c : ProtCause) : Commanded s (attemptMarked s (changeState s i q c) i) i e p q c := by
  obtain ⟨f, hf, -, -, -, hprot, -⟩ := changeState_parts he hp q c
  have hattempt := attemptMarked_changesOnly (s := s) hf
  have hsite : (attemptMarked s (changeState s i q c) i).site = (changeState s i q c).site := changesOnly_site hattempt (by decide)
  have hquiet : Quiet (· = i) (fun _ => True) s (attemptMarked s (changeState s i q c) i) :=
    (changeState_quiet (J := (· = i)) rfl (keysIn_true s) q c).trans (attemptMarked_quiet rfl)
  exact {
    part := by
      obtain ⟨o, ho⟩ := attemptMarked_entry (s := s) hf
      rw [ho, Option.bind_some, hprot]
    selector := fun x hx => by
      rw [output_of_switch (hattempt .switch (by decide))]
      exact changeState_written he hp q c x hx
    latched := fun hq x m => command_latches he hp hq
    asked := fun r => command_asks he hactive hp
    silent := fun r => command_silent he hp
    said := by rw [noticeAt_of_site hsite, changeState_tells hrun he hp]
    untold := by rw [hsite, changeState_untold he hp]
    others := hquiet.same
    changes := changesOnly_trans (changesOnly_mono (changeState_changesOnly s i q c) (by decide)) (changesOnly_mono hattempt (by decide)) }

/-! ### FORCE and LOCKOUT -/

theorem manualRequest_drop {params : List Byte} (hfind : findEntry s (keyAt params 0) = some (i, e)) (hactive : e.state = .active)
    (hp : e.prot = some p) (act : Nat → Entry → ProtPart → Answer) : manualRequest params s act = act i e p := by
  simp only [manualRequest, hfind, hactive, hp]

theorem forceDrop_forced (h : p.state = .forced) : forceDrop s i p = answer s .done := by simp only [forceDrop, h]

theorem forceDrop_lockout (h : p.state = .lockout) : forceDrop s i p = turnDown s .lockedOut := by simp only [forceDrop, h]

theorem forceDrop_moves (hf : p.state ≠ .forced) (hl : p.state ≠ .lockout) :
    forceDrop s i p = answer (attemptMarked s (changeState s i (ProtPart.enter .forced none none 0) .force) i) .done := by
  cases h : p.state with
  | forced => exact absurd h hf
  | lockout => exact absurd h hl
  | working | holdOff | bridging | protecting | restoreWait => simp only [forceDrop, h]

theorem lockoutDrop_lockout (h : p.state = .lockout) : lockoutDrop s i p = answer s .done := by simp only [lockoutDrop, h]

theorem lockoutDrop_moves (hl : p.state ≠ .lockout) :
    lockoutDrop s i p = answer (attemptMarked s (changeState s i (ProtPart.enter .lockout none none 0) .lockout) i) .done := by
  cases h : p.state with
  | lockout => exact absurd h hl
  | working | holdOff | bridging | protecting | restoreWait | forced => simp only [lockoutDrop, h]

theorem lengthOk_manual {code : Byte} {params : List Byte} (h : params.length = 3) (hc : code = codeForce ∨ code = codeLockout) :
    lengthOk code params.length = true := by
  obtain rfl | rfl := hc <;> rw [h] <;> rfl

section Exec
variable {tag : Byte} {params : List Byte} {u : State} {x : Status} (hready : portReady s) (hl : params.length = 3)
  (hfind : findEntry s (keyAt params 0) = some (i, e)) (hactive : e.state = .active) (hp : e.prot = some p)
include hready hl hfind hactive hp

theorem exec_force_drop (h : forceDrop s i p = answer u x) : exec (.force tag params) s
    = .next (u.withSite { u.site with reply := some { tag := tag, code := codeForce, status := x, data := .none } }) :=
  congrArg Host.Outcome.next (siteRequest_answered hready tag (lengthOk_manual hl (.inl rfl)) ((manualRequest_drop hfind hactive hp _).trans h))

theorem exec_lockout_drop (h : lockoutDrop s i p = answer u x) : exec (.lockout tag params) s
    = .next (u.withSite { u.site with reply := some { tag := tag, code := codeLockout, status := x, data := .none } }) :=
  congrArg Host.Outcome.next (siteRequest_answered hready tag (lengthOk_manual hl (.inr rfl)) ((manualRequest_drop hfind hactive hp _).trans h))

end Exec

end Command

/-- Settles O23: each request is one move of the drop, or none. -/
theorem forceAndLockoutMoveDrop : Obligations.ForceAndLockoutMoveDrop := by
  intro s tag params i e p hready hl hfind hactive hp
  obtain ⟨-, hrun⟩ := id hready
  have he := entry_of_findEntry hfind
  refine ⟨fun hforced hlockout => ?_, fun hforced => ?_, fun hlockout => ?_, fun hlockout => ?_, fun hlockout => ?_⟩
  · have hmoved := changeState_commands hrun he hactive hp (ProtPart.enter .forced none none 0) .force
    refine ⟨_, exec_force_drop hready hl hfind hactive hp (forceDrop_moves hforced hlockout), hmoved.part, hmoved.selector,
      fun x m hx ho hsel => hmoved.latched rfl x m hx ho hsel, fun r hr ha hw => ?_, fun r hr h => ?_, hmoved.said,
      repliesWith_of_untold _ _ _ _ hmoved.untold, hmoved.others,
      changesOnly_trans hmoved.changes (changesOnly_mono (withSite_changesOnly _ _) (by decide))⟩
    · exact hmoved.asked r hr (ha.trans hw.symm) (by rw [hw]; decide)
    · exact hmoved.silent r hr h
  · exact exec_force_drop hready hl hfind hactive hp (forceDrop_forced hforced)
  · exact exec_force_drop hready hl hfind hactive hp (forceDrop_lockout hlockout)
  · have hmoved := changeState_commands hrun he hactive hp (ProtPart.enter .lockout none none 0) .lockout
    refine ⟨_, exec_lockout_drop hready hl hfind hactive hp (lockoutDrop_moves hlockout), hmoved.part, hmoved.selector,
      fun r hr ha hw => ?_, fun r hr h => ?_, hmoved.said,
      repliesWith_of_untold _ _ _ _ hmoved.untold, hmoved.others,
      changesOnly_trans hmoved.changes (changesOnly_mono (withSite_changesOnly _ _) (by decide))⟩
    · exact hmoved.asked r hr (ha.trans hw.symm) (by rw [hw]; decide)
    · exact hmoved.silent r hr h
  · exact exec_lockout_drop hready hl hfind hactive hp (lockoutDrop_lockout hlockout)

end Sys2Proof.Machine

namespace Sys2Proof.Machine

/-! ### The six cases of R121 -/

theorem judge_sixCases (k : Key) (keys : List Key) : judgesBySix k keys := by
  refine ⟨fun _ => rfl, fun frame => ?_, fun _ => rfl, fun content hc => ⟨fun g hk hg => ?_, fun g hk hg => ?_, ?_, ?_⟩⟩
  · cases frame <;> rfl
  · simp [judge, hc, hk, hg]
  · simp [judge, hc, hk, hg]
  · simp [judge, hc]
  · simp [judge, hc]

/-! ### What a period keeps while its monitors take in -/

/-- From s to t monitors have taken frames in: of the monitors nothing but the lanes' has changed, and of the rest at most the calendar. -/
structure TakesIn (s t : State) : Prop where
  changes : changesOnly [.entries, .mons] s t
  spans   : ∀ d, t.span d = s.span d
  inputs  : t.mons.inputs = s.mons.inputs
  lanes   : t.mons.lanes.length = s.mons.lanes.length

section Period
variable {p : Period} {s t u : State} {port d : Dir} {lane : Nat}

theorem TakesIn.refl (s : State) : TakesIn s s := ⟨changesOnly_refl _ s, fun _ => rfl, rfl, rfl⟩

theorem TakesIn.trans (h : TakesIn s t) (k : TakesIn t u) : TakesIn s u where
  changes := changesOnly_trans h.changes k.changes
  spans d := (k.spans d).trans (h.spans d)
  inputs := k.inputs.trans h.inputs
  lanes := k.lanes.trans h.lanes

theorem forEach_takesIn {f : State → Nat → State} (hf : ∀ s i, TakesIn s (f s i)) (l : List Nat) (s : State) : TakesIn s (forEach l s f) :=
  forEach_relates TakesIn.refl (fun _ _ _ => TakesIn.trans) (fun s i _ => hf s i) s

theorem updMon_takesIn (s : State) (port : Dir) (lane : Nat) (f : LaneMon → LaneMon) : TakesIn s (updMon s port lane f) where
  changes := changesOnly_mono (withMons_changesOnly _ _) (by decide)
  spans d := by cases d <;> rfl
  inputs := rfl
  lanes := modifyAt_length ..

/-! ### A lane takes its frame -/

/-- The lanes of a port, each taking its frame in turn. -/
def takePort (p : Period) (s : State) (port : Dir) : State := forEach (List.range Config.laneCount) s (fun u lane => takeLane p u port lane)

theorem takeLanes_eq (p : Period) (s : State) : takeLanes p s = takePort p (takePort p s .west) .east := rfl

/-- A lane's monitor after its frame of the period. -/
def taken (p : Period) (s : State) (port : Dir) (lane : Nat) : LaneMon :=
  LaneMon.take s.phase.isCold s.bridged.keys (s.span port).up (p.frame port lane) (s.mon port lane)

theorem takePort_takesIn (p : Period) (s : State) (port : Dir) : TakesIn s (takePort p s port) :=
  forEach_takesIn (fun _ _ => updMon_takesIn ..) _ s

theorem mon_takeLane_ne {q : Dir} {x : Nat} (h : monAt port lane ≠ monAt q x) : (takeLane p s port lane).mon q x = s.mon q x := by
  rw [takeLane, mon_updMon, if_neg (fun hn => h hn.1)]

theorem mon_takeLane_same (hl : lane < 24) (hlen : s.mons.lanes.length = 48) : (takeLane p s port lane).mon port lane = taken p s port lane := by
  rw [takeLane, mon_updMon, if_pos ⟨rfl, by rw [hlen]; exact monAt_lt hl⟩, taken]

theorem mon_takeScan_ne {l : List Nat} (h : ∀ n ∈ l, monAt port n ≠ monAt d lane) (s : State) :
    (forEach l s (fun u n => takeLane p u port n)).mon d lane = s.mon d lane :=
  forEach_relates (R := fun s t => t.mon d lane = s.mon d lane) (fun _ => rfl) (fun _ _ _ h k => k.trans h) (fun _ n hn => mon_takeLane_ne (h n hn)) s

theorem taken_of_takesIn (h : TakesIn s t) (hm : t.mon port lane = s.mon port lane) : taken p t port lane = taken p s port lane := by
  rw [taken, h.changes .phase (by decide), h.changes .bridged (by decide), h.spans, hm, taken]

theorem mon_takePort_other {q : Dir} (hq : port ≠ q) (hl : lane < 24) : (takePort p s port).mon q lane = s.mon q lane :=
  mon_takeScan_ne (fun _ hn => monAt_ne (List.mem_range.1 hn) hl (.inl hq)) s

/-- Each lane of a port takes its own frame, once. -/
theorem mon_takePort_same (hl : lane < 24) (hlen : s.mons.lanes.length = 48) : (takePort p s port).mon port lane = taken p s port lane := by
  obtain ⟨a, b, ha, hb, hscan⟩ := forEach_split (l := List.range Config.laneCount) List.nodup_range (List.mem_range.2 hl)
  have hother {l : List Nat} (hnot : ∀ n ∈ l, n ∈ List.range Config.laneCount ∧ n ≠ lane) (u : State) :
      (forEach l u (fun u n => takeLane p u port n)).mon port lane = u.mon port lane :=
    mon_takeScan_ne (fun n hn => monAt_ne (List.mem_range.1 (hnot n hn).1) hl (.inr (hnot n hn).2)) u
  have hbefore : TakesIn s (forEach a s (fun u n => takeLane p u port n)) := forEach_takesIn (fun _ _ => updMon_takesIn ..) a s
  rw [takePort, hscan, hother hb, mon_takeLane_same hl (hbefore.lanes.trans hlen), taken_of_takesIn hbefore (hother ha s)]

theorem mon_takeLanes (hl : lane < 24) (hlen : s.mons.lanes.length = 48) (port : Dir) : (takeLanes p s).mon port lane = taken p s port lane := by
  have hwest := takePort_takesIn p s .west
  rw [takeLanes_eq]
  cases port with
  | west => rw [mon_takePort_other (by decide) hl, mon_takePort_same hl hlen]
  | east =>
    rw [mon_takePort_same hl (hwest.lanes.trans hlen), taken_of_takesIn hwest (mon_takePort_other (by decide) hl)]

/-! ### Settle periods that end -/

/-- A watch place but for its settle period (R126). -/
def Place.unsettled (x : Place) : Place := { x with settleEnd := none }

/-- A lane monitor but for the settle periods of its places. -/
def LaneMon.unsettled (m : LaneMon) : LaneMon :=
  { m with working := m.working.map Place.unsettled, protection := m.protection.map Place.unsettled }

theorem endSettle_unsettled (k : Key) (x : Place) : (endSettle k x).unsettled = x.unsettled := by
  unfold endSettle
  split <;> rfl

theorem map_endSettle_unsettled (k : Key) (o : Option Place) : (o.map (endSettle k)).map Place.unsettled = o.map Place.unsettled := by
  cases o with
  | none => rfl
  | some x => exact congrArg some (endSettle_unsettled k x)

/-- What a settle period does not show in: the frame state, the last frame and the open records. -/
theorem parts_of_unsettled {m n : LaneMon} (h : m.unsettled = n.unsettled) : m.framed = n.framed ∧ m.last = n.last
    ∧ m.working.bind Place.opened = n.working.bind Place.opened ∧ m.protection.bind Place.opened = n.protection.bind Place.opened := by
  have hopened (o : Option Place) : o.bind Place.opened = (o.map Place.unsettled).bind Place.opened := by cases o <;> rfl
  have hframed := congrArg LaneMon.framed h
  have hlast := congrArg LaneMon.last h
  have hworking := congrArg LaneMon.working h
  have hprotection := congrArg LaneMon.protection h
  refine ⟨hframed, hlast, ?_, ?_⟩
  · rw [hopened]
    exact (congrArg (·.bind Place.opened) hworking).trans (hopened _).symm
  · rw [hopened]
    exact (congrArg (·.bind Place.opened) hprotection).trans (hopened _).symm

/-- From s to t at most settle periods have ended. -/
structure Settles (s t : State) : Prop where
  takesIn : TakesIn s t
  lane    : ∀ port lane, (t.mon port lane).unsettled = (s.mon port lane).unsettled

theorem Settles.refl (s : State) : Settles s s := ⟨.refl s, fun _ _ => rfl⟩

theorem Settles.trans (h : Settles s t) (k : Settles t u) : Settles s u :=
  ⟨h.takesIn.trans k.takesIn, fun port lane => (k.lane port lane).trans (h.lane port lane)⟩

theorem forEach_settles {f : State → Nat → State} (hf : ∀ s i, Settles s (f s i)) (l : List Nat) (s : State) : Settles s (forEach l s f) :=
  forEach_relates Settles.refl (fun _ _ _ => Settles.trans) (fun s i _ => hf s i) s

theorem updMon_settles {f : LaneMon → LaneMon} (hf : ∀ m, (f m).unsettled = m.unsettled) (s : State) (port : Dir) (lane : Nat) :
    Settles s (updMon s port lane f) := by
  refine ⟨updMon_takesIn .., fun q x => ?_⟩
  rw [mon_updMon]
  split
  · exact hf _
  · rfl

theorem settleOne_settles (p : Period) (s : State) (i : Nat) : Settles s (settleOne p s i) := by
  have hscan {f : LaneMon → LaneMon} (hf : ∀ m, (f m).unsettled = m.unsettled) (b : Bool) (u : State) (port : Dir) (l : List Nat) :
      Settles u (if b then forEach l u (fun v lane => updMon v port lane f) else u) := by
    split
    · exact forEach_settles (fun v lane => updMon_settles hf v port lane) l u
    · exact .refl u
  unfold settleOne
  split
  · exact .refl s
  · dsimp only
    split
    · refine .trans (hscan (fun m => ?_) _ s _ _) (hscan (fun m => ?_) _ _ _ _)
      · simp only [LaneMon.unsettled, map_endSettle_unsettled]
      · simp only [LaneMon.unsettled, map_endSettle_unsettled]
    · exact .refl s

theorem selectOne_changesOnly (p : Period) (s : State) (i : Nat) : changesOnly [.entries] s (selectOne p s i) := by
  unfold selectOne
  split
  · exact changesOnly_refl _ s
  · split
    · exact setEntry_changesOnly _ _ _
    · exact changesOnly_refl _ s

theorem settles_of_entries (h : changesOnly [.entries] s t) : Settles s t := by
  have hmons : t.mons = s.mons := h .mons (by decide)
  exact {
    takesIn := {
      changes := changesOnly_mono h (by decide)
      spans := fun d => by cases d <;> simp only [State.span, hmons]
      inputs := congrArg Monitors.inputs hmons
      lanes := congrArg (fun m => m.lanes.length) hmons }
    lane := fun port lane => by rw [mon_of_lanes (congrArg Monitors.lanes hmons)] }

/-! ### The monitors' period -/

theorem monitorPeriod_settles (p : Period) (s : State) : Settles (takeLanes p s) (monitorPeriod p s) :=
  (forEach_settles (settleOne_settles p) _ _).trans (forEach_settles (fun u i => settles_of_entries (selectOne_changesOnly p u i)) _ _)

theorem monitorPeriod_takesIn (p : Period) (s : State) : TakesIn s (monitorPeriod p s) :=
  ((takePort_takesIn p s .west).trans (takePort_takesIn p _ .east)).trans (monitorPeriod_settles p s).takesIn

theorem monitorPeriod_switch (p : Period) (s : State) : (monitorPeriod p s).switch = s.switch := (monitorPeriod_takesIn p s).changes .switch (by decide)

theorem monitorPeriod_taken (hl : lane < 24) (hlen : s.mons.lanes.length = 48) (port : Dir) :
    ((monitorPeriod p s).mon port lane).unsettled = (taken p s port lane).unsettled := by
  rw [(monitorPeriod_settles p s).lane, mon_takeLanes hl hlen]

theorem monitorPeriod_framed (hl : lane < 24) (hlen : s.mons.lanes.length = 48) (port : Dir) :
    ((monitorPeriod p s).mon port lane).framed = (p.frame port lane).isSome :=
  (parts_of_unsettled (monitorPeriod_taken hl hlen port)).1

theorem nextLast_cold (seen old : Option (Option Key × Content)) : nextLast true seen old = old := rfl

theorem nextLast_seen (x : Option Key × Content) (old : Option (Option Key × Content)) : nextLast false (some x) old = some x := rfl

theorem nextLast_none (isCold : Bool) (old : Option (Option Key × Content)) : nextLast isCold none old = old := by cases isCold <;> rfl

/-- The last frame a lane's monitor keeps (R119, R199). -/
theorem monitorPeriod_last (hl : lane < 24) (hlen : s.mons.lanes.length = 48) (port : Dir) :
    ((monitorPeriod p s).mon port lane).last = nextLast s.phase.isCold (p.seen port lane) (s.mon port lane).last :=
  (parts_of_unsettled (monitorPeriod_taken hl hlen port)).2.1

theorem opened_take {o : Option Place} {x : Place} (h : o = some x) (keys : List Key) (up : Bool) (seen : Option (Option Key × Content)) :
    (o.map (Place.take keys up seen)).bind Place.opened = worseOpen x.opened (judge x.owner keys up seen) := by rw [h]; rfl

theorem monitorPeriod_working (hl : lane < 24) (hlen : s.mons.lanes.length = 48) {x : Place} (h : (s.mon port lane).working = some x) :
    ((monitorPeriod p s).mon port lane).working.bind Place.opened
      = worseOpen x.opened (judge x.owner s.bridged.keys (s.span port).up (p.seen port lane)) := by
  obtain ⟨-, -, hworking, -⟩ := parts_of_unsettled (monitorPeriod_taken (p := p) hl hlen port)
  exact hworking.trans (opened_take h ..)

theorem monitorPeriod_protection (hl : lane < 24) (hlen : s.mons.lanes.length = 48) {x : Place} (h : (s.mon port lane).protection = some x) :
    ((monitorPeriod p s).mon port lane).protection.bind Place.opened
      = worseOpen x.opened (judge x.owner s.bridged.keys (s.span port).up (p.seen port lane)) := by
  obtain ⟨-, -, -, hprotection⟩ := parts_of_unsettled (monitorPeriod_taken (p := p) hl hlen port)
  exact hprotection.trans (opened_take h ..)

/-! ### Frames that a cell transmits -/

theorem checkFails_build (tag : Option Key) (content : Byte) (payload : List Byte) : checkFails (LaneFrame.build tag content payload) = false :=
  bne_self_eq_false _

theorem build_isFill (content : Byte) : isFill (LaneFrame.build none content []) content := ⟨rfl, rfl, rfl, checkFails_build ..⟩

/-- What a Through cell carries: the lane's frame as it came, or fail fill for a lane without one or a span that is Down (R100, R103). -/
def carriesOn (p : Period) (s : State) (d : Dir) (lane : Nat) (f : LaneFrame) : Prop :=
  (∀ g, (s.span (inPort d)).up = true → p.frame (inPort d) lane = some g → f = g)
    ∧ ((s.span (inPort d)).up = false ∨ p.frame (inPort d) lane = none → isFill f 2)

/-- The layer that a cell transmits by: the protection layer, else the working layer (R99). -/
def topLayer (c : Cell) (l : Layer) : Prop := c.protection = some l ∨ (c.protection = none ∧ c.working = some l)

theorem txSource_layer {l : Layer} (h : topLayer (s.cell d lane) l) : txSource s d lane = substituted s d lane l.src l.owner := by
  obtain h | ⟨hp, hw⟩ := h
  · simp only [txSource, h]
  · simp only [txSource, hp, hw]

theorem txSource_idle (hp : (s.cell d lane).protection = none) (hw : (s.cell d lane).working = none) (h : (s.cell d lane).standing = .idle) :
    txSource s d lane = .idle := by simp only [txSource, hp, hw, h]

theorem txSource_standing (hp : (s.cell d lane).protection = none) (hw : (s.cell d lane).working = none)
    (h : (s.cell d lane).standing = .through) :
    txSource s d lane = if throughFails s (inPort d) lane then .failFill else .through := by simp only [txSource, hp, hw, h]

theorem throughFails_monitorPeriod (hl : lane < 24) (hlen : s.mons.lanes.length = 48) (port : Dir) :
    throughFails (monitorPeriod p s) port lane = (!(s.span port).up || !(p.frame port lane).isSome) := by
  rw [throughFails, (monitorPeriod_takesIn p s).spans, monitorPeriod_framed hl hlen]

theorem cellFrame_through (hl : lane < 24) (hlen : s.mons.lanes.length = 48)
    (h : txSource (monitorPeriod p s) d lane = if throughFails (monitorPeriod p s) (inPort d) lane then .failFill else .through) :
    carriesOn p s d lane (cellFrame p (monitorPeriod p s) d lane) := by
  rw [throughFails_monitorPeriod hl hlen] at h
  refine ⟨fun g hup hg => ?_, fun hfails => ?_⟩
  · rw [hup, hg] at h
    simp [cellFrame, h, hg]
  · have hfill : txSource (monitorPeriod p s) d lane = .failFill := by
      obtain hdown | hnone := hfails
      · simp [h, hdown]
      · simp [h, hnone]
    simp only [cellFrame, hfill]
    exact build_isFill 2

theorem cellFrame_add {q j : Nat} {k : Key} (h : txSource (monitorPeriod p s) d lane = .add q j k) :
    cellFrame p (monitorPeriod p s) d lane = addFrame p (s.input q).isPresent q j k := by
  have hinput : (monitorPeriod p s).input q = s.input q := by rw [State.input, (monitorPeriod_takesIn p s).inputs, State.input]
  simp only [cellFrame, h, hinput]

theorem cell_monitorPeriod (p : Period) (s : State) (d : Dir) (lane : Nat) : (monitorPeriod p s).cell d lane = s.cell d lane :=
  cell_of_cells (congrArg Switch.cells (monitorPeriod_switch p s)) d lane

/-- The frame of an Add layer (R101). -/
theorem addFrame_parts (p : Period) (isPresent : Bool) (q j : Nat) (k : Key) :
    (addFrame p isPresent q j k).tag = tagOf (some k) ∧ (addFrame p isPresent q j k).content = (if isPresent then 0 else 1)
      ∧ (addFrame p isPresent q j k).payload = (if isPresent then p.payload q j else []) ∧ checkFails (addFrame p isPresent q j k) = false := by
  cases isPresent
  · exact ⟨rfl, rfl, rfl, checkFails_build ..⟩
  · exact ⟨rfl, rfl, rfl, checkFails_build ..⟩

theorem transmitted_cell (hl : lane < 24) (p : Period) (s : State) (d : Dir) : (transmitted p s)[cellAt d lane]? = some (cellFrame p s d lane) := by
  have hlane : (List.range Config.laneCount)[lane]? = some lane := List.getElem?_range hl
  cases d with
  | east =>
    rw [transmitted, cellAt, List.getElem?_append_left (by rwa [List.length_map, List.length_range]), List.getElem?_map, hlane, Option.map_some]
  | west =>
    rw [transmitted, cellAt, List.getElem?_append_right (by simp), List.length_map, List.length_range, Nat.add_sub_cancel_left, List.getElem?_map,
      hlane, Option.map_some]

/-! ### What an output delivers -/

variable {o : Output} {x : OutSource}

theorem passesSquelch_iff (p : Period) (x : OutSource) : passesSquelch p x = true ↔
    ∀ j, j < x.count → ∃ f, p.frame (inPort x.dir) (x.first + j) = some f ∧ readTag f.tag = some x.owner ∧ readContent f.content = .feed := by
  simp [passesSquelch, lanesOf, Period.seen, LaneFrame.seen]

theorem sourcePayload_length (p : Period) (x : OutSource) : (sourcePayload p x).length = x.count := by simp [sourcePayload, lanesOf]

theorem sourcePayload_getElem {j : Nat} (hj : j < x.count) {f : LaneFrame} (hf : p.frame (inPort x.dir) (x.first + j) = some f) :
    (sourcePayload p x)[j]? = some f.payload := by
  simp [sourcePayload, lanesOf, hj, hf]

theorem deliver_delivers (h : o.selected = some x) (hpass : passesSquelch p x = true) :
    deliver p o = { o with delivered := true, payload := sourcePayload p x } := by simp only [deliver, h, hpass, if_true]

theorem deliver_squelches (h : o.selected = some x) (hpass : passesSquelch p x = false) :
    deliver p o = { o with delivered := false, payload := [] } := by simp only [deliver, h, hpass, Bool.false_eq_true, if_false]

/-- The station once its cells have transmitted and its outputs delivered by what its monitors read (R99, R107). -/
def transmits (p : Period) (t : State) : State :=
  t.withSwitch { t.switch with tx := transmitted p t, outputs := t.switch.outputs.map (deliver p) }

theorem framePeriod_eq (p : Period) (s : State) : framePeriod p s = transmits p (monitorPeriod p s) := by rw [framePeriod, transmits]

theorem transmits_mon (p : Period) (t : State) (port : Dir) (lane : Nat) : (transmits p t).mon port lane = t.mon port lane := rfl

theorem transmits_cells (p : Period) (t : State) : (transmits p t).switch.cells = t.switch.cells := rfl

theorem transmits_tx (p : Period) (t : State) : (transmits p t).switch.tx = transmitted p t := rfl

theorem transmits_changesOnly (p : Period) (t : State) : changesOnly [.switch] t (transmits p t) := withSwitch_changesOnly _ _

theorem transmits_output {q : Nat} (h : t.switch.outputs[q]? = some o) : (transmits p t).output q = deliver p o := by
  have houtputs : (transmits p t).switch.outputs = t.switch.outputs.map (deliver p) := rfl
  rw [State.output, houtputs, List.getElem?_map, h]
  rfl

theorem deliver_feeds (h : o.selected = some x) :
    ((deliver p o).delivered = true ↔ ∀ j, j < x.count → ∃ f, p.frame (inPort x.dir) (x.first + j) = some f
        ∧ readTag f.tag = some x.owner ∧ readContent f.content = .feed)
      ∧ ((deliver p o).delivered = true → (deliver p o).payload.length = x.count
        ∧ ∀ j f, j < x.count → p.frame (inPort x.dir) (x.first + j) = some f → (deliver p o).payload[j]? = some f.payload)
      ∧ ((deliver p o).delivered = false → (deliver p o).payload = []) := by
  rw [← passesSquelch_iff]
  cases hpass : passesSquelch p x with
  | true =>
    rw [deliver_delivers h hpass]
    exact ⟨Iff.rfl, fun _ => ⟨sourcePayload_length p x, fun j f hj hf => sourcePayload_getElem hj hf⟩, fun hn => absurd hn (by simp)⟩
  | false =>
    rw [deliver_squelches h hpass]
    exact ⟨Iff.rfl, fun hn => absurd hn (by simp), fun _ => rfl⟩

end Period

/-- Settles O60: the monitors take the period in, then the cells transmit and the outputs deliver by it. -/
theorem laneFramePeriodWorks : Obligations.LaneFramePeriodWorks := by
  refine ⟨judge_sixCases, fun s p hlen => ⟨transmits p (monitorPeriod p s), congrArg Host.Outcome.next (framePeriod_eq p s), fun port lane hl => ?_,
    fun d lane hl => ?_, fun q o x ho hx => ?_, ?_, ?_⟩⟩
  · have hlast := monitorPeriod_last (p := p) hl hlen port
    rw [transmits_mon]
    refine ⟨monitorPeriod_framed hl hlen port, fun f hcold hf => hlast.trans ?_, fun hkept => hlast.trans ?_,
      fun x hx => monitorPeriod_working hl hlen hx, fun x hx => monitorPeriod_protection hl hlen hx⟩
    · rw [hcold, Period.seen, hf]
      exact nextLast_seen ..
    · obtain hcold | hnone := hkept
      · rw [hcold, nextLast_cold]
      · rw [Period.seen, hnone]
        exact nextLast_none ..
  · have hcell := cell_monitorPeriod p s d lane
    rw [transmits_tx]
    refine ⟨_, transmitted_cell hl p _ d, fun hp hw => ?_, fun l htop => ?_⟩
    · rw [← hcell] at hp hw ⊢
      have hthrough (h : ((monitorPeriod p s).cell d lane).standing = .through) := cellFrame_through hl hlen (txSource_standing hp hw h)
      refine ⟨fun hidle => ?_, fun g h => (hthrough h).1 g, fun h => (hthrough h).2⟩
      simp only [cellFrame, txSource_idle hp hw hidle]
      exact build_isFill 1
    · have hsource := txSource_layer (s := monitorPeriod p s) (d := d) (lane := lane) (l := l) (by rw [hcell]; exact htop)
      have hthrough (h : l.src = .through) := cellFrame_through hl hlen (by rw [hsource, h]; rfl)
      refine ⟨fun q j hadd => ?_, fun g h => (hthrough h).1 g, fun h => (hthrough h).2⟩
      rw [cellFrame_add (by rw [hsource, hadd]; rfl)]
      exact addFrame_parts ..
  · rw [transmits_output (by rwa [monitorPeriod_switch])]
    exact deliver_feeds hx
  · rw [transmits_cells, monitorPeriod_switch]
  · exact changesOnly_trans (changesOnly_mono (monitorPeriod_takesIn p s).changes (by decide)) (changesOnly_mono (transmits_changesOnly _ _) (by decide))

end Sys2Proof.Machine

namespace Sys2Proof.Machine

/-! ### SPANSTATE -/

theorem act_spanstate (u : State) (port : Dir) (h : Header) (side : Dir) (up : Bool) : act u port (hopped { hdr := h, body := .spanstate side up })
    = (raiseNotice u (sourceSpan port) (.spanReport h.origin side up h.stamp), hopped { hdr := h, body := .spanstate side up }) := rfl

theorem site_of_untold {s t : State} (h : t.site.untold = s.site.untold) : t.site = { s.site with notices := t.site.notices } := by
  simp only [Site.untold, Site.mk.injEq] at h
  obtain ⟨hrx, hreply, hshorts, hdiscards, hrestart, -, hframe⟩ := h
  simp only [← hrx, ← hreply, ← hshorts, ← hdiscards, ← hrestart, ← hframe]

/-- Settles O47: the report of the side's monitor between the slot's arrival and its leaving. -/
theorem spanstateTaken : Obligations.SpanstateTaken := by
  intro s port h side up hp
  obtain ⟨⟨hphase, -⟩, -⟩ := id hp
  have hact := act_spanstate (noteFar s port false) port h side up
  have hparts : changesOnly [.site] (noteFar s port false)
      (raiseNotice (noteFar s port false) (sourceSpan port) (.spanReport h.origin side up h.stamp)) := raiseNotice_changesOnly _ _ _
  refine ⟨_, exec_acted hp rfl hact, ?_, fun src hsrc => ?_, site_of_untold ?_, passedOn_acted hp hact,
    queuesKept_around (changesOnly_lane hparts (by decide)) _ _, changesOnly_around (changesOnly_mono hparts (by decide)) (by decide) _ _⟩
  · rw [noticeAt_of_site (emit_site ..)]
    exact noticeAt_raiseNotice (running_of_normal ((noteFar_phase ..).trans hphase)) _ _
  · rw [noticeAt_of_site (emit_site ..), noticeAt_raiseNotice_ne _ hsrc.symm, noticeAt_of_site (noteFar_site ..)]
  · rw [emit_site, raiseNotice_untold, noteFar_site]

end Sys2Proof.Machine

namespace Sys2Proof.Machine

/-! ### Span monitors -/

section Span
variable {s : State} {side : Dir} {up : Bool} {d : Nat}

theorem monitorsFollow_of_normal (h : s.phase = .normal) : monitorsFollow s = true := by simp [monitorsFollow, h]

theorem span_of_mons {s t : State} (h : t.mons = s.mons) (x : Dir) : t.span x = s.span x := by cases x <;> simp [State.span, h]

theorem span_setSpan_same (s : State) (side : Dir) (m : SpanMon) : (setSpan s side m).span side = m := by cases side <;> rfl

theorem span_setSpan_opp (s : State) (side : Dir) (m : SpanMon) : (setSpan s side m).span (opp side) = s.span (opp side) := by cases side <;> rfl

theorem setSpan_changesOnly (s : State) (side : Dir) (m : SpanMon) : changesOnly [.mons] s (setSpan s side m) := by
  cases side <;> exact withMons_changesOnly _ _

theorem withPins_changesOnly (s : State) (v : Pins) : changesOnly [.pins] s (s.withPins v) := by
  intro p hp
  cases p with
  | pins => simp at hp
  | _ => rfl

theorem losePins_changesOnly (s : State) (side : Dir) (cause : LossCause) : changesOnly [.pins] s (losePins s side cause) := by
  cases side <;> cases cause <;> exact withPins_changesOnly _ _

theorem restorePins_changesOnly (s : State) (side : Dir) : changesOnly [.pins] s (restorePins s side) := by
  cases side <;> exact withPins_changesOnly _ _

/-- A span monitor's change is told by its source, and by a SPANSTATE where the east queue takes it (R11, R132). -/
theorem reportSpan_normal (hp : s.phase = .normal) (side : Dir) (up : Bool) (cause : SpanCause) : reportSpan s side up cause
    = if canJoinProt s .east then joinCounted (raiseNotice s (sourceSpan side) (.spanState side up cause s.now)) (.spanstate side up)
      else raiseNotice s (sourceSpan side) (.spanState side up cause s.now) := by
  simp only [reportSpan, running_of_normal hp, if_true, canJoinProt_of_lane (raiseNotice_lane ..)]

theorem reportSpan_changesOnly (s : State) (side : Dir) (up : Bool) (cause : SpanCause) :
    changesOnly [.lane, .site] s (reportSpan s side up cause) := by
  have htold : changesOnly [.lane, .site] s (raiseNotice s (sourceSpan side) (.spanState side up cause s.now)) :=
    changesOnly_mono (raiseNotice_changesOnly _ _ _) (by decide)
  unfold reportSpan
  split
  · dsimp only
    split
    · exact changesOnly_trans htold (changesOnly_mono (joinCounted_changesOnly _ _) (by decide))
    · exact htold
  · exact changesOnly_refl _ s

theorem reportSpan_tells (hp : s.phase = .normal) (side : Dir) (up : Bool) (cause : SpanCause) :
    noticeAt (reportSpan s side up cause) (sourceSpan side) = some (.spanState side up cause s.now) := by
  rw [reportSpan_normal hp]
  split
  · rw [noticeAt_of_site (joinCounted_site ..)]
    exact noticeAt_raiseNotice (running_of_normal hp) _ _
  · exact noticeAt_raiseNotice (running_of_normal hp) _ _

theorem reportSpan_joins (hp : s.phase = .normal) (hroom : canJoinProt s .east = true) (side : Dir) (up : Bool) (cause : SpanCause) :
    joins s (reportSpan s side up cause) .east s.lane.counter (.spanstate side up) := by
  have hlane := raiseNotice_lane s (sourceSpan side) (.spanState side up cause s.now)
  have hjoined := joins_joinCounted (raiseNotice s (sourceSpan side) (.spanState side up cause s.now)) (.spanstate side up)
  rw [reportSpan_normal hp, if_pos hroom]
  rw [hlane] at hjoined
  exact joins_from_lane hjoined hlane (raiseNotice_cfg ..)

theorem reportSpan_waits (hp : s.phase = .normal) (hroom : canJoinProt s .east = false) (side : Dir) (up : Bool) (cause : SpanCause) :
    queuesKept s (reportSpan s side up cause) := by
  rw [reportSpan_normal hp, hroom]
  exact raiseNotice_queuesKept ..

theorem queuesKept_of_lane {t u : State} (hl : t.lane = s.lane) (h : queuesKept t u) : queuesKept s u :=
  queuesKept_trans (by rw [queuesKept, hl]; exact ⟨rfl, rfl, rfl, rfl⟩) h

theorem joins_of_queuesKept {t u : State} {d : Dir} {n : Nat} {b : Body} (h : joins s t d n b) (hkept : queuesKept t u) : joins s u d n b := by
  obtain ⟨hown, hother⟩ := h
  exact ⟨(queuesKept_queue hkept _).trans hown, (queuesKept_queue hkept _).trans hother⟩

theorem loseSpan_up (h : (s.span side).up = true) (cause : LossCause) :
    loseSpan s side cause = reportSpan (setSpan s side { up := false, confirm := none }) side false (causeOf cause) := if_pos h

theorem loseSpan_down (h : (s.span side).up = false) (cause : LossCause) :
    loseSpan s side cause = setSpan s side { up := false, confirm := none } := if_neg (Bool.eq_false_iff.mp h)

/-- In normal running a loss reaches the monitor, and its side puts out a slot of the station's own (R5, R131). -/
theorem exec_spanLoss (hp : s.phase = .normal) (side : Dir) (cause : LossCause) :
    exec (.spanLoss side cause) s = .next (generateSlot (loseSpan (losePins s side cause) side cause) side) := by
  have hfollow : monitorsFollow (losePins s side cause) = true :=
    monitorsFollow_of_normal ((losePins_changesOnly s side cause .phase (by decide)).trans hp)
  simp only [exec, execSpanLoss, hfollow, if_true]

theorem generateSlot_changesOnly (s : State) (side : Dir) : changesOnly [.lane] s (generateSlot s side) := by
  unfold generateSlot
  split
  · exact emit_changesOnly _ _ _
  · exact putSlot_changesOnly _ _ _

theorem generateSlot_queuesKept (s : State) (side : Dir) : queuesKept s (generateSlot s side) := by
  unfold generateSlot
  split
  · exact emit_queuesKept ..
  · exact putSlot_queuesKept ..

theorem exec_spanSignalReturn (hp : s.phase = .normal) (h : s.span side = { up := false, confirm := none }) : exec (.spanSignalReturn side) s
    = .next (setSpan (restorePins s side) side { up := false, confirm := some (s.nowMs + 2000) }) := by
  have hpins := restorePins_changesOnly s side
  have hfollow : monitorsFollow (restorePins s side) = true := monitorsFollow_of_normal ((hpins .phase (by decide)).trans hp)
  have hspan : (restorePins s side).span side = { up := false, confirm := none } := (span_of_mons (hpins .mons (by decide)) side).trans h
  have hnow : (restorePins s side).nowMs = s.nowMs := hpins .nowMs (by decide)
  simp only [exec, execSpanSignalReturn, hfollow, if_true, regainSpan, hspan, after, hnow, Config.confirmMs]
  rfl

theorem exec_spanConfirmed (h : (s.span side).confirm = some d) : exec (.spanConfirmed side) s
    = .next (reportSpan (setSpan (reach s d) side { up := true, confirm := none }) side true .confirmed) := by
  simp only [exec, execSpanConfirmed, h]

theorem exec_inputStateChange (hp : s.phase = .normal) (port : Nat) (b : Bool) : exec (.inputStateChange port b) s
    = .next (updInput (s.withPins { s.pins with inputs := modifyAt s.pins.inputs port (fun _ => b) }) port (InputMon.take b)) := by
  have hfollow : monitorsFollow (s.withPins { s.pins with inputs := modifyAt s.pins.inputs port (fun _ => b) }) = true := monitorsFollow_of_normal hp
  simp only [exec, execInputStateChange, hfollow, if_true]

theorem InputMon.take_isPresent (b : Bool) (m : InputMon) : (m.take b).isPresent = b := by
  unfold InputMon.take
  split
  · assumption
  · rfl

/-- A change of the input is counted, up to 255 (R129). -/
theorem InputMon.take_changes (b : Bool) (m : InputMon) : (m.take b).changes = if m.isPresent = b then m.changes else min 255 (m.changes + 1) := by
  unfold InputMon.take
  split <;> rfl

theorem input_updInput {m : InputMon} {port : Nat} (h : s.mons.inputs[port]? = some m) (f : InputMon → InputMon) :
    (updInput s port f).input port = f m := by
  obtain ⟨hlt, -⟩ := List.getElem?_eq_some_iff.1 h
  refine (modifyAt_getD _ _ _ _ _).trans ?_
  rw [if_pos ⟨rfl, hlt⟩, h, Option.getD_some]

end Span

/-- From s to t the span monitor of a side has become m, and the change to `up` has been told by notice and by SPANSTATE (R11, R131, R132). -/
structure SpanTold (s t : State) (side : Dir) (m : SpanMon) (up : Bool) (cause : SpanCause) : Prop where
  own    : t.span side = m
  other  : t.span (opp side) = s.span (opp side)
  said   : noticeAt t (sourceSpan side) = some (.spanState side up cause s.now)
  joined : canJoinProt s .east = true → joins s t .east s.lane.counter (.spanstate side up)
  waits  : canJoinProt s .east = false → queuesKept s t

section Told
variable {s t u : State} {side : Dir} {m : SpanMon} {up : Bool} {cause : SpanCause} {d : Nat}

theorem spanTold_changesOnly (s : State) (side : Dir) (m : SpanMon) (up : Bool) (cause : SpanCause) :
    changesOnly [.mons, .lane, .site] s (reportSpan (setSpan s side m) side up cause) :=
  changesOnly_trans (changesOnly_mono (setSpan_changesOnly s side m) (by decide)) (changesOnly_mono (reportSpan_changesOnly _ side up cause) (by decide))

theorem loseSpan_changesOnly (s : State) (side : Dir) (cause : LossCause) : changesOnly [.mons, .lane, .site] s (loseSpan s side cause) := by
  unfold loseSpan
  split
  · exact spanTold_changesOnly _ _ _ _ _
  · exact changesOnly_mono (setSpan_changesOnly _ _ _) (by decide)

/-- A monitor written and its change reported. -/
theorem reportSpan_setSpan (hp : s.phase = .normal) (side : Dir) (m : SpanMon) (up : Bool) (cause : SpanCause) :
    SpanTold s (reportSpan (setSpan s side m) side up cause) side m up cause := by
  have hset := setSpan_changesOnly s side m
  have hp' : (setSpan s side m).phase = .normal := (hset .phase (by decide)).trans hp
  have hlane : (setSpan s side m).lane = s.lane := changesOnly_lane hset (by decide)
  have hmons : (reportSpan (setSpan s side m) side up cause).mons = (setSpan s side m).mons :=
    reportSpan_changesOnly _ side up cause .mons (by decide)
  refine ⟨(span_of_mons hmons _).trans (span_setSpan_same ..), (span_of_mons hmons _).trans (span_setSpan_opp ..), ?_, fun hroom => ?_, fun hroom => ?_⟩
  · rw [reportSpan_tells hp', now_of_clock (changesOnly_clock hset (by decide))]
  · have hjoined := reportSpan_joins hp' ((canJoinProt_of_lane hlane _).trans hroom) side up cause
    rw [hlane] at hjoined
    exact joins_from_lane hjoined hlane (changesOnly_cfg hset (by decide))
  · exact queuesKept_of_lane hlane (reportSpan_waits hp' ((canJoinProt_of_lane hlane _).trans hroom) side up cause)

/-- Told after work on the pins or the local time. -/
theorem SpanTold.congr_start (h : SpanTold t u side m up cause) (hmons : t.mons = s.mons) (hnow : t.now = s.now) (hlane : t.lane = s.lane)
    (hcfg : t.cfg = s.cfg) : SpanTold s u side m up cause where
  own := h.own
  other := h.other.trans (span_of_mons hmons _)
  said := hnow ▸ h.said
  joined hroom := hlane ▸ joins_from_lane (h.joined ((canJoinProt_of_lane hlane _).trans hroom)) hlane hcfg
  waits hroom := queuesKept_of_lane hlane (h.waits ((canJoinProt_of_lane hlane _).trans hroom))

/-- Told before a slot is put out, which leaves the queues alone. -/
theorem SpanTold.congr_end (h : SpanTold s t side m up cause) (hu : changesOnly [.lane] t u) (hkept : queuesKept t u) :
    SpanTold s u side m up cause where
  own := (span_of_mons (hu .mons (by decide)) _).trans h.own
  other := (span_of_mons (hu .mons (by decide)) _).trans h.other
  said := (noticeAt_of_site (changesOnly_site hu (by decide)) _).trans h.said
  joined hroom := joins_of_queuesKept (h.joined hroom) hkept
  waits hroom := queuesKept_trans (h.waits hroom) hkept

end Told

/-- Settles O59: the four events of a span monitor and the change of an input. -/
theorem spanAndInputMonitors : Obligations.SpanAndInputMonitors := by
  refine ⟨fun s side cause hp hup => ?_, fun s side cause hp hdown => ?_, fun s side hp hspan => ?_, fun s side d hp hd => ?_,
    fun s port b m hp hm => ?_⟩
  · have hpins := losePins_changesOnly s side cause
    have hlost := loseSpan_up (s := losePins s side cause) (by rw [span_of_mons (hpins .mons (by decide)), hup]) cause
    have hslot := generateSlot_changesOnly (loseSpan (losePins s side cause) side cause) side
    have hkept := generateSlot_queuesKept (loseSpan (losePins s side cause) side cause) side
    have htold := (reportSpan_setSpan ((hpins .phase (by decide)).trans hp) side { up := false, confirm := none } false (causeOf cause)).congr_start
      (hpins .mons (by decide)) (now_of_clock (changesOnly_clock hpins (by decide))) (changesOnly_lane hpins (by decide)) (changesOnly_cfg hpins (by decide))
    rw [← hlost] at htold
    obtain ⟨hown, hother, hsaid, hjoined, hwaits⟩ := htold.congr_end hslot hkept
    exact ⟨_, exec_spanLoss hp side cause, hown, hother, hsaid, hjoined, hwaits, changesOnly_trans (changesOnly_mono hpins (by decide))
      (changesOnly_trans (changesOnly_mono (loseSpan_changesOnly _ side cause) (by decide)) (changesOnly_mono hslot (by decide)))⟩
  · have hpins := losePins_changesOnly s side cause
    have hlost := loseSpan_down (s := losePins s side cause) (by rw [span_of_mons (hpins .mons (by decide)), hdown]) cause
    have hset := setSpan_changesOnly (losePins s side cause) side { up := false, confirm := none }
    have hbefore := changesOnly_trans (changesOnly_mono hpins (by decide) : changesOnly [.pins, .mons, .lane] s _) (changesOnly_mono hset (by decide))
    have hexec := exec_spanLoss hp side cause
    rw [hlost] at hexec
    have hslot := generateSlot_changesOnly (setSpan (losePins s side cause) side { up := false, confirm := none }) side
    have hkept := generateSlot_queuesKept (setSpan (losePins s side cause) side { up := false, confirm := none }) side
    refine ⟨_, hexec, (span_of_mons (hslot .mons (by decide)) _).trans (span_setSpan_same ..), queuesKept_of_lane ?_ hkept,
      changesOnly_trans hbefore (changesOnly_mono hslot (by decide))⟩
    exact (changesOnly_lane hset (by decide)).trans (changesOnly_lane hpins (by decide))
  · have hpins := restorePins_changesOnly s side
    exact ⟨_, exec_spanSignalReturn hp hspan, span_setSpan_same .., (span_setSpan_opp ..).trans (span_of_mons (hpins .mons (by decide)) _),
      changesOnly_trans (changesOnly_mono hpins (by decide)) (changesOnly_mono (setSpan_changesOnly _ _ _) (by decide))⟩
  · obtain ⟨hown, hother, hsaid, hjoined, -⟩ := (reportSpan_setSpan ((reach_phase s d).trans hp) side { up := true, confirm := none } true
      .confirmed).congr_start (reach_mons s d) (now_reach s d) (reach_lane s d) (reach_cfg s d)
    exact ⟨_, exec_spanConfirmed hd, hown, hother, hsaid, hjoined, timed (spanTold_changesOnly _ _ _ _ _) (by decide) (by decide)⟩
  · have hinput := input_updInput (s := s.withPins { s.pins with inputs := modifyAt s.pins.inputs port (fun _ => b) }) hm (InputMon.take b)
    refine ⟨_, exec_inputStateChange hp port b, ?_, ?_, changesOnly_trans (changesOnly_mono (withPins_changesOnly _ _) (by decide))
      (changesOnly_mono (withMons_changesOnly _ _) (by decide))⟩
    · rw [hinput, InputMon.take_isPresent]
    · rw [hinput, InputMon.take_changes]

end Sys2Proof.Machine

namespace Sys2Proof.Machine

/-! ### The protection layers of a booking -/

section Layers
variable {s t : State} {i : Nat} {e f : Entry} {d : Dir} {x : Nat}

/-- Writing a booking's protection layers puts one on each of its lanes, on the span that its protection path leaves by (R144, R151). -/
theorem writeProtCells_writes (hlen : s.switch.cells.length = 48) (hl : e.bk.first + e.bk.count ≤ 24) (i : Nat) (hw : hasProtSpan e.roles = true)
    {j : Nat} (hj : j < e.bk.count) : ((writeProtCells s i e).cell (opp e.bk.dir) (e.bk.first + j)).protection
      = some { src := layerSource (e.roles.contains .protOrigin) e.bk.input j, owner := e.key, index := i } := by
  rw [writeProtCells, if_pos hw]
  refine forEach_establishes (Q := fun u => u.switch.cells.length = 48)
    (P := fun j u => j < e.bk.count → (u.cell (opp e.bk.dir) (e.bk.first + j)).protection
      = some { src := layerSource (e.roles.contains .protOrigin) e.bk.input j, owner := e.key, index := i })
    (fun u n hu => (modifyAt_length ..).trans hu) (fun u n m hm hlt => ?_) (fun u m hu hlt => ?_) (List.mem_range.2 hj) hlen hj
  · rw [cell_updCell]
    split
    · rename_i hsame
      obtain rfl : n = m := Nat.add_left_cancel (cellAt_inj hsame.1)
      rfl
    · exact hm hlt
  · rw [cell_updCell, if_pos ⟨rfl, by rw [hu]; exact cellAt_lt (by omega)⟩]
    rfl

/-- Every cell outside its lanes stays. -/
theorem writeProtCells_cell_ne (s : State) (i : Nat) (e : Entry) (h : ∀ j, j < e.bk.count → cellAt (opp e.bk.dir) (e.bk.first + j) ≠ cellAt d x) :
    (writeProtCells s i e).cell d x = s.cell d x := by
  unfold writeProtCells
  split
  · exact forEach_relates (R := fun s t => t.cell d x = s.cell d x) (fun _ => rfl) (fun _ _ _ h k => k.trans h)
      (fun u j hj => cell_updCell_ne u (h j (List.mem_range.1 hj)) _) s
  · rfl

/-- Clearing a booking's protection layers puts none where there was none (R104). -/
theorem clearProtCells_protection {l : Layer} (h : ((clearProtCells s e).cell d x).protection = some l) : (s.cell d x).protection = some l := by
  have hkept : ((clearProtCells s e).cell d x).protection = some l → (s.cell d x).protection = some l := by
    unfold clearProtCells
    split
    · refine forEach_relates (R := fun s t => (t.cell d x).protection = some l → (s.cell d x).protection = some l) (fun _ h => h)
        (fun _ _ _ h k hl => h (k hl)) (fun u j _ => ?_) s
      rw [cell_updCell]
      split
      · unfold clearProtLayer
        split
        · exact fun hnone => absurd hnone (by simp)
        · exact id
      · exact id
    · exact id
  exact hkept h

theorem clearProtCells_switchOnly (s : State) (e : Entry) : changesOnly [.switch] s (clearProtCells s e) := by
  unfold clearProtCells
  split
  · exact forEach_changesOnly (fun u _ => withSwitch_changesOnly u _) _ s
  · exact changesOnly_refl _ s

theorem inGroup_iff (bk : Booking) (x : Nat) : inGroup bk x ↔ ∃ j, j < bk.count ∧ x = bk.first + j := by
  unfold inGroup
  constructor
  · exact fun ⟨hlow, hhigh⟩ => ⟨x - bk.first, by omega, by omega⟩
  · rintro ⟨j, hj, rfl⟩
    omega

theorem mem_lanesOf (bk : Booking) (x : Nat) : x ∈ lanesOf bk.first bk.count ↔ inGroup bk x := by
  rw [inGroup_iff]
  simp [lanesOf, eq_comm]

/-! ### The key of a layer that covers an entry -/

/-- What a lane says of an entry that works on it: the key of another booking's protection layer (R154). -/
def laneCover (s : State) (f : Entry) (x : Nat) : Option Key :=
  if ownedBy (s.cell f.bk.dir x).working f.key then
    match (s.cell f.bk.dir x).protection with
    | some l => if l.owner == f.key then none else some l.owner
    | none => none
  else none

theorem coveringKey_eq (s : State) (f : Entry) : coveringKey s f = (lanesOf f.bk.first f.bk.count).findSome? (laneCover s f) := rfl

theorem laneCover_bare (h : (s.cell f.bk.dir x).protection = none) : laneCover s f x = none := by simp [laneCover, h]

theorem laneCover_layer {l : Layer} (hw : ownedBy (s.cell f.bk.dir x).working f.key = true) (h : (s.cell f.bk.dir x).protection = some l)
    (hl : l.owner ≠ f.key) : laneCover s f x = some l.owner := by simp [laneCover, hw, h, hl]

theorem layer_of_laneCover {k : Key} (h : laneCover s f x = some k) : ∃ l, (s.cell f.bk.dir x).protection = some l ∧ l.owner = k := by
  unfold laneCover at h
  split at h
  · split at h
    · rename_i l hl
      split at h
      · exact absurd h (by simp)
      · exact ⟨l, hl, Option.some.inj h⟩
    · exact absurd h (by simp)
  · exact absurd h (by simp)

theorem coveringKey_bare (h : uncovered s f) : coveringKey s f = none := by
  rw [coveringKey_eq, List.findSome?_eq_none_iff]
  exact fun x hx => laneCover_bare (h x ((mem_lanesOf ..).1 hx))

/-- Where every layer on an entry's lanes has one key, not the entry's own, and one of them stands on a lane that it works, that key covers it. -/
theorem coveringKey_layer {k : Key} {l : Layer} (hk : k ≠ f.key) (hall : ∀ x l, inGroup f.bk x → (s.cell f.bk.dir x).protection = some l → l.owner = k)
    (hx : inGroup f.bk x) (hw : ownedBy (s.cell f.bk.dir x).working f.key = true) (hl : (s.cell f.bk.dir x).protection = some l) :
    coveringKey s f = some k := by
  have howner := hall x l hx hl
  cases hc : coveringKey s f with
  | none =>
    rw [coveringKey_eq, List.findSome?_eq_none_iff] at hc
    have hnone := hc x ((mem_lanesOf ..).2 hx)
    rw [laneCover_layer hw hl (by rwa [howner])] at hnone
    exact absurd hnone (by simp)
  | some g =>
    rw [coveringKey_eq] at hc
    obtain ⟨y, hy, hg⟩ := List.exists_of_findSome?_eq_some hc
    obtain ⟨m, hm, rfl⟩ := layer_of_laneCover hg
    rw [hall y m ((mem_lanesOf ..).1 hy) hm]

/-- The layers that a booking writes cover an entry that works under them and was uncovered (R154). -/
theorem coveringKey_written (hlen : s.switch.cells.length = 48) (hl : e.bk.first + e.bk.count ≤ 24) (i : Nat) (hw : hasProtSpan e.roles = true)
    (hf : worksUnder s e f) (hu : uncovered s f) : coveringKey (writeProtCells s i e) f = some e.key := by
  obtain ⟨-, hkey, hdir, hfits, x, hxe, hxf, howned⟩ := hf
  have hwritten {y : Nat} (hy : inGroup e.bk y) : ∃ l, ((writeProtCells s i e).cell f.bk.dir y).protection = some l ∧ l.owner = e.key := by
    obtain ⟨j, hj, rfl⟩ := (inGroup_iff ..).1 hy
    exact ⟨_, hdir ▸ writeProtCells_writes hlen hl i hw hj, rfl⟩
  obtain ⟨l, hlayer, -⟩ := hwritten hxe
  refine coveringKey_layer hkey.symm (fun y m hy hm => ?_) hxf (by rwa [(writeProtCells_feeds s i e).working]) hlayer
  by_cases hin : inGroup e.bk y
  · obtain ⟨l, hl, howner⟩ := hwritten hin
    obtain rfl := Option.some.inj (hl.symm.trans hm)
    exact howner
  · have hout : ∀ j, j < e.bk.count → cellAt (opp e.bk.dir) (e.bk.first + j) ≠ cellAt f.bk.dir y := by
      rw [hdir]
      exact fun j hj hsame => hin ((inGroup_iff ..).2 ⟨j, hj, (cellAt_inj hsame).symm⟩)
    rw [writeProtCells_cell_ne s i e hout, hu y hy] at hm
    exact absurd hm (by simp)

/-- Once a booking's layers are cleared, an entry that they alone covered is uncovered (R154). -/
theorem uncovered_cleared (hw : hasProtSpan e.roles = true) (hf : worksUnder s e f) (hc : coveredBy s e f) : uncovered (clearProtCells s e) f := by
  obtain ⟨-, -, hdir, -⟩ := hf
  intro x hx
  cases hl : ((clearProtCells s e).cell f.bk.dir x).protection with
  | none => rfl
  | some l =>
    obtain ⟨howner, hin⟩ := hc x l hx (clearProtCells_protection hl)
    obtain ⟨j, hj, rfl⟩ := (inGroup_iff ..).1 hin
    have hcleared := clearProtCells_clears s e hw hj
    rw [← hdir, hl] at hcleared
    simp [ownedBy, howner] at hcleared

end Layers

end Sys2Proof.Machine

namespace Sys2Proof.Machine

/-! ### The Preempted flags after layers have changed -/

/-- Work for the entries of indexes in J has left the cells as they were, and every other entry with its notice. -/
structure Aside (J : Nat → Prop) (s t : State) : Prop where
  cells : t.switch.cells = s.switch.cells
  same  : ∀ j, ¬ J j → t.entry j = s.entry j
  said  : ∀ j, ¬ J j → noticeAt t (sourceEntry j) = noticeAt s (sourceEntry j)

section Judged
variable {J : Nat → Prop} {K : Key → Prop} {s t u : State} {i j : Nat} {e f : Entry} {k layer : Key}

theorem Aside.refl (s : State) : Aside J s s := ⟨rfl, fun _ _ => rfl, fun _ _ => rfl⟩

theorem Aside.trans (h : Aside J s t) (g : Aside J t u) : Aside J s u :=
  ⟨g.cells.trans h.cells, fun j hj => (g.same j hj).trans (h.same j hj), fun j hj => (g.said j hj).trans (h.said j hj)⟩

theorem Aside.of_changesOnly {ps : List Part} (h : changesOnly ps s t) (hps : Part.entries ∉ ps ∧ Part.switch ∉ ps ∧ Part.site ∉ ps) :
    Aside J s t := by
  obtain ⟨hentries, hswitch, hsite⟩ := hps
  exact ⟨congrArg Switch.cells (h .switch hswitch), fun j _ => entry_of_entries (changesOnly_entries h hentries) j,
    fun j _ => noticeAt_of_site (changesOnly_site h hsite) _⟩

theorem noteFar_aside (s : State) (port : Dir) (b : Bool) : Aside J s (noteFar s port b) := .of_changesOnly (noteFar_changesOnly s port b) (by decide)

theorem emit_aside (s : State) (d : Dir) (m : Option Msg) : Aside J s (emit s d m) := .of_changesOnly (emit_changesOnly s d m) (by decide)

theorem Quiet.aside (h : Quiet J K s t) : Aside J s t := ⟨h.cells, h.same, h.said⟩

theorem updEntry_aside (hi : J i) (f : Entry → Entry) : Aside J s (updEntry s i f) where
  cells := by rw [updEntry_switch]
  same j hj := by rw [entry_updEntry, if_neg (fun h : i = j => hj (h ▸ hi))]
  said j _ := noticeAt_of_site (updEntry_site ..) _

theorem judgePreempted_aside (hi : J i) (layer : Key) : Aside J s (judgePreempted layer s i) := by
  have hjudged (b : Bool) (c : NoticeBody) : Aside J s (raiseNotice (writePreempted s i b) (sourceEntry i) c) :=
    (updEntry_aside hi _).trans (raiseNotice_quiet (K := fun _ => True) hi c).aside
  unfold judgePreempted
  split
  · exact .refl s
  · split
    · split <;> split
      · exact .refl s
      · exact hjudged _ _
      · exact hjudged _ _
      · exact .refl s
    · exact .refl s

/-- The scan that judges every entry judges each on the layers as they stand, and leaves the verdict (R154). -/
theorem judgeAllPreempted_visits (hj : j < 64) (s : State) (layer : Key) :
    ∃ u, changesOnly [.entries, .site] s u ∧ u.entry j = s.entry j ∧ Aside (· ≠ j) (judgePreempted layer u j) (judgeAllPreempted s layer) := by
  obtain ⟨a, b, ha, hb, hscan⟩ := forEach_indexes hj
  have haside {l : List Nat} (hl : j ∉ l) (v : State) : Aside (· ≠ j) v (forEach l v (judgePreempted layer)) :=
    forEach_relates Aside.refl (fun _ _ _ => Aside.trans) (fun w n hn => judgePreempted_aside (J := (· ≠ j)) (fun h : n = j => hl (h ▸ hn)) layer) v
  refine ⟨forEach a s (judgePreempted layer), forEach_changesOnly (judgePreempted_changesOnly layer) a s, (haside ha s).same j (not_not.2 rfl), ?_⟩
  rw [judgeAllPreempted, hscan]
  exact haside hb _

theorem coveringKey_of_cells (h : t.switch.cells = s.switch.cells) (f : Entry) : coveringKey t f = coveringKey s f := by
  simp only [coveringKey, cell_of_cells h]

/-- An entry with its Preempted flag written (R160). -/
def Entry.flags (f : Entry) (on : Bool) : Entry :=
  { f with preempted := f.preempted.map (fun _ => on), meter := f.meter.map (fun m => { m with preLatch := m.preLatch.map (fun b => b || on) }) }

theorem writePreempted_eq (s : State) (i : Nat) (on : Bool) : writePreempted s i on = updEntry s i (fun f => f.flags on) := rfl

theorem judgePreempted_covers (hf : s.entry j = some f) (hactive : f.state = .active) (hflag : f.preempted = some false) (hk : coveringKey s f = some k) :
    judgePreempted layer s j = raiseNotice (writePreempted s j true) (sourceEntry j) (.preemptState f.key true k) := by
  simp [judgePreempted, hf, hactive, hflag, hk]

theorem judgePreempted_uncovers (hf : s.entry j = some f) (hactive : f.state = .active) (hflag : f.preempted = some true) (hk : coveringKey s f = none) :
    judgePreempted layer s j = raiseNotice (writePreempted s j false) (sourceEntry j) (.preemptState f.key false layer) := by
  simp [judgePreempted, hf, hactive, hflag, hk]

theorem judgePreempted_unflagged (hf : s.entry j = some f) (hflag : f.preempted = none) : judgePreempted layer s j = s := by
  simp [judgePreempted, hf, hflag]

/-- A flag written with its notice has been told (R154, R157, R160). -/
theorem preemptTold_written (hrun : s.phase = .normal) (hf : s.entry j = some f) {b : Bool} (hflag : f.preempted = some b) (on : Bool) (k : Key) :
    preemptTold (raiseNotice (writePreempted s j on) (sourceEntry j) (.preemptState f.key on k)) j f on k := by
  have hentry : (raiseNotice (writePreempted s j on) (sourceEntry j) (.preemptState f.key on k)).entry j = some (f.flags on) := by
    rw [entry_of_entries (raiseNotice_entries ..), writePreempted_eq, entry_updEntry, if_pos rfl, hf, Option.map_some]
  refine ⟨?_, noticeAt_raiseNotice (running_of_normal ((writePreempted_phase ..).trans hrun)) _ _, fun hon m hm hlatch => ?_⟩
  · rw [hentry, Option.bind_some, Entry.flags, hflag, Option.map_some]
  · obtain ⟨b, hb⟩ := Option.ne_none_iff_exists'.1 hlatch
    rw [hentry]
    simp [Entry.flags, hm, hb, hon]

theorem preemptTold_of_aside (h : Aside J s t) (hj : ¬ J j) {on : Bool} (hs : preemptTold s j f on k) : preemptTold t j f on k := by
  unfold preemptTold at hs ⊢
  rwa [h.same j hj, h.said j hj]

/-- Judged with the rest, an unflagged entry that is covered now is flagged (R154). -/
theorem judgeAllPreempted_covers (hj : j < 64) (hrun : s.phase = .normal) (hf : s.entry j = some f) (hactive : f.state = .active)
    (hflag : f.preempted = some false) (hk : coveringKey s f = some k) : preemptTold (judgeAllPreempted s layer) j f true k := by
  obtain ⟨u, hu, hsame, haside⟩ := judgeAllPreempted_visits hj s layer
  have huf := hsame.trans hf
  rw [judgePreempted_covers huf hactive hflag ((coveringKey_of_cells (congrArg Switch.cells (hu .switch (by decide))) f).trans hk)] at haside
  exact preemptTold_of_aside haside (not_not.2 rfl) (preemptTold_written ((hu .phase (by decide)).trans hrun) huf hflag true k)

/-- Judged with the rest, a flagged entry that nothing covers any more loses its flag, to the layer that has gone (R154). -/
theorem judgeAllPreempted_uncovers (hj : j < 64) (hrun : s.phase = .normal) (hf : s.entry j = some f) (hactive : f.state = .active)
    (hflag : f.preempted = some true) (hk : coveringKey s f = none) : preemptTold (judgeAllPreempted s layer) j f false layer := by
  obtain ⟨u, hu, hsame, haside⟩ := judgeAllPreempted_visits hj s layer
  have huf := hsame.trans hf
  rw [judgePreempted_uncovers huf hactive hflag ((coveringKey_of_cells (congrArg Switch.cells (hu .switch (by decide))) f).trans hk)] at haside
  exact preemptTold_of_aside haside (not_not.2 rfl) (preemptTold_written ((hu .phase (by decide)).trans hrun) huf hflag false layer)

theorem judgeAllPreempted_unflagged (hf : s.entry j = some f) (hflag : f.preempted = none) (layer : Key) :
    (judgeAllPreempted s layer).entry j = some f := by
  refine forEach_keeps (fun u => u.entry j = some f) (judgePreempted layer) (fun u n hu => ?_) indexes s hf
  by_cases hn : n = j
  · subst hn
    rw [judgePreempted_unflagged hu hflag, hu]
  · rw [(judgePreempted_aside (J := (· ≠ j)) hn layer).same j (not_not.2 rfl), hu]

theorem judgeAllPreempted_rejudged (s : State) (layer : Key) : Rejudged s (judgeAllPreempted s layer) :=
  forEach_relates Rejudged.refl (fun _ _ _ => Rejudged.trans) (fun u n _ => judgePreempted_rejudged layer u n) s

end Judged

/-! ### The protection path of a booking comes into use and goes out of use -/

/-- From s to t the protection layers of entry e, of index i, have come to its lanes, and the flags of the entries under them have followed
(R144, R151, R154). -/
structure LayersOn (s t : State) (i : Nat) (e : Entry) : Prop where
  layers   : hasProtSpan e.roles = true → ∀ j, j < e.bk.count → (t.cell (opp e.bk.dir) (e.bk.first + j)).protection
    = some { src := layerSource (e.roles.contains .protOrigin) e.bk.input j, owner := e.key, index := i }
  preempts : hasProtSpan e.roles = true → ∀ j f, j < 64 → j ≠ i → s.entry j = some f → worksUnder s e f → uncovered s f →
    f.preempted = some false → preemptTold t j f true e.key
  others   : ∀ j f, j ≠ i → s.entry j = some f → f.preempted = none → t.entry j = some f

/-- From s to t the protection layers of entry e, of index i, have gone from its lanes, and the flags of the entries under them have followed
(R144, R152, R154). -/
structure LayersOff (s t : State) (i : Nat) (e : Entry) : Prop where
  layers   : hasProtSpan e.roles = true → ∀ j, j < e.bk.count → ownedBy (t.cell (opp e.bk.dir) (e.bk.first + j)).protection e.key = false
  preempts : hasProtSpan e.roles = true → ∀ j f, j < 64 → j ≠ i → s.entry j = some f → worksUnder s e f → coveredBy s e f →
    f.preempted = some true → preemptTold t j f false e.key
  others   : ∀ j f, j ≠ i → s.entry j = some f → f.preempted = none → t.entry j = some f

section Path
variable {s t u : State} {i v : Nat} {e f : Entry}

theorem worksUnder_of_cells (h : t.switch.cells = s.switch.cells) (hf : worksUnder s e f) : worksUnder t e f := by
  simpa only [worksUnder, cell_of_cells h] using hf

theorem uncovered_of_cells (h : t.switch.cells = s.switch.cells) (hf : uncovered s f) : uncovered t f := by
  simpa only [uncovered, cell_of_cells h] using hf

theorem coveredBy_of_cells (h : t.switch.cells = s.switch.cells) (hf : coveredBy s e f) : coveredBy t e f := by
  simpa only [coveredBy, cell_of_cells h] using hf

theorem judged_layersOn (hrun : s.phase = .normal) (hlen : s.switch.cells.length = 48) (hl : e.bk.first + e.bk.count ≤ 24) (i : Nat) :
    LayersOn s (judgeAllPreempted (writeProtCells s i e) e.key) i e where
  layers hw j hj := by
    rw [cell_of_cells (congrArg Switch.cells (judgeAllPreempted_changesOnly _ e.key .switch (by decide)))]
    exact writeProtCells_writes hlen hl i hw hj
  preempts hw j f hj _ hf hunder hbare hflag := by
    have hwrite := writeProtCells_switchOnly s i e
    obtain ⟨hactive, -⟩ := id hunder
    exact judgeAllPreempted_covers hj ((hwrite .phase (by decide)).trans hrun) ((entry_of_entries (changesOnly_entries hwrite (by decide)) j).trans hf)
      hactive hflag (coveringKey_written hlen hl i hw hunder hbare)
  others j f _ hf hflag := judgeAllPreempted_unflagged
    ((entry_of_entries (changesOnly_entries (writeProtCells_switchOnly s i e) (by decide)) j).trans hf) hflag _

theorem judged_layersOff (hrun : s.phase = .normal) (i : Nat) (e : Entry) : LayersOff s (judgeAllPreempted (clearProtCells s e) e.key) i e where
  layers hw j hj := by
    rw [cell_of_cells (congrArg Switch.cells (judgeAllPreempted_changesOnly _ e.key .switch (by decide)))]
    exact clearProtCells_clears s e hw hj
  preempts hw j f hj _ hf hunder hcovered hflag := by
    have hclear := clearProtCells_switchOnly s e
    obtain ⟨hactive, -⟩ := id hunder
    exact judgeAllPreempted_uncovers hj ((hclear .phase (by decide)).trans hrun) ((entry_of_entries (changesOnly_entries hclear (by decide)) j).trans hf)
      hactive hflag (coveringKey_bare (uncovered_cleared hw hunder hcovered))
  others j f _ hf hflag := judgeAllPreempted_unflagged
    ((entry_of_entries (changesOnly_entries (clearProtCells_switchOnly s e) (by decide)) j).trans hf) hflag _

theorem LayersOn.around {r : State} (h : LayersOn t u i e) (hs : Aside (· = i) s t) (hr : Aside (· = i) u r) : LayersOn s r i e where
  layers hw j hj := by rw [cell_of_cells hr.cells, h.layers hw j hj]
  preempts hw j f hj hij hf hunder hbare hflag := preemptTold_of_aside hr hij
    (h.preempts hw j f hj hij ((hs.same j hij).trans hf) (worksUnder_of_cells hs.cells hunder) (uncovered_of_cells hs.cells hbare) hflag)
  others j f hij hf hflag := (hr.same j hij).trans (h.others j f hij ((hs.same j hij).trans hf) hflag)

theorem LayersOff.around {r : State} (h : LayersOff t u i e) (hs : Aside (· = i) s t) (hr : Aside (· = i) u r) : LayersOff s r i e where
  layers hw j hj := by rw [cell_of_cells hr.cells, h.layers hw j hj]
  preempts hw j f hj hij hf hunder hcovered hflag := preemptTold_of_aside hr hij
    (h.preempts hw j f hj hij ((hs.same j hij).trans hf) (worksUnder_of_cells hs.cells hunder) (coveredBy_of_cells hs.cells hcovered) hflag)
  others j f hij hf hflag := (hr.same j hij).trans (h.others j f hij ((hs.same j hij).trans hf) hflag)

/-! ### The watch on the protection path -/

theorem watchProtection_monsOnly (s : State) (i : Nat) (e : Entry) (v : Nat) : changesOnly [.mons] s (watchProtection s i e v) :=
  forEach_changesOnly (fun u _ => withMons_changesOnly u _) _ s

theorem unwatchProtection_monsOnly (s : State) (e : Entry) : changesOnly [.mons] s (unwatchProtection s e) :=
  forEach_changesOnly (fun u _ => withMons_changesOnly u _) _ s

/-- The watch puts a protection place on each lane of the path (R120, R127). -/
theorem watchProtection_writes (hlen : s.mons.lanes.length = 48) (hl : e.bk.first + e.bk.count ≤ 24) (i v : Nat) {j : Nat} (hj : j < e.bk.count) :
    ((watchProtection s i e v).mon (inPort (opp e.bk.dir)) (e.bk.first + j)).protection = some (Place.fresh e.key i (v + 5)) := by
  refine forEach_establishes (Q := fun u => u.mons.lanes.length = 48)
    (P := fun x u => x < 24 → (u.mon (inPort (opp e.bk.dir)) x).protection = some (Place.fresh e.key i (v + 5)))
    (fun u n hu => (modifyAt_length ..).trans hu) (fun u n x hx hlt => ?_) (fun u x hu hlt => ?_) ((mem_lanesOf ..).2 ((inGroup_iff ..).2 ⟨j, hj, rfl⟩))
    hlen (by omega)
  · rw [mon_updMon]
    split
    · rfl
    · exact hx hlt
  · rw [mon_updMon, if_pos ⟨rfl, by rw [hu]; exact monAt_lt hlt⟩]

theorem settleWatch_protection (m : LaneMon) : m.settleWatch.protection = m.protection := by
  unfold LaneMon.settleWatch
  split <;> rfl

theorem clearPlace_owner {p : Option Place} {k : Key} {x : Place} (h : clearPlace p k = some x) : x.owner ≠ k := by
  unfold clearPlace at h
  split at h
  · split at h
    · exact absurd h (by simp)
    · obtain rfl := Option.some.inj h
      assumption
  · exact absurd h (by simp)

/-- The end of the watch leaves no protection place of the booking on the path (R120). -/
theorem unwatchProtection_clears (hlen : s.mons.lanes.length = 48) (hl : e.bk.first + e.bk.count ≤ 24) {j : Nat} (hj : j < e.bk.count) {p : Place}
    (hp : ((unwatchProtection s e).mon (inPort (opp e.bk.dir)) (e.bk.first + j)).protection = some p) : p.owner ≠ e.key := by
  have hcleared {m : LaneMon} {p : Place} (h : ({ m with protection := clearPlace m.protection e.key }.settleWatch).protection = some p) :
      p.owner ≠ e.key := clearPlace_owner ((settleWatch_protection _).symm.trans h)
  have hall : e.bk.first + j < 24 → ∀ p, ((unwatchProtection s e).mon (inPort (opp e.bk.dir)) (e.bk.first + j)).protection = some p →
      p.owner ≠ e.key := by
    refine forEach_establishes (Q := fun u => u.mons.lanes.length = 48)
      (P := fun x u => x < 24 → ∀ p, (u.mon (inPort (opp e.bk.dir)) x).protection = some p → p.owner ≠ e.key)
      (fun u n hu => (modifyAt_length ..).trans hu) (fun u n x hx hlt p hp => ?_) (fun u x hu hlt p hp => ?_)
      ((mem_lanesOf ..).2 ((inGroup_iff ..).2 ⟨j, hj, rfl⟩)) hlen
    · rw [mon_updMon] at hp
      split at hp
      · exact hcleared hp
      · exact hx hlt p hp
    · rw [mon_updMon, if_pos ⟨rfl, by rw [hu]; exact monAt_lt hlt⟩] at hp
      exact hcleared hp
  exact hall (by omega) p hp

end Path

end Sys2Proof.Machine

namespace Sys2Proof.Machine

/-! ### BRIDGE at the protection arc -/

/-- An entry with its bridge flag written. -/
def Entry.bridged (e : Entry) (on : Bool) : Entry := { e with bridgeFlag := e.bridgeFlag.map (fun _ => on) }

/-- What a BRIDGE on does before the drop's own state follows: the key, and where the flag was Off the path (R150, R151). -/
def bridgedOn (s : State) (k : Key) (i : Nat) (e : Entry) : State :=
  if e.bridgeFlag = some false then openProtection (setBridgeFlag (applyBridge s k true) i true) i e s.now else applyBridge s k true

/-- What a BRIDGE off does before the drop compares it with its own request (R150, R152). -/
def bridgedOff (s : State) (k : Key) (i : Nat) (e : Entry) : State := closeProtection (setBridgeFlag (applyBridge s k false) i false) e

section Bridge
variable {J : Nat → Prop} {K : Key → Prop} {s t u : State} {k : Key} {i : Nat} {e f : Entry} {p : ProtPart} {drops : StationSet} {on : Bool}

theorem findEntry_applyBridge (s : State) (k : Key) (on : Bool) (x : Key) : findEntry (applyBridge s k on) x = findEntry s x :=
  findEntry_of_entries (changesOnly_entries (applyBridge_changesOnly s k on) (by decide)) x

theorem applyBridge_now (s : State) (k : Key) (on : Bool) : (applyBridge s k on).now = s.now :=
  now_of_clock (changesOnly_clock (applyBridge_changesOnly s k on) (by decide))

theorem isCommitted_active (h : e.state = .active) : isCommitted e = true := (isCommitted_iff e).2 (.inr h)

theorem actBridgeOn_active (hfind : findEntry s k = some (i, e)) (hactive : e.state = .active) (hflag : e.bridgeFlag ≠ none) (drops : StationSet) :
    actBridgeOn s k drops = correctRequest (bridgeSeen (bridgedOn s k i e) i) i true drops := by
  have hfind' := (findEntry_applyBridge s k true k).trans hfind
  have hsome : e.bridgeFlag.isSome = true := Option.isSome_iff_ne_none.2 hflag
  simp only [actBridgeOn, hfind', isCommitted_active hactive, hsome, hactive, applyBridge_now, Bool.and_self, if_true]
  rfl

theorem actBridgeOff_active (hfind : findEntry s k = some (i, e)) (hactive : e.state = .active) (hflag : e.bridgeFlag ≠ none) :
    actBridgeOff s k = correctRequest (bridgedOff s k i e) i false 0 := by
  have hfind' := (findEntry_applyBridge s k false k).trans hfind
  have hsome : e.bridgeFlag.isSome = true := Option.isSome_iff_ne_none.2 hflag
  simp only [actBridgeOff, hfind', isCommitted_active hactive, hsome, hactive, Bool.and_self, if_true]
  rfl

/-- A BRIDGE on puts its key in the set, where there is room (R150). -/
theorem applyBridge_on (hfind : findEntry s k = some (i, e)) (hroom : s.bridged.keys.length < 32) : k ∈ (applyBridge s k true).bridged.keys := by
  have hknown : (lookup s k).isNone = false := by rw [lookup_of_findEntry hfind]; rfl
  by_cases hin : k ∈ s.bridged.keys
  · simp [applyBridge, hknown, hin]
  · simp [applyBridge, hknown, hin, hroom]

/-- A BRIDGE off takes its key out of the set (R150). -/
theorem applyBridge_off (hfind : findEntry s k = some (i, e)) : k ∉ (applyBridge s k false).bridged.keys := by
  have hknown : (lookup s k).isNone = false := by rw [lookup_of_findEntry hfind]; rfl
  simp [applyBridge, hknown, dropBridged]

/-! ### What the drop's own state adds -/

theorem correctRequest_quiet (hi : J i) (on : Bool) (drops : StationSet) : Quiet J K s (correctRequest s i on drops) := by
  unfold correctRequest
  split
  · exact .refl s
  · split
    · exact (markRequest_quiet hi).trans (attemptSwitchreq_quiet hi)
    · exact .refl s

theorem attemptSwitchreq_changesOnly (s : State) (i : Nat) : changesOnly [.lane, .entries] s (attemptSwitchreq s i) := by
  unfold attemptSwitchreq
  split
  · exact changesOnly_refl _ s
  · split
    · exact changesOnly_refl _ s
    · split
      · exact changesOnly_trans (changesOnly_mono (join_changesOnly _ _ _ _) (by decide)) (changesOnly_mono (setEntry_changesOnly _ _ _) (by decide))
      · exact changesOnly_refl _ s

theorem correctRequest_changesOnly (s : State) (i : Nat) (on : Bool) (drops : StationSet) :
    changesOnly [.lane, .entries] s (correctRequest s i on drops) := by
  unfold correctRequest
  split
  · exact changesOnly_refl _ s
  · split
    · exact changesOnly_trans (changesOnly_mono (updEntry_changesOnly _ _ _) (by decide)) (attemptSwitchreq_changesOnly _ i)
    · exact changesOnly_refl _ s

/-- A drop that wants On has nothing to correct in a BRIDGE on (R153). -/
theorem correctRequest_agreed (hf : s.entry i = some f) (hwants : wantedOf f = true) (drops : StationSet) : correctRequest s i true drops = s := by
  simp [correctRequest, hf, hwants]

theorem bridgeSeen_quiet (hi : J i) (hk : keysIn J K s) : Quiet J K s (bridgeSeen s i) := by
  unfold bridgeSeen
  split
  · exact .refl s
  · split
    · exact .refl s
    · split
      · exact changeState_quiet hi hk _ _
      · exact .refl s

theorem bridgeSeen_changesOnly (s : State) (i : Nat) : changesOnly [.entries, .switch, .site] s (bridgeSeen s i) := by
  unfold bridgeSeen
  split
  · exact changesOnly_refl _ s
  · split
    · exact changesOnly_refl _ s
    · split
      · exact changeState_changesOnly _ _ _ _
      · exact changesOnly_refl _ s

theorem bridgeSeen_protects (hf : s.entry i = some f) (hactive : f.state = .active) (hp : f.prot = some p) (hstate : p.state = .bridging) :
    bridgeSeen s i = changeState s i (ProtPart.enter .protecting none none 0) .bridgeSeen := by
  simp [bridgeSeen, hf, hactive, hp, hstate]

/-- What the drop does with a BRIDGE off, once it has been applied (R153). -/
theorem corrected_quiet (t : State) (i : Nat) : Quiet (· = i) (fun _ => True) t (correctRequest t i false 0) :=
  correctRequest_quiet (J := (· = i)) rfl false 0

/-- What the drop does with a BRIDGE on, once it has been applied (R140, R153). -/
theorem answered_quiet (t : State) (i : Nat) (drops : StationSet) :
    Quiet (· = i) (fun _ => True) t (correctRequest (bridgeSeen t i) i true drops) :=
  (bridgeSeen_quiet (J := (· = i)) rfl (keysIn_true t)).trans (correctRequest_quiet (J := (· = i)) rfl true drops)

theorem answered_changesOnly (t : State) (i : Nat) (drops : StationSet) :
    changesOnly [.lane, .entries, .switch, .site] t (correctRequest (bridgeSeen t i) i true drops) :=
  changesOnly_trans (changesOnly_mono (bridgeSeen_changesOnly t i) (by decide)) (changesOnly_mono (correctRequest_changesOnly _ i true drops) (by decide))

/-! ### The path in and out of use -/

theorem openProtection_changesOnly (s : State) (i : Nat) (e : Entry) (v : Nat) :
    changesOnly [.entries, .switch, .mons, .site] s (openProtection s i e v) :=
  changesOnly_trans (changesOnly_mono (writeProtCells_switchOnly s i e) (by decide)) (changesOnly_trans
    (changesOnly_mono (judgeAllPreempted_changesOnly _ e.key) (by decide)) (changesOnly_mono (watchProtection_monsOnly _ i e v) (by decide)))

theorem closeProtection_changesOnly (s : State) (e : Entry) : changesOnly [.entries, .switch, .mons, .site] s (closeProtection s e) :=
  changesOnly_trans (changesOnly_mono (clearProtCells_switchOnly s e) (by decide)) (changesOnly_trans
    (changesOnly_mono (judgeAllPreempted_changesOnly _ e.key) (by decide)) (changesOnly_mono (unwatchProtection_monsOnly _ e) (by decide)))

theorem openProtection_rejudged (s : State) (i : Nat) (e : Entry) (v : Nat) : Rejudged s (openProtection s i e v) :=
  (Rejudged.of_changesOnly (writeProtCells_changesOnly s i e)).trans ((judgeAllPreempted_rejudged _ e.key).trans
    (.of_changesOnly (changesOnly_mono (watchProtection_changesOnly _ i e v) (by decide))))

theorem closeProtection_rejudged (s : State) (e : Entry) : Rejudged s (closeProtection s e) :=
  (Rejudged.of_changesOnly (clearProtCells_changesOnly s e)).trans ((judgeAllPreempted_rejudged _ e.key).trans
    (.of_changesOnly (changesOnly_mono (unwatchProtection_changesOnly _ e) (by decide))))

theorem openProtection_layersOn (hrun : s.phase = .normal) (hlen : s.switch.cells.length = 48) (hl : e.bk.first + e.bk.count ≤ 24) (i v : Nat) :
    LayersOn s (openProtection s i e v) i e :=
  (judged_layersOn hrun hlen hl i).around (.refl s) (.of_changesOnly (watchProtection_monsOnly _ i e v) (by decide))

theorem closeProtection_layersOff (hrun : s.phase = .normal) (i : Nat) (e : Entry) : LayersOff s (closeProtection s e) i e :=
  (judged_layersOff hrun i e).around (.refl s) (.of_changesOnly (unwatchProtection_monsOnly _ e) (by decide))

/-- A BRIDGE has been applied to the key set and to the entry's flag (R150 to R152). -/
theorem flagWritten_aside (s : State) (k : Key) (i : Nat) (on : Bool) : Aside (· = i) s (setBridgeFlag (applyBridge s k on) i on) :=
  (Aside.of_changesOnly (applyBridge_changesOnly s k on) (by decide)).trans (updEntry_aside (J := (· = i)) rfl _)

theorem flagWritten_changesOnly (s : State) (k : Key) (i : Nat) (on : Bool) :
    changesOnly [.entries, .bridged] s (setBridgeFlag (applyBridge s k on) i on) :=
  changesOnly_trans (changesOnly_mono (applyBridge_changesOnly s k on) (by decide)) (changesOnly_mono (updEntry_changesOnly _ i _) (by decide))

theorem entry_flagWritten (he : s.entry i = some e) (k : Key) (on : Bool) :
    (setBridgeFlag (applyBridge s k on) i on).entry i = some (e.bridged on) := by
  rw [setBridgeFlag, entry_updEntry, if_pos rfl, entry_of_entries (changesOnly_entries (applyBridge_changesOnly s k on) (by decide)), he]
  rfl

theorem bridgedOn_opens (h : e.bridgeFlag = some false) :
    bridgedOn s k i e = openProtection (setBridgeFlag (applyBridge s k true) i true) i e s.now := if_pos h

theorem bridgedOn_again (h : e.bridgeFlag ≠ some false) : bridgedOn s k i e = applyBridge s k true := if_neg h

theorem bridgedOn_changesOnly (s : State) (k : Key) (i : Nat) (e : Entry) :
    changesOnly [.entries, .switch, .mons, .bridged, .site] s (bridgedOn s k i e) := by
  unfold bridgedOn
  split
  · exact changesOnly_trans (changesOnly_mono (flagWritten_changesOnly s k i true) (by decide))
      (changesOnly_mono (openProtection_changesOnly _ i e s.now) (by decide))
  · exact changesOnly_mono (applyBridge_changesOnly s k true) (by decide)

theorem bridgedOff_changesOnly (s : State) (k : Key) (i : Nat) (e : Entry) :
    changesOnly [.entries, .switch, .mons, .bridged, .site] s (bridgedOff s k i e) :=
  changesOnly_trans (changesOnly_mono (flagWritten_changesOnly s k i false) (by decide)) (changesOnly_mono (closeProtection_changesOnly _ e) (by decide))

/-- A path that comes into use leaves the outputs as they were, and so does one in use already. -/
theorem bridgedOn_outputs (s : State) (k : Key) (i : Nat) (e : Entry) : (bridgedOn s k i e).switch.outputs = s.switch.outputs := by
  unfold bridgedOn
  split
  · have hopened (u : State) (v : Nat) : (openProtection u i e v).switch.outputs = u.switch.outputs :=
      ((writeProtCells_feeds u i e).trans ((Feeds.of_switch (judgeAllPreempted_changesOnly _ e.key .switch (by decide))).trans
        (.of_switch (watchProtection_monsOnly _ i e v .switch (by decide))))).outputs
    rw [hopened, flagWritten_changesOnly s k i true .switch (by decide)]
  · rw [applyBridge_changesOnly s k true .switch (by decide)]

theorem parts_of_placing (h : f.placing = e.placing) : f.key = e.key ∧ f.bk = e.bk ∧ f.roles = e.roles ∧ f.state = e.state
    ∧ f.prot = e.prot ∧ f.bridgeFlag = e.bridgeFlag := by
  simp only [Entry.placing, Entry.mk.injEq] at h
  obtain ⟨hkey, hbk, hroles, hstate, -, -, -, hprot, -, hflag, -⟩ := h
  exact ⟨hkey, hbk, hroles, hstate, hprot, hflag⟩

theorem Rejudged.entry (h : Rejudged s t) (he : s.entry i = some e) : ∃ f, t.entry i = some f ∧ f.placing = e.placing := by
  have hplacing := h.placing i
  rw [he, Option.map_some] at hplacing
  exact Option.map_eq_some_iff.1 hplacing

/-- The entry that a BRIDGE on has been applied to has its flag On, and is otherwise re-judged at the most (R151). -/
theorem entry_bridgedOn (he : s.entry i = some e) (hflag : e.bridgeFlag ≠ none) (k : Key) :
    ∃ f, (bridgedOn s k i e).entry i = some f ∧ f.placing = (e.bridged true).placing := by
  obtain ⟨b, hb⟩ := Option.ne_none_iff_exists'.1 hflag
  cases b with
  | false =>
    rw [bridgedOn_opens hb]
    exact (openProtection_rejudged _ i e s.now).entry (entry_flagWritten he k true)
  | true =>
    have hsame : e.bridged true = e := by rw [Entry.bridged, hb, Option.map_some, ← hb]
    rw [bridgedOn_again (by simp [hb]), hsame, entry_of_entries (changesOnly_entries (applyBridge_changesOnly s k true) (by decide))]
    exact ⟨e, he, rfl⟩

theorem entry_bridgedOff (he : s.entry i = some e) (k : Key) :
    ∃ f, (bridgedOff s k i e).entry i = some f ∧ f.placing = (e.bridged false).placing :=
  (closeProtection_rejudged _ e).entry (entry_flagWritten he k false)

theorem Quiet.bridgeFlag (h : Quiet J K s t) (hf : s.entry i = some f) : (t.entry i).bind Entry.bridgeFlag = f.bridgeFlag := by
  have hstill := h.still i
  rw [hf, Option.map_some] at hstill
  obtain ⟨g, hg, hgf⟩ := Option.map_eq_some_iff.1 hstill
  rw [hg, Option.bind_some, bridgeFlag_of_still hgf]

theorem bridgedOn_layersOn (hflag : e.bridgeFlag = some false) (hrun : s.phase = .normal) (hlen : s.switch.cells.length = 48)
    (hl : e.bk.first + e.bk.count ≤ 24) (k : Key) (i : Nat) : LayersOn s (bridgedOn s k i e) i e := by
  have hwritten := flagWritten_changesOnly s k i true
  rw [bridgedOn_opens hflag]
  refine (openProtection_layersOn ((hwritten .phase (by decide)).trans hrun) ?_ hl i s.now).around (flagWritten_aside s k i true) (.refl _)
  rw [hwritten .switch (by decide), hlen]

theorem bridgedOff_layersOff (hrun : s.phase = .normal) (k : Key) (i : Nat) (e : Entry) : LayersOff s (bridgedOff s k i e) i e :=
  (closeProtection_layersOff ((flagWritten_changesOnly s k i false .phase (by decide)).trans hrun) i e).around (flagWritten_aside s k i false) (.refl _)

theorem bridgedOn_watches (hflag : e.bridgeFlag = some false) (hlen : s.mons.lanes.length = 48) (hl : e.bk.first + e.bk.count ≤ 24) (k : Key)
    (i : Nat) {j : Nat} (hj : j < e.bk.count) :
    ((bridgedOn s k i e).mon (inPort (opp e.bk.dir)) (e.bk.first + j)).protection = some (Place.fresh e.key i (s.now + 5)) := by
  rw [bridgedOn_opens hflag]
  refine watchProtection_writes ?_ hl i s.now hj
  rw [judgeAllPreempted_changesOnly _ e.key .mons (by decide), writeProtCells_switchOnly _ i e .mons (by decide),
    flagWritten_changesOnly s k i true .mons (by decide), hlen]

theorem bridgedOff_unwatches (hlen : s.mons.lanes.length = 48) (hl : e.bk.first + e.bk.count ≤ 24) (k : Key) (i : Nat) {j : Nat} (hj : j < e.bk.count)
    {x : Place} (hx : ((bridgedOff s k i e).mon (inPort (opp e.bk.dir)) (e.bk.first + j)).protection = some x) : x.owner ≠ e.key := by
  refine unwatchProtection_clears ?_ hl hj hx
  rw [judgeAllPreempted_changesOnly _ e.key .mons (by decide), clearProtCells_switchOnly _ e .mons (by decide),
    flagWritten_changesOnly s k i false .mons (by decide), hlen]

theorem bridged_bridgedOn (s : State) (k : Key) (i : Nat) (e : Entry) : (bridgedOn s k i e).bridged = (applyBridge s k true).bridged := by
  unfold bridgedOn
  split
  · rw [openProtection_changesOnly _ i e s.now .bridged (by decide), setBridgeFlag, updEntry_bridged]
  · rfl

theorem bridged_bridgedOff (s : State) (k : Key) (i : Nat) (e : Entry) : (bridgedOff s k i e).bridged = (applyBridge s k false).bridged := by
  rw [bridgedOff, closeProtection_changesOnly _ e .bridged (by decide), setBridgeFlag, updEntry_bridged]

/-! ### A drop in Bridging that sees its BRIDGE -/

/-- A selector write as it is addressed by an entry with the same output, before which and after which the outputs stay (R108). -/
theorem selectorWritten_around {r : State} {v : Selector} (h : selectorWritten t u f v) (hout : entryOut t f = entryOut s e) (hkey : f.key = e.key)
    (hs : t.switch.outputs = s.switch.outputs) (hr : r.switch.outputs = u.switch.outputs) : selectorWritten s r e v := by
  have houtput {a b : State} (hab : b.switch.outputs = a.switch.outputs) (x : Nat) : b.output x = a.output x := by simp only [State.output, hab]
  simpa only [selectorWritten, hout, hkey, hs, houtput hs, houtput hr] using h

/-- It enters Protected, and has nothing to correct (R140, R153). -/
theorem answered_protects (hf : t.entry i = some f) (hactive : f.state = .active) (hp : f.prot = some p) (hstate : p.state = .bridging)
    (drops : StationSet) : correctRequest (bridgeSeen t i) i true drops = changeState t i (ProtPart.enter .protecting none none 0) .bridgeSeen := by
  obtain ⟨g, hg, -, -, -, hprot, -⟩ := changeState_parts hf hp (ProtPart.enter .protecting none none 0) .bridgeSeen
  rw [bridgeSeen_protects hf hactive hp hstate]
  exact correctRequest_agreed hg (wantedOf_prot hprot) drops

/-- What a BRIDGE on makes of a drop in Bridging, whether or not its path was in use already (R140, R157). -/
theorem bridgedOn_protects (hrun : s.phase = .normal) (he : s.entry i = some e) (hactive : e.state = .active) (hflag : e.bridgeFlag ≠ none)
    (hp : e.prot = some p) (hstate : p.state = .bridging) (k : Key) (drops : StationSet) :
    ((correctRequest (bridgeSeen (bridgedOn s k i e) i) i true drops).entry i).bind Entry.bridgeFlag = some true
      ∧ ((correctRequest (bridgeSeen (bridgedOn s k i e) i) i true drops).entry i).bind Entry.prot = some (ProtPart.enter .protecting none none 0)
      ∧ selectorWritten s (correctRequest (bridgeSeen (bridgedOn s k i e) i) i true drops) e .protection
      ∧ noticeAt (correctRequest (bridgeSeen (bridgedOn s k i e) i) i true drops) (sourceEntry i)
        = some (.protectionState e.key p.state .protecting .bridgeSeen .protection s.now)
      ∧ (correctRequest (bridgeSeen (bridgedOn s k i e) i) i true drops).lane = s.lane := by
  obtain ⟨f, hf, hfe⟩ := entry_bridgedOn he hflag k
  obtain ⟨hfkey, hfbk, hfroles, hfstate, hfprot, hfflag⟩ := parts_of_placing hfe
  have hpart : f.prot = some p := hfprot.trans hp
  have hquiet := answered_quiet (bridgedOn s k i e) i drops
  have hopened := bridgedOn_changesOnly s k i e
  have hself : (bridgedOn s k i e).self = s.self := self_of_cfg (hopened .cfg (by decide))
  have hnow : (bridgedOn s k i e).now = s.now := now_of_clock (changesOnly_clock hopened (by decide))
  obtain ⟨b, hb⟩ := Option.ne_none_iff_exists'.1 hflag
  refine ⟨by rw [hquiet.bridgeFlag hf, hfflag, Entry.bridged, hb, Option.map_some], ?_⟩
  rw [answered_protects hf (hfstate.trans hactive) hpart hstate drops]
  obtain ⟨g, hg, -, -, -, hgprot, -⟩ := changeState_parts hf hpart (ProtPart.enter .protecting none none 0) .bridgeSeen
  refine ⟨by rw [hg, Option.bind_some, hgprot], ?_, ?_, ?_⟩
  · exact selectorWritten_around (changeState_written hf hpart _ _) (entryOut_of_parts hself hfroles hfbk) hfkey (bridgedOn_outputs ..) rfl
  · rw [changeState_tells ((hopened .phase (by decide)).trans hrun) hf hpart, hfkey, hnow]
    rfl
  · exact (changesOnly_lane (changeState_changesOnly _ i _ _) (by decide)).trans (changesOnly_lane hopened (by decide))

end Bridge

section Act
variable {u : State} {k : Key} {i : Nat} {e : Entry} (hfind : findEntry u k = some (i, e)) (hactive : e.state = .active) (hflag : e.bridgeFlag ≠ none)
include hfind hactive hflag

theorem act_bridgeOn (port : Dir) (h : Header) (drops : StationSet) : act u port (hopped { hdr := h, body := .bridge k true drops })
    = (correctRequest (bridgeSeen (bridgedOn u k i e) i) i true drops, hopped { hdr := h, body := .bridge k true drops }) :=
  congrArg (·, hopped { hdr := h, body := .bridge k true drops }) (actBridgeOn_active hfind hactive hflag drops)

theorem act_bridgeOff (port : Dir) (h : Header) : act u port (hopped { hdr := h, body := .bridge k false 0 })
    = (correctRequest (bridgedOff u k i e) i false 0, hopped { hdr := h, body := .bridge k false 0 }) :=
  congrArg (·, hopped { hdr := h, body := .bridge k false 0 }) (actBridgeOff_active hfind hactive hflag)

end Act

/-- Settles O46: the path that comes into use, the path that goes out of use, the drop in Bridging. -/
theorem bridgeTaken : Obligations.BridgeTaken := by
  intro s port h k drops i e hp hfind hactive hcells hlanes hfit
  obtain ⟨⟨hphase, -⟩, -⟩ := id hp
  have hphase' : (noteFar s port false).phase = .normal := by rwa [noteFar_phase]
  have hfind' := (findEntry_of_entries (noteFar_entries s port false) k).trans hfind
  have he := entry_of_findEntry hfind'
  refine ⟨fun hflag => ?_, fun hflag => ?_, fun p hflag hprot hstate => ?_⟩
  · have hkept : e.bridgeFlag ≠ none := by rw [hflag]; decide
    have hact := act_bridgeOn hfind' hactive hkept port h drops
    obtain ⟨f, hf, hfe⟩ := entry_bridgedOn he hkept k
    obtain ⟨-, -, -, -, -, hfflag⟩ := parts_of_placing hfe
    have hquiet := answered_quiet (bridgedOn (noteFar s port false) k i e) i drops
    have hanswered := answered_changesOnly (bridgedOn (noteFar s port false) k i e) i drops
    obtain ⟨hlayers, hpreempts, hothers⟩ := (bridgedOn_layersOn hflag hphase' (by rwa [noteFar_switch]) hfit k i).around (noteFar_aside s port false)
      (hquiet.aside.trans (emit_aside _ (opp port) (some (hopped { hdr := h, body := .bridge k true drops }))))
    refine ⟨_, exec_acted hp rfl hact, ?_, fun hroom => ?_, hlayers, fun j hj => ?_, hpreempts, hothers, passedOn_acted hp hact, changesOnly_around
      (changesOnly_trans (changesOnly_mono (bridgedOn_changesOnly _ k i e) (by decide)) (changesOnly_mono hanswered (by decide))) (by decide) _ _⟩
    · rw [entry_of_entries (emit_entries ..), hquiet.bridgeFlag hf, hfflag, Entry.bridged, hflag, Option.map_some]
    · rw [emit_bridged, hanswered .bridged (by decide), bridged_bridgedOn]
      exact applyBridge_on hfind' (by rwa [noteFar_bridged])
    · rw [mon_of_lanes (congrArg Monitors.lanes ((emit_mons ..).trans (hanswered .mons (by decide)))),
        bridgedOn_watches hflag (by rwa [noteFar_mons]) hfit k i hj, now_noteFar]
  · have hkept : e.bridgeFlag ≠ none := by rw [hflag]; decide
    have hact := act_bridgeOff hfind' hactive hkept port h
    obtain ⟨f, hf, hfe⟩ := entry_bridgedOff he k
    obtain ⟨-, -, -, -, -, hfflag⟩ := parts_of_placing hfe
    have hquiet := corrected_quiet (bridgedOff (noteFar s port false) k i e) i
    have hcorrected := correctRequest_changesOnly (bridgedOff (noteFar s port false) k i e) i false 0
    obtain ⟨hlayers, hpreempts, hothers⟩ := (bridgedOff_layersOff hphase' k i e).around (noteFar_aside s port false)
      (hquiet.aside.trans (emit_aside _ (opp port) (some (hopped { hdr := h, body := .bridge k false 0 }))))
    refine ⟨_, exec_acted hp rfl hact, ?_, ?_, hlayers, fun j x hj hx => ?_, hpreempts, hothers, passedOn_acted hp hact, changesOnly_around
      (changesOnly_trans (changesOnly_mono (bridgedOff_changesOnly _ k i e) (by decide)) (changesOnly_mono hcorrected (by decide))) (by decide) _ _⟩
    · rw [entry_of_entries (emit_entries ..), hquiet.bridgeFlag hf, hfflag, Entry.bridged, hflag, Option.map_some]
    · rw [emit_bridged, hcorrected .bridged (by decide), bridged_bridgedOff]
      exact applyBridge_off hfind'
    · rw [mon_of_lanes (congrArg Monitors.lanes ((emit_mons ..).trans (hcorrected .mons (by decide))))] at hx
      exact bridgedOff_unwatches (by rwa [noteFar_mons]) hfit k i hj hx
  · have hact := act_bridgeOn hfind' hactive hflag port h drops
    obtain ⟨hflagged, hpart, hselector, htold, hlane⟩ := bridgedOn_protects hphase' he hactive hflag hprot hstate k drops
    refine ⟨_, ProtPart.enter .protecting none none 0, exec_acted hp rfl hact, ?_, ?_, rfl, rfl, rfl, rfl, ?_, ?_, queuesKept_around hlane _ _,
      passedOn_acted hp hact, changesOnly_around (changesOnly_trans (changesOnly_mono (bridgedOn_changesOnly _ k i e) (by decide))
        (changesOnly_mono (answered_changesOnly _ i drops) (by decide))) (by decide) _ _⟩
    · rw [entry_of_entries (emit_entries ..), hflagged]
    · rw [entry_of_entries (emit_entries ..), hpart]
    · exact selectorWritten_around hselector (entryOut_of_parts (self_noteFar ..) rfl rfl) rfl (congrArg Switch.outputs (noteFar_switch ..))
        (congrArg Switch.outputs (emit_switch ..))
    · rw [noticeAt_of_site (emit_site ..), htold, hstate, now_noteFar]

end Sys2Proof.Machine

namespace Sys2Proof.Machine

/-! ### What a change of a drop's protection state leaves alone -/

/-- From s to t at most entries, the switch and notices have changed, and of the site port its notices alone. -/
structure NoticedOnly (s t : State) : Prop where
  changes : changesOnly [.entries, .switch, .site] s t
  untold  : t.site.untold = s.site.untold

section Noticed
variable {s t u : State} {i d : Nat} {e : Entry} {p : ProtPart} {r : Request}

theorem NoticedOnly.refl (s : State) : NoticedOnly s s := ⟨changesOnly_refl _ s, rfl⟩

theorem NoticedOnly.trans (h : NoticedOnly s t) (g : NoticedOnly t u) : NoticedOnly s u :=
  ⟨changesOnly_trans h.changes g.changes, g.untold.trans h.untold⟩

theorem changeState_noticedOnly (s : State) (i : Nat) (q : ProtPart) (c : ProtCause) : NoticedOnly s (changeState s i q c) := by
  refine ⟨changeState_changesOnly s i q c, ?_⟩
  cases he : s.entry i with
  | none => simp only [changeState, he]
  | some e =>
    cases hp : e.prot with
    | none => simp only [changeState, he, hp]
    | some p => exact changeState_untold he hp q c

theorem expireHoldOff_noticedOnly (s : State) (i : Nat) : NoticedOnly s (expireHoldOff s i) := by
  unfold expireHoldOff
  split
  · exact .refl s
  · split
    · exact .refl s
    · split
      · dsimp only
        split
        · exact (changeState_noticedOnly s i _ _).trans (changeState_noticedOnly _ i _ _)
        · exact changeState_noticedOnly s i _ _
      · exact .refl s

theorem enterHoldOff_noticedOnly (s : State) (i n : Nat) (c : ProtCause) : NoticedOnly s (enterHoldOff s i n c) := by
  unfold enterHoldOff
  dsimp only
  split
  · exact (changeState_noticedOnly s i _ c).trans (expireHoldOff_noticedOnly _ i)
  · exact changeState_noticedOnly s i _ c

theorem applyOutcome_noticedOnly (s : State) (i : Nat) (p : ProtPart) (st : ProtState) (c : ProtCause) : NoticedOnly s (applyOutcome s i p st c) := by
  cases st with
  | holdOff => exact enterHoldOff_noticedOnly s i _ c
  | working | bridging | protecting | restoreWait | forced | lockout => exact changeState_noticedOnly s i _ c

/-! ### CLEAR_SWITCH -/

/-- Where ClearSwitch takes a Forced drop, by the class of its most recent working record (R148). -/
def clearedForced (work : PathClass) : ProtState := if work = .failed then .protecting else .restoreWait

/-- Where ClearSwitch takes a drop in Lockout, by the class of its most recent working record (R148). -/
def clearedLockout (work : PathClass) : ProtState := if work = .failed then .holdOff else .working

/-- ClearSwitch moves a drop as a boundary's outcome moves one (R138, R148). -/
def clearsTo (s : State) (i : Nat) (p : ProtPart) (st : ProtState) : State := attemptMarked s (applyOutcome s i p st .clearSwitch) i

theorem clearDrop_forced (h : p.state = .forced) : clearDrop s i e p = answer (clearsTo s i p (clearedForced (lastWorkClass e))) .done := by
  cases hw : lastWorkClass e <;> simp only [clearDrop, h, hw] <;> rfl

theorem clearDrop_lockout (h : p.state = .lockout) : clearDrop s i e p = answer (clearsTo s i p (clearedLockout (lastWorkClass e))) .done := by
  cases hw : lastWorkClass e <;> simp only [clearDrop, h, hw] <;> rfl

theorem clearDrop_automatic (hf : p.state ≠ .forced) (hl : p.state ≠ .lockout) : clearDrop s i e p = turnDown s .wrongState := by
  cases h : p.state with
  | forced => exact absurd h hf
  | lockout => exact absurd h hl
  | working | holdOff | bridging | protecting | restoreWait => simp only [clearDrop, h]

theorem outcomePart_restoreWait (s : State) (e : Entry) (n : Nat) : outcomePart s e n .restoreWait
    = { state := .restoreWait, holdOff := none, restoreWait := some (s.nowMs + s.cfg.restoreWait * 60000), resends := n } := rfl

theorem outcomePart_holdOff (h : 0 < s.cfg.holdOff) (e : Entry) (n : Nat) : outcomePart s e n .holdOff
    = { state := .holdOff, holdOff := some (s.nowMs + s.cfg.holdOff * 100), restoreWait := none, resends := n } := if_neg h.ne'

/-- From s to t a site request has put the drop of index i in the part q, and nothing of another entry has changed. -/
structure Cleared (s t : State) (i : Nat) (q : ProtPart) : Prop where
  part    : (t.entry i).bind Entry.prot = some q
  untold  : t.site.untold = s.site.untold
  others  : ∀ j, j ≠ i → t.entry j = s.entry j
  changes : changesOnly [.lane, .entries, .switch, .site] s t

theorem clearsTo_cleared (he : s.entry i = some e) (hactive : e.state = .active) (hp : e.prot = some p) (st : ProtState) :
    Cleared s (clearsTo s i p st) i (outcomePart s e p.resends st) := by
  obtain ⟨f, hf, -, hprot⟩ := (applyOutcome_moves he hactive hp st .clearSwitch).entry he
  obtain ⟨hmoved, huntold⟩ := applyOutcome_noticedOnly s i p st .clearSwitch
  have hattempt := attemptMarked_changesOnly (s := s) hf
  have hquiet : Quiet (· = i) (fun _ => True) s (clearsTo s i p st) :=
    (applyOutcome_quiet (J := (· = i)) rfl (keysIn_true s) p st .clearSwitch).trans (attemptMarked_quiet rfl)
  exact {
    part := by
      obtain ⟨o, ho⟩ := attemptMarked_entry (s := s) hf
      rw [clearsTo, ho, Option.bind_some, hprot]
    untold := by rw [clearsTo, changesOnly_site hattempt (by decide), huntold]
    others := hquiet.same
    changes := changesOnly_trans (changesOnly_mono hmoved (by decide)) (changesOnly_mono hattempt (by decide)) }

section Exec
variable {tag : Byte} {params : List Byte} {x : Status} (hready : portReady s) (hl : params.length = 3)
  (hfind : findEntry s (keyAt params 0) = some (i, e)) (hactive : e.state = .active) (hp : e.prot = some p)
include hready hl hfind hactive hp

theorem exec_clearSwitch_drop (h : clearDrop s i e p = answer u x) : exec (.clearSwitch tag params) s
    = .next (u.withSite { u.site with reply := some { tag := tag, code := codeClearSwitch, status := x, data := .none } }) :=
  congrArg Host.Outcome.next (siteRequest_answered hready tag (by rw [hl]; rfl) ((manualRequest_drop hfind hactive hp _).trans h))

end Exec

end Noticed

/-- Settles O24: a Forced drop and one in Lockout go where the outcome for their class takes them; any other is turned down. -/
theorem clearSwitchReturnsDrop : Obligations.ClearSwitchReturnsDrop := by
  intro s tag params i e p hready hl hfind hactive hp
  have he := entry_of_findEntry hfind
  refine ⟨fun hmanual => ?_, fun hforced hlockout => exec_clearSwitch_drop hready hl hfind hactive hp (clearDrop_automatic hforced hlockout)⟩
  obtain hstate | hstate := hmanual
  · have hcleared := clearsTo_cleared he hactive hp (clearedForced (lastWorkClass e))
    refine ⟨_, _, exec_clearSwitch_drop hready hl hfind hactive hp (clearDrop_forced hstate), hcleared.part, fun _ hfailed => ?_, fun _ hfine => ?_,
      fun hother => ?_, fun hother => ?_, repliesWith_of_untold _ _ _ _ hcleared.untold, hcleared.others,
      changesOnly_trans hcleared.changes (changesOnly_mono (withSite_changesOnly _ _) (by decide))⟩
    · rw [clearedForced, if_pos hfailed]
      exact ⟨rfl, rfl, rfl⟩
    · rw [clearedForced, if_neg hfine, outcomePart_restoreWait]
      exact ⟨rfl, rfl, rfl⟩
    · exact absurd (hstate.symm.trans hother) (by decide)
    · exact absurd (hstate.symm.trans hother) (by decide)
  · have hcleared := clearsTo_cleared he hactive hp (clearedLockout (lastWorkClass e))
    refine ⟨_, _, exec_clearSwitch_drop hready hl hfind hactive hp (clearDrop_lockout hstate), hcleared.part, fun hother => ?_, fun hother => ?_,
      fun _ hfailed hpositive => ?_, fun _ hfine => ?_, repliesWith_of_untold _ _ _ _ hcleared.untold, hcleared.others,
      changesOnly_trans hcleared.changes (changesOnly_mono (withSite_changesOnly _ _) (by decide))⟩
    · exact absurd (hstate.symm.trans hother) (by decide)
    · exact absurd (hstate.symm.trans hother) (by decide)
    · rw [clearedLockout, if_pos hfailed, outcomePart_holdOff hpositive]
      exact ⟨rfl, rfl, rfl⟩
    · rw [clearedLockout, if_neg hfine]
      exact ⟨rfl, rfl, rfl⟩

end Sys2Proof.Machine

namespace Sys2Proof.Machine

/-! ### The protection controller's timers -/

section Timers
variable {s u : State} {i d : Nat} {e f : Entry} {p : ProtPart} {r : Request}

theorem attemptMarked_of_entries (h : u.entries = s.entries) (t : State) (i : Nat) : attemptMarked u t i = attemptMarked s t i := by
  have hdiffers : requestDiffers u i = requestDiffers s i := by simp only [requestDiffers, entry_of_entries h]
  rw [attemptMarked, hdiffers, attemptMarked]

theorem exec_holdOffExpiry (he : s.entry i = some e) (hp : e.prot = some p) (hd : p.holdOff = some d) :
    exec (.holdOffExpiry i) s = .next (attemptMarked (reach s d) (expireHoldOff (reach s d) i) i) := by
  rw [attemptMarked_of_entries (reach_entries s d)]
  simp [exec, execHoldOffExpiry, he, hp, hd]

theorem exec_restoreWaitExpiry (he : s.entry i = some e) (hactive : e.state = .active) (hp : e.prot = some p) (hstate : p.state = .restoreWait)
    (hd : p.restoreWait = some d) : exec (.restoreWaitExpiry i) s = .next (attemptMarked (reach s d)
      (changeState (reach s d) i (ProtPart.enter .working none none p.resends) .restoreExpiry) i) := by
  rw [attemptMarked_of_entries (reach_entries s d)]
  simp [exec, execRestoreWaitExpiry, expireRestoreWait, he, entry_reach he, hp, hd, hactive, hstate]

/-- Where the announced value agreed with the wanted one before, the attempt at the moment of marking queues the newly wanted value (R143). -/
theorem attemptMarked_asks (hs : requestDiffers s i = false) (hu : NoticedOnly s u) (hf : u.entry i = some f) (hactive : f.state = .active)
    (hr : f.request = some r) (hmarked : r.toSend = true) (hnew : wantedOf f ≠ r.announced) (hroom : canJoinProt s f.bk.dir = true) :
    joins s (attemptMarked s u i) f.bk.dir f.key.seq (.switchreq f.key s.self (wantedOf f))
      ∧ ((attemptMarked s u i).entry i).bind Entry.request = some { announced := wantedOf f, toSend := false } := by
  have hlane : u.lane = s.lane := changesOnly_lane hu.changes (by decide)
  have hcfg : u.cfg = s.cfg := changesOnly_cfg hu.changes (by decide)
  have hdiffers : requestDiffers u i = true := by rw [requestDiffers_eq hf hr]; simpa using hnew
  rw [attemptMarked_sends hs hdiffers hf hr hactive hmarked (by rwa [canJoinProt_of_lane hlane])]
  refine ⟨joins_from_lane (joins_of_lane ?_ (setEntry_lane ..)) hlane hcfg, by rw [entry_requestSent hf]; rfl⟩
  rw [self_of_cfg hcfg]
  exact joins_join ..

/-- A request announced Off is marked by a state that wants On (R143). -/
theorem follow_wanted (h : r.announced = false) (before : Bool) : r.follow before true = { announced := false, toSend := true } := by
  rw [follow_differs (by simp [h]), h]

/-- A drop whose hold-off has run out wants its bridge and is marked so, whether or not it goes on to Protected (R139, R143). -/
theorem expireHoldOff_marks (he : s.entry i = some e) (hactive : e.state = .active) (hp : e.prot = some p) (hstate : p.state = .holdOff)
    (hr : e.request = some r) (hoff : r.announced = false) : ∃ f, (expireHoldOff s i).entry i = some f ∧ f.key = e.key ∧ f.bk = e.bk
      ∧ f.state = e.state ∧ wantedOf f = true ∧ f.request = some { announced := false, toSend := true } := by
  obtain ⟨f, hf, hkey, hbk, hfstate, hprot, hrequest⟩ := changeState_parts he hp (ProtPart.enter .bridging none none 0) .holdOffExpiry
  have hmarked : f.request = some { announced := false, toSend := true } := by
    rw [hrequest, hr, Option.map_some]
    exact congrArg some (follow_wanted hoff _)
  by_cases hflag : e.bridgeFlag = some true
  · obtain ⟨g, hg, hgkey, hgbk, hgstate, hgprot, hgrequest⟩ := changeState_parts hf hprot (ProtPart.enter .protecting none none 0) .bridgeSeen
    refine ⟨g, ?_, hgkey.trans hkey, hgbk.trans hbk, hgstate.trans hfstate, wantedOf_prot hgprot, ?_⟩
    · rw [← hg]
      simp [expireHoldOff, he, hactive, hp, hstate, hflag]
    · rw [hgrequest, hmarked, Option.map_some]
      exact congrArg some (follow_wanted (r := { announced := false, toSend := true }) rfl _)
  · refine ⟨f, ?_, hkey, hbk, hfstate, wantedOf_prot hprot, hmarked⟩
    rw [← hf]
    simp [expireHoldOff, he, hactive, hp, hstate, hflag]

end Timers

/-- Settles O57: the hold-off's two outcomes ask for the bridge alike, the restore wait's one is a single move of the drop. -/
theorem protectionTimers : Obligations.ProtectionTimers := by
  refine ⟨fun s i d e p r hrun he hactive hp hstate hd hr hoff hroom => ?_, fun s i d e p r hrun he hactive hp hstate hd hr hon hroom => ?_⟩
  · have he' := entry_reach he d
    have hmoved := expireHoldOff_noticedOnly (reach s d) i
    obtain ⟨f, hf, hkey, hbk, hfstate, hwants, hmarked⟩ := expireHoldOff_marks he' hactive hp hstate hr hoff
    have hagreed : requestDiffers (reach s d) i = false := by rw [requestDiffers_eq he' hr, wantedOf_prot hp, hstate, hoff]; rfl
    have hroom' : canJoinProt (reach s d) f.bk.dir = true := by rwa [canJoinProt_of_lane (reach_lane s d), hbk]
    obtain ⟨hjoins, hsent⟩ := attemptMarked_asks hagreed hmoved hf (hfstate.trans hactive) hmarked rfl (by rw [hwants]; decide) hroom'
    rw [hkey, hbk, hwants, self_reach] at hjoins
    have hattempt := attemptMarked_changesOnly (s := reach s d) hf
    have hquiet : Quiet (· = i) (fun _ => True) (reach s d) (attemptMarked (reach s d) (expireHoldOff (reach s d) i) i) :=
      (expireHoldOff_quiet (J := (· = i)) rfl (keysIn_true _)).trans (attemptMarked_quiet rfl)
    refine ⟨_, bridgingPart e, exec_holdOffExpiry he hp hd, ?_, rfl, rfl, rfl, ?_, joins_from_lane hjoins (reach_lane s d) (reach_cfg s d),
      fun j hj => (hquiet.same j hj).trans (entry_of_entries (reach_entries s d) j), timed
        (changesOnly_trans (changesOnly_mono hmoved.changes (by decide)) (changesOnly_mono hattempt (by decide))) (by decide) (by decide)⟩
    · obtain ⟨o, ho⟩ := attemptMarked_entry (s := reach s d) hf
      have hpart := (expireHoldOff_moves he' hactive hp hstate).part
      rw [hf, Option.bind_some] at hpart
      rw [ho, Option.bind_some, hpart]
    · rw [hsent, hwants]
  · have hmoved := changeState_commands ((reach_phase s d).trans hrun) (entry_reach he d) hactive hp (ProtPart.enter .working none none p.resends)
      .restoreExpiry
    obtain ⟨hjoins, hsent⟩ := hmoved.asked r hr (by rw [hon, hstate]; rfl) (by rw [hstate]; exact Bool.noConfusion)
      ((canJoinProt_of_lane (reach_lane s d) _).trans hroom)
    rw [self_reach] at hjoins
    have hsaid := hmoved.said
    rw [hstate, now_reach] at hsaid
    have hswitch : (reach s d).switch.outputs = s.switch.outputs := congrArg Switch.outputs (reach_switch s d)
    exact ⟨_, _, exec_restoreWaitExpiry he hactive hp hstate hd, hmoved.part, rfl, rfl,
      selectorWritten_around hmoved.selector (entryOut_of_parts (self_reach s d) rfl rfl) rfl hswitch rfl, hsent,
      joins_from_lane hjoins (reach_lane s d) (reach_cfg s d), hsaid,
      fun j hj => (hmoved.others j hj).trans (entry_of_entries (reach_entries s d) j), timed hmoved.changes (by decide) (by decide)⟩

end Sys2Proof.Machine

namespace Sys2Proof.Machine

/-! ### One station in a set -/

section Stations
variable {x : Nat}

theorem stationIn_empty (x : Nat) : stationIn 0 x = false := by simp [stationIn]

theorem stationAdd_empty (x : Nat) : stationAdd 0 x = stationBit x := by simp [stationAdd]

theorem stationRemove_stationBit (x : Nat) : stationRemove (stationBit x) x = 0 := by simp [stationRemove]

theorem stationIn_stationBit_same (hx : x < 16) : stationIn (stationBit x) x = true := by rw [stationIn_stationBit hx, decide_eq_true rfl]

theorem stationBit_ne_empty (hx : x < 16) : stationBit x ≠ 0 := fun h => by
  have hin := stationIn_stationBit_same hx
  rw [h, stationIn_empty] at hin
  exact absurd hin (by decide)

end Stations

/-! ### The bridge of an origin -/

/-- An origin's entry with its bridge set written and its marker set (R144). -/
def Entry.bridgeAsked (e : Entry) (drops : StationSet) : Entry :=
  { e with bridge := e.bridge.map (fun b => { b with drops := drops, toSend := true }) }

/-- What the origin does once its protection layers are as its bridge set asks: pre-emption and BridgeState (R144, R154, R157). -/
def bridgeTold (u : State) (i : Nat) (e : Entry) (on : Bool) (drops : StationSet) : State :=
  raiseNotice (judgeAllPreempted u e.key) (sourceEntry i) (.bridgeState e.key on drops)

/-- The origin's entry f of index i has sent a bridge set on (R149). -/
def bridgeSent (t : State) (i : Nat) (f : Entry) (on : Bool) (drops : StationSet) : State :=
  setEntry (join t f.bk.dir f.key.seq (.bridge f.key on drops)) i
    { f with bridge := some { drops := drops, announced := on, toSend := false } }

/-- From s to t the origin's bridge for entry e of index i has come to a set of drops, whatever became of the layers: the set, the notice, the BRIDGE
that joins, and the key that leaves the bridged-key set with the last drop (R144, R149, R150). -/
structure BridgeTurned (s t : State) (i : Nat) (e : Entry) (on : Bool) (drops : StationSet) : Prop where
  bridge  : (t.entry i).bind Entry.bridge = some { drops := drops, announced := on, toSend := false }
  said    : noticeAt t (sourceEntry i) = some (.bridgeState e.key on drops)
  joined  : joins s t e.bk.dir e.key.seq (.bridge e.key on drops)
  gone    : on = false → e.key ∉ t.bridged.keys
  changes : changesOnly [.lane, .entries, .switch, .bridged, .site] s t

section Origin
variable {s u : State} {i station : Nat} {e f : Entry} {b : BridgeSet} {k : Key} {on : Bool} {drops : StationSet}

theorem index_lt_of_findEntry (h : findEntry s k = some (i, e)) : i < 64 := by
  obtain ⟨⟨hlt, -⟩, -⟩ := firstEntry_some (lookup_of_findEntry h)
  exact hlt

/-- An entry of the calendar is found under its key (R48). -/
theorem lookup_isNone_false (hi : i < 64) (hf : s.entry i = some f) (hk : f.key = k) : (lookup s k).isNone = false := by
  cases h : lookup s k with
  | some j => rfl
  | none => exact absurd (firstEntry_none h i f hi hf) (by simp [hk])

theorem setBridgeDrops_entry (he : s.entry i = some e) (drops : StationSet) : (setBridgeDrops s i drops).entry i = some (e.bridgeAsked drops) := by
  rw [setBridgeDrops, entry_updEntry, if_pos rfl, he]
  rfl

theorem setBridgeDrops_aside (s : State) (i : Nat) (drops : StationSet) : Aside (· = i) s (setBridgeDrops s i drops) :=
  updEntry_aside (J := (· = i)) rfl _

theorem setBridgeDrops_changesOnly (s : State) (i : Nat) (drops : StationSet) : changesOnly [.entries] s (setBridgeDrops s i drops) :=
  updEntry_changesOnly s i _

/-- The BRIDGE of an origin with its marker set, where the queue has a place (R149). -/
theorem attemptBridge_sends {announced : Bool} (hf : s.entry i = some f)
    (hb : f.bridge = some { drops := drops, announced := announced, toSend := true }) (hactive : f.state = .active)
    (hroom : canJoinProt s f.bk.dir = true) : attemptBridge s i = applyBridge (bridgeSent s i f (drops != 0) drops) f.key (drops != 0) := by
  simp [attemptBridge, bridgeSent, hf, hb, hactive, hroom]

theorem entry_bridgeSent (hf : s.entry i = some f) (on : Bool) (drops : StationSet) : (bridgeSent s i f on drops).entry i
    = some { f with bridge := some { drops := drops, announced := on, toSend := false } } := entry_setEntry_join hf ..

theorem joins_bridgeSent (s : State) (i : Nat) (f : Entry) (on : Bool) (drops : StationSet) :
    joins s (bridgeSent s i f on drops) f.bk.dir f.key.seq (.bridge f.key on drops) := joins_of_lane (joins_join ..) (setEntry_lane ..)

/-- A BRIDGE off applied takes the key of an entry out of the set (R150). -/
theorem applyBridge_withdraws (hknown : (lookup s k).isNone = false) : k ∉ (applyBridge s k false).bridged.keys := by
  simp [applyBridge, hknown, dropBridged]

theorem attemptBridge_changesOnly (s : State) (i : Nat) : changesOnly [.lane, .entries, .bridged] s (attemptBridge s i) := by
  unfold attemptBridge
  split
  · exact changesOnly_refl _ s
  · split
    · exact changesOnly_refl _ s
    · split
      · exact changesOnly_trans (changesOnly_mono (join_changesOnly _ _ _ _) (by decide)) (changesOnly_trans
          (changesOnly_mono (setEntry_changesOnly _ _ _) (by decide)) (changesOnly_mono (applyBridge_changesOnly _ _ _) (by decide)))
      · exact changesOnly_refl _ s

theorem bridgeTold_changesOnly (u : State) (i : Nat) (e : Entry) (on : Bool) (drops : StationSet) :
    changesOnly [.entries, .site] u (bridgeTold u i e on drops) :=
  changesOnly_trans (judgeAllPreempted_changesOnly u e.key) (changesOnly_mono (raiseNotice_changesOnly _ _ _) (by decide))

/-- What follows the judging of the Extra entries is of the origin's own entry. -/
theorem sent_aside (u : State) (i : Nat) (e : Entry) (on : Bool) (drops : StationSet) :
    Aside (· = i) (judgeAllPreempted u e.key) (attemptBridge (bridgeTold u i e on drops) i) :=
  ((raiseNotice_quiet (J := (· = i)) (K := fun _ => True) rfl _).trans (attemptBridge_quiet rfl)).aside

/-- The origin's entry once its bridge set has been written, told and judged with the rest. -/
theorem bridgeTold_entry (he : s.entry i = some e) (hb : e.bridge = some b) (hu : changesOnly [.switch] (setBridgeDrops s i drops) u) (on : Bool) :
    ∃ f, (bridgeTold u i e on drops).entry i = some f ∧ f.key = e.key ∧ f.bk = e.bk ∧ f.state = e.state
      ∧ f.bridge = some { drops := drops, announced := b.announced, toSend := true } := by
  have huf : u.entry i = some (e.bridgeAsked drops) :=
    (entry_of_entries (changesOnly_entries hu (by decide)) i).trans (setBridgeDrops_entry he drops)
  obtain ⟨f, hf, hplacing⟩ := (judgeAllPreempted_rejudged u e.key).entry huf
  obtain ⟨hkey, hbk, -, hstate, -⟩ := parts_of_placing hplacing
  refine ⟨f, (entry_of_entries (raiseNotice_entries ..) i).trans hf, hkey, hbk, hstate, ?_⟩
  have hasked := congrArg Entry.bridge hplacing
  simpa only [Entry.placing, Entry.bridgeAsked, hb, Option.map_some] using hasked

/-- Whatever becomes of the layers, the origin's bridge turns with its set (R144, R149). -/
theorem bridge_turns (hrun : s.phase = .normal) (hi : i < 64) (he : s.entry i = some e) (hactive : e.state = .active) (hb : e.bridge = some b)
    (hroom : canJoinProt s e.bk.dir = true) (hon : (drops != 0) = on) (hu : changesOnly [.switch] (setBridgeDrops s i drops) u) :
    BridgeTurned s (attemptBridge (bridgeTold u i e on drops) i) i e on drops := by
  obtain ⟨f, hf, hkey, hbk, hstate, hbridge⟩ := bridgeTold_entry he hb hu on
  have htold : changesOnly [.entries, .switch, .site] s (bridgeTold u i e on drops) :=
    changesOnly_trans (changesOnly_mono (setBridgeDrops_changesOnly s i drops) (by decide))
      (changesOnly_trans (changesOnly_mono hu (by decide)) (changesOnly_mono (bridgeTold_changesOnly u i e on drops) (by decide)))
  have hlane : (bridgeTold u i e on drops).lane = s.lane := changesOnly_lane htold (by decide)
  have hfree : canJoinProt (bridgeTold u i e on drops) f.bk.dir = true := by
    rw [hbk]
    exact (canJoinProt_of_lane hlane _).trans hroom
  have hsends := attemptBridge_sends hf hbridge (hstate.trans hactive) hfree
  have hjoins := joins_bridgeSent (bridgeTold u i e on drops) i f on drops
  have hsent := entry_bridgeSent hf on drops
  have happlied : changesOnly [.bridged] (bridgeSent (bridgeTold u i e on drops) i f on drops) _ := applyBridge_changesOnly _ e.key on
  rw [hon, hkey] at hsends
  rw [hkey, hbk] at hjoins
  exact {
    bridge := by rw [hsends, entry_of_entries (changesOnly_entries happlied (by decide)), hsent, Option.bind_some]
    said := by
      have hphase : (judgeAllPreempted u e.key).phase = .normal :=
        (judgeAllPreempted_changesOnly u e.key .phase (by decide)).trans ((hu .phase (by decide)).trans ((setBridgeDrops_phase s i drops).trans hrun))
      rw [noticeAt_of_site (attemptBridge_site _ i)]
      exact noticeAt_raiseNotice (running_of_normal hphase) _ _
    joined := by
      rw [hsends]
      exact joins_from_lane (joins_of_lane hjoins (changesOnly_lane happlied (by decide))) hlane (changesOnly_cfg htold (by decide))
    gone := by
      rintro rfl
      rw [hsends]
      exact applyBridge_withdraws (lookup_isNone_false hi hsent hkey)
    changes := changesOnly_trans (changesOnly_mono htold (by decide)) (changesOnly_mono (attemptBridge_changesOnly _ i) (by decide)) }

/-! ### SWITCHREQ at the origin -/

section Act
variable (horigin : k.origin = s.self) (hfind : findEntry s k = some (i, e)) (hactive : e.state = .active) (hprotected : e.bk.isProtected = true)
  (hdrop : isDrop e.bk station = true) (hb : e.bridge = some b)
include horigin hfind hactive hprotected hdrop hb

/-- The first On brings the bridge on (R144). -/
theorem actSwitchreq_first (hnone : b.drops = 0) : actSwitchreq s k station true = attemptBridge
    (bridgeTold (writeProtCells (setBridgeDrops s i (stationBit station)) i e) i e true (stationBit station)) i := by
  simp only [actSwitchreq, horigin, hfind, hb, hactive, hprotected, hdrop, hnone, stationIn_empty, stationAdd_empty, bne_self_eq_false,
    beq_self_eq_true, Bool.and_self, Bool.false_eq_true, if_true, if_false, originBridgeOn, bridgeTold]

/-- The last Off takes the bridge off (R144). -/
theorem actSwitchreq_last (hx : station < 16) (hone : b.drops = stationBit station) : actSwitchreq s k station false = attemptBridge
    (bridgeTold (clearProtCells (setBridgeDrops s i 0) e) i e false 0) i := by
  simp only [actSwitchreq, horigin, hfind, hb, hactive, hprotected, hdrop, hone, stationIn_stationBit_same hx, stationRemove_stationBit,
    bne_self_eq_false, beq_self_eq_true, Bool.and_self, Bool.false_eq_true, if_true, if_false, originBridgeOff, bridgeTold]

end Act

theorem canJoinProt_noteFar (s : State) (port d : Dir) (b : Bool) : canJoinProt (noteFar s port b) d = canJoinProt s d := by
  have hheld : heldFor (noteFar s port b) d = heldFor s d := by cases port <;> rfl
  simp only [canJoinProt, hasPlace, queue_noteFar, hheld]

theorem act_switchreq (s : State) (port : Dir) (h : Header) (k : Key) (station : Nat) (on : Bool) :
    act s port (hopped { hdr := h, body := .switchreq k station on })
      = (actSwitchreq s k station on, hopped { hdr := h, body := .switchreq k station on }) := rfl

end Origin

/-- Settles O45: On and Off are one turn of the bridge each, beside the layers that come or go. -/
theorem switchreqTaken : Obligations.SwitchreqTaken := by
  intro s port h k station i e b hp horigin hfind hactive hprotected hdrop hx hb hroom hcells hfit
  obtain ⟨⟨hphase, -⟩, -⟩ := id hp
  have hrun : (noteFar s port false).phase = .normal := by rwa [noteFar_phase]
  have hfind' := (findEntry_of_entries (noteFar_entries s port false) k).trans hfind
  have he := entry_of_findEntry hfind'
  have hi := index_lt_of_findEntry hfind
  have horigin' : k.origin = (noteFar s port false).self := by rwa [self_noteFar]
  have hroom' : canJoinProt (noteFar s port false) e.bk.dir = true := by rwa [canJoinProt_noteFar]
  obtain rfl := key_of_findEntry hfind
  refine ⟨fun hnone => ?_, fun hone => ?_⟩
  · have hact := (act_switchreq (noteFar s port false) port h e.key station true).trans
      (congrArg (·, _) (actSwitchreq_first horigin' hfind' hactive hprotected hdrop hb hnone))
    have hwrite := writeProtCells_switchOnly (setBridgeDrops (noteFar s port false) i (stationBit station)) i e
    have hturned := bridge_turns (on := true) hrun hi he hactive hb hroom' (by simpa using stationBit_ne_empty hx) hwrite
    have hlayers := (judged_layersOn (s := setBridgeDrops (noteFar s port false) i (stationBit station)) ((setBridgeDrops_phase ..).trans hrun)
      (by rwa [setBridgeDrops_switch, noteFar_switch]) hfit i).around
        ((noteFar_aside s port false).trans (setBridgeDrops_aside _ i _))
        ((sent_aside _ i e true (stationBit station)).trans
          (emit_aside _ (opp port) (some (hopped { hdr := h, body := .switchreq e.key station true }))))
    obtain ⟨hcome, hpreempts, hothers⟩ := hlayers
    refine ⟨_, exec_acted hp rfl hact, ?_, ?_, joins_around hturned.joined _ _, hcome, hpreempts, hothers, passedOn_acted hp hact,
      changesOnly_around hturned.changes (by decide) _ _⟩
    · rw [entry_of_entries (emit_entries ..), hturned.bridge]
    · rw [noticeAt_of_site (emit_site ..), hturned.said]
  · have hact := (act_switchreq (noteFar s port false) port h e.key station false).trans
      (congrArg (·, _) (actSwitchreq_last horigin' hfind' hactive hprotected hdrop hb hx hone))
    have hclear := clearProtCells_switchOnly (setBridgeDrops (noteFar s port false) i 0) e
    have hturned := bridge_turns (on := false) hrun hi he hactive hb hroom' rfl hclear
    have hlayers := (judged_layersOff (s := setBridgeDrops (noteFar s port false) i 0) ((setBridgeDrops_phase ..).trans hrun) i e).around
      ((noteFar_aside s port false).trans (setBridgeDrops_aside _ i _))
      ((sent_aside _ i e false 0).trans (emit_aside _ (opp port) (some (hopped { hdr := h, body := .switchreq e.key station false }))))
    obtain ⟨hgo, hpreempts, hothers⟩ := hlayers
    refine ⟨_, exec_acted hp rfl hact, ?_, ?_, joins_around hturned.joined _ _, hgo, ?_, hpreempts, hothers, passedOn_acted hp hact,
      changesOnly_around hturned.changes (by decide) _ _⟩
    · rw [entry_of_entries (emit_entries ..), hturned.bridge]
    · rw [noticeAt_of_site (emit_site ..), hturned.said]
    · rw [emit_bridged]
      exact hturned.gone rfl

end Sys2Proof.Machine
